-- ==== Sys2Proof/Word.lean ====
section
/-! DEFINITION. The words of the FN6: bytes, 16-bit fields, instants of the time base (R1), and the two
containers for the things the part has exactly two or four of (valves, doors and sirens; spark channels). -/

namespace Sys2Proof

/-- One byte of a frame, of the configuration image, of a log record or of the exchange area. -/
abbrev Byte := BitVec 8

/-- A 16-bit field of a frame or of a record, high byte first on the wire (appendix A). -/
abbrev Half := BitVec 16

/-- R1: an instant is a value of the 32-bit millisecond time base. -/
abbrev Instant := BitVec 32

/-- Two like things, numbered 0 and 1: valves, doors, sirens. -/
structure Pair (α : Type) where
  fst : α
  snd : α
deriving DecidableEq, Repr

/-- The member numbered `i`. -/
def Pair.get {α : Type} (p : Pair α) (i : Fin 2) : α :=
  if i = 0 then p.fst else p.snd

/-- The pair with member `i` replaced. -/
def Pair.set {α : Type} (p : Pair α) (i : Fin 2) (x : α) : Pair α :=
  if i = 0 then ⟨x, p.snd⟩ else ⟨p.fst, x⟩

/-- Whether some member satisfies `f`. -/
def Pair.any {α : Type} (p : Pair α) (f : α → Bool) : Bool :=
  f p.fst || f p.snd

/-- The number of the other member. -/
def other (i : Fin 2) : Fin 2 :=
  if i = 0 then 1 else 0

/-- Four like things, numbered 0 to 3: the spark channels. -/
structure Quad (α : Type) where
  c0 : α
  c1 : α
  c2 : α
  c3 : α
deriving DecidableEq, Repr

/-- The member numbered `i`. -/
def Quad.get {α : Type} (q : Quad α) (i : Fin 4) : α :=
  if i = 0 then q.c0 else if i = 1 then q.c1 else if i = 2 then q.c2 else q.c3

/-- The four with member `i` replaced. -/
def Quad.set {α : Type} (q : Quad α) (i : Fin 4) (x : α) : Quad α :=
  if i = 0 then ⟨x, q.c1, q.c2, q.c3⟩
  else if i = 1 then ⟨q.c0, x, q.c2, q.c3⟩
  else if i = 2 then ⟨q.c0, q.c1, x, q.c3⟩
  else ⟨q.c0, q.c1, q.c2, x⟩

/-- Whether some member satisfies `f`. -/
def Quad.any {α : Type} (q : Quad α) (f : α → Bool) : Bool :=
  f q.c0 || f q.c1 || f q.c2 || f q.c3

end Sys2Proof
end

