-- ==== Sys2Proof/Config.lean ====
section
/-! DEFINITION. What the manual leaves open: the free values. Each is an opaque constant applied to a count that
State holds and every use advances, so that nothing can be proved about its value. -/

namespace Sys2Proof

/-- R172, R192: whether a page program that a reset cut off had written byte `i` of what it was writing. Free. -/
opaque Config.cutProgramByte : Nat → Nat → Bool

/-- R164, R172: whether a page program that failed or was cut off had set the protected mark it was to set. Free. -/
opaque Config.cutProgramMark : Nat → Bool

/-- R172: whether an erase that a reset cut off, or that failed, had cleared byte `i` of the block. Free. -/
opaque Config.cutEraseByte : Nat → Nat → Bool

/-- R172: whether an erase that a reset cut off, or that failed, had cleared the program count of page `p`. Free. -/
opaque Config.cutEraseCount : Nat → Nat → Bool

/-- R167: whether a failed page program left byte `i` of what it was writing in the retired block. Free. -/
opaque Config.failedProgramByte : Nat → Nat → Bool

/-- R188: whether a WRITE_CONFIG that a reset cut off had written its byte `i`. Free. -/
opaque Config.cutConfigByte : Nat → Nat → Bool

/-- R188: byte `i` that the configuration memory holds at the place of a WRITE_CONFIG it never answered. Free. -/
opaque Config.unansweredConfigByte : Nat → Nat → Byte

end Sys2Proof
end

