-- ==== Sys2Proof/Syntax.lean ====
section
/-! DEFINITION. The commands of the FN6: one constructor for each row of spec/opcode_table.json, in the table's
order, with the operands the arrival carries. -/

namespace Sys2Proof

/-- R173: the three kinds of reset. -/
inductive ResetKind where
  | power
  | pin
  | service
deriving DecidableEq, Repr

/-- Section 6.4 of the introduction: the sixteen contact inputs. -/
inductive Input where
  | fh0 | fh1 | fs0 | fs1 | k1 | k2 | sil | fsc | gv | gn | dmc | dmo | dc0 | dc1 | cc0 | cc1
deriving DecidableEq, Repr

/-- The five inputs that confirm an extraction step (section 6.3.2). -/
inductive ConfirmInput where
  | fsc | gv | gn | dmc | dmo
deriving DecidableEq, Repr

/-- Section 4.2: the four frame kinds of the guard line. -/
inductive FrameKind where
  | detect
  | vote
  | restart
  | presence
deriving DecidableEq, Repr

/-- Section 4.1: how the stop bit of a byte reads, and what the line does when the byte has ended. -/
inductive StopBit where
  /-- The stop bit reads mark, and the line rests at mark. -/
  | mark
  /-- The stop bit reads mark, and another byte follows without quiet. -/
  | followed
  /-- The stop bit reads space, a framing error; the line is at mark when the byte has ended. -/
  | space
  /-- The stop bit reads space, a framing error; the line stays at space. -/
  | held
deriving DecidableEq, Repr

/-- Another station's start bit: the quiet count at which it is seen, and the byte that it begins. -/
structure StartBit where
  quiet : Nat
  data : Byte
  stop : StopBit
deriving DecidableEq, Repr

/-- R77: the byte at this position (1 to 13) of the frame being driven reads back differently, as this byte. -/
structure Misread where
  position : Nat
  data : Byte
  stop : StopBit
deriving DecidableEq, Repr

/-- One arrival or service command: one constructor for each row of spec/opcode_table.json. -/
inductive Instr where
  /-- RESET_BEGIN: a reset of the given kind begins. -/
  | resetBegin (kind : ResetKind)
  /-- RESETTING_END: no reset stands; the switches give a station number and a rate code. -/
  | resettingEnd (station : BitVec 5) (rate : BitVec 2)
  /-- IMAGE_READ_END: the 512-byte image has been read from the configuration memory. -/
  | imageReadEnd
  /-- MEMORY_ANSWER_TIMEOUT: 50 ms have passed without the memory's answer to the request outstanding. -/
  | memoryAnswerTimeout
  /-- OUTPUT_READBACK: the store test's result, and the eleven sense lines (bit set: reports energized). -/
  | outputReadback (storeGood : Bool) (sense : BitVec 11)
  /-- ECHO_DEADLINE_EXPIRY. -/
  | echoDeadlineExpiry
  /-- LOG_SCAN_COMPLETE. -/
  | logScanComplete
  /-- RAW_INPUT_CHANGE: the raw level of a contact input is now `active`. -/
  | rawInputChange (i : Input) (active : Bool)
  /-- SAMPLE: intensity `x` at a spark channel. -/
  | sample (ch : Fin 4) (x : BitVec 10)
  /-- GLOW_DEADLINE_EXPIRY of a spark channel. -/
  | glowDeadlineExpiry (ch : Fin 4)
  /-- PRESSURE_SAMPLE: a count and the sensor-fault line. -/
  | pressureSample (count : BitVec 12) (sensorFault : Bool)
  /-- HOLD_DEADLINE_EXPIRY. -/
  | holdDeadlineExpiry
  /-- OPEN_EXPIRY of the head window of a valve. -/
  | openExpiry (v : Fin 2)
  /-- CLOSE_EXPIRY of the head window of a valve. -/
  | closeExpiry (v : Fin 2)
  /-- MISS_HOLD_EXPIRY of a valve. -/
  | missHoldExpiry (v : Fin 2)
  /-- FLOW_CONFIRM_EXPIRY of a valve. -/
  | flowConfirmExpiry (v : Fin 2)
  /-- LEAK_DEADLINE_EXPIRY of a valve. -/
  | leakDeadlineExpiry (v : Fin 2)
  /-- WATER_SAMPLE: a pressure in kPa. -/
  | waterSample (p : BitVec 10)
  /-- FS_CHANGE: the debounced level of FS0 or FS1 is now `active`. -/
  | fsChange (v : Fin 2) (active : Bool)
  /-- FH_CHANGE: the debounced level of FH0 or FH1 is now `active`. -/
  | fhChange (i : Fin 2) (active : Bool)
  /-- CONFIRM_INPUT_CHANGE: the debounced level of a confirming input is now `active`. -/
  | confirmInputChange (i : ConfirmInput) (active : Bool)
  /-- K1_CHANGE: the debounced level of K1 is now `active`. -/
  | k1Change (active : Bool)
  /-- K2_PRESS: the debounced level of K2 is now active. -/
  | k2Press
  /-- UNLOCK_DEADLINE_EXPIRY. -/
  | unlockDeadlineExpiry
  /-- DC_CHANGE: the debounced level of DC0 or DC1 is now `active`. -/
  | dcChange (d : Fin 2) (active : Bool)
  /-- CC_CHANGE: the debounced level of CC0 or CC1 is now `active`. -/
  | ccChange (d : Fin 2) (active : Bool)
  /-- SIL_CHANGE: the debounced level of SIL is now `active`. -/
  | silChange (active : Bool)
  /-- FRAME_ERROR: a frame taken whole with a bad CRC or source. -/
  | frameError
  /-- BYTE_ERROR: a framing error, a bad sync byte or an unknown kind byte. -/
  | byteError
  /-- FRAME_BROKEN_OFF: 12 quiet bit times within a partial frame. -/
  | frameBrokenOff
  /-- DETECT_RECEIVED: the fields of a valid DETECT as received. -/
  | detectReceived (source channel count : Byte) (age span peak : Half)
  /-- VOTE_RECEIVED: the fields of a valid VOTE as received. -/
  | voteReceived (source zone level reason : Byte)
  /-- PRESENCE_RECEIVED: the fields of a valid PRESENCE as received. -/
  | presenceReceived (source homeZone level reason extraction : Byte) (velocity : Half) (status : Byte)
  /-- RESTART_RECEIVED: the fields of a valid RESTART as received. -/
  | restartReceived (source : Byte) (zone : Half)
  /-- OWN_ECHO: the node's own frame has been read back whole. -/
  | ownEcho
  /-- DUPLICATE_STATION_FRAME: a valid frame of this kind with the own source that is not the own echo. -/
  | duplicateStationFrame (kind : FrameKind)
  /-- GAP_EXPIRY: the quiet count reaches the gap of the head frame. -/
  | gapExpiry
  /-- FRAME_DRIVE_START: the bit boundary at which the held frame's first start bit is driven. -/
  | frameDriveStart
  /-- FOREIGN_START_BIT: another station's start bit, with the quiet count at which it is seen and its byte. -/
  | foreignStartBit (start : StartBit)
  /-- COLLISION: a driven byte reads back differently at its stop bit. -/
  | collision (read : Misread)
  /-- STUCK_WATCH_EXPIRY. -/
  | stuckWatchExpiry
  /-- STUCK_EXIT: the quiet count reaches 142 bit times. -/
  | stuckExit
  /-- DEGRADED_DEADLINE_EXPIRY. -/
  | degradedDeadlineExpiry
  /-- PRESENCE_DEADLINE_EXPIRY. -/
  | presenceDeadlineExpiry
  /-- SILENCE_DEADLINE_EXPIRY of a station's presence entry. -/
  | silenceDeadlineExpiry (station : Fin 32)
  /-- RING_DEADLINE_EXPIRY. -/
  | ringDeadlineExpiry
  /-- HALTED_AT_AGED. -/
  | haltedAtAged
  /-- FIRE_PENDING_EXPIRY of a tracked zone. -/
  | firePendingExpiry (zone : Nat)
  /-- STEP_TIMER_EXPIRY. -/
  | stepTimerExpiry
  /-- CLEAR_DEADLINE_EXPIRY of a door. -/
  | clearDeadlineExpiry (d : Fin 2)
  /-- TRAVEL_DEADLINE_EXPIRY of a door. -/
  | travelDeadlineExpiry (d : Fin 2)
  /-- PHASE_DEADLINE_EXPIRY of a siren. -/
  | phaseDeadlineExpiry (i : Fin 2)
  /-- CYCLE_DEADLINE_EXPIRY of a siren. -/
  | cycleDeadlineExpiry (i : Fin 2)
  /-- RESOUND_DEADLINE_EXPIRY of a siren. -/
  | resoundDeadlineExpiry (i : Fin 2)
  /-- PAGE_PROGRAM_COMPLETE, with success or failure. -/
  | pageProgramComplete (success : Bool)
  /-- ERASE_COMPLETE, with success or failure. -/
  | eraseComplete (success : Bool)
  /-- SERVICE_AREA_WRITE: the bytes of one write transaction after its address, the offset first. -/
  | serviceAreaWrite (bytes : List Byte)
  /-- STATUS_CLEAR: a write of one byte to offset 1. -/
  | statusClear
  /-- NODE_STATUS of a part. -/
  | nodeStatus (part : Byte)
  /-- READ_PRESENCE of a station. -/
  | readPresence (station : Byte)
  /-- READ_ZONE of a zone. -/
  | readZone (zone : Byte)
  /-- READ_CHANNEL of a channel. -/
  | readChannel (channel : Byte)
  /-- READ_VALVE of a valve. -/
  | readValve (valve : Byte)
  /-- READ_LOG_POSITION. -/
  | readLogPosition
  /-- READ_LOG of a block, page and record. -/
  | readLog (block page record : Byte)
  /-- FLUSH_LOG. -/
  | flushLog
  /-- CLEAR_PROTECTION of a block. -/
  | clearProtection (block : Byte)
  /-- READ_CONFIG from an offset. -/
  | readConfig (offset : Half)
  /-- WRITE_CONFIG of four bytes at an offset, the first in the high byte of `data`. -/
  | writeConfig (offset : Half) (data : BitVec 32)
  /-- CONFIG_MEMORY_ANSWER: after a WRITE_CONFIG, the four bytes read back; not used after a READ_CONFIG. -/
  | configMemoryAnswer (readBack : BitVec 32)
  /-- NODE_RESET with a confirmation byte. -/
  | nodeReset (confirmation : Byte)
  /-- K2_RELEASE: the debounced level of K2 is now inactive. -/
  | k2Release
deriving DecidableEq, Repr

end Sys2Proof
end

