-- ==== Sys2Proof/Machine/State.lean ====
section
/-! DEFINITION. The state of the FN6, block by block (introduction, section 4), as plain data, the reasons a command
could stop the machine, and the state right after a reset has begun. -/

namespace Sys2Proof.Machine

/-! ## Levels, votes and codes -/

/-- Section 6.5: CLEAR < WATCH < HALT < FIRE. -/
inductive Level where
  | clear | watch | halt | fire
deriving DecidableEq, Repr

/-- The reasons of a vote, in the order of their codes (A.4). -/
inductive Reason where
  | none | sparks | missed | noFlow | glow | waterLow | flame | afterHalt | channelFault | flowLost
  | originSilent | leak | lineDegraded | restartRefused
deriving DecidableEq, Repr

/-- A level with its reason. -/
structure Vote where
  level : Level
  reason : Reason
deriving DecidableEq, Repr

/-- The vote CLEAR with reason NONE. -/
def Vote.none : Vote := ⟨.clear, .none⟩

/-! ## The configuration set (R176, A.3) -/

/-- R4: the values of one spark channel. -/
structure ChannelConfig where
  enabled : Bool
  tripOffset : Nat
  hysteresis : Nat
  qualifyCount : Nat
  shift : Nat
  glowLimit : Nat
  ceiling : Nat
  darkFloor : Nat
deriving DecidableEq, Repr

/-- R44: the values of one valve; the flood time is in seconds, the others in ms. -/
structure ValveConfig where
  lead : Nat
  sprayHold : Nat
  flowConfirm : Nat
  floodTime : Nat
deriving DecidableEq, Repr

/-- R31: one position of the image's watch list; origin 0 is unused, source 0 is own. -/
structure WatchConfig where
  origin : Nat
  channels : BitVec 4
  length : Nat
  source : Nat
  valves : BitVec 2
deriving DecidableEq, Repr

/-- R132: the values of one door; zone 0 is none, the times are in seconds. -/
structure DoorConfig where
  zone1 : Nat
  zone2 : Nat
  conveyor : Bool
  feedHold : Bool
  tClear : Nat
  tTravel : Nat
deriving DecidableEq, Repr

/-- R146: when a change of grant reaches a siren's output. -/
inductive GrantMode where
  | hold | preempt
deriving DecidableEq, Repr

/-- R146: the values of one siren; bit z of the set stands for zone z. -/
structure SirenConfig where
  zones : BitVec 16
  mode : GrantMode
deriving DecidableEq, Repr

/-- R110: the extraction role set. -/
structure Roles where
  feed : Bool
  abort : Bool
  fan : Bool
  damper : Bool
deriving DecidableEq, Repr

/-- R159: which end of a full queue is kept. -/
inductive OverflowMode where
  | keepOldest | keepNewest
deriving DecidableEq, Repr

/-- R176: the configuration set, in the units of the image (A.3). -/
structure ConfigSet where
  homeZone : Nat
  tracked : List Nat
  fireQuorum : Nat
  presencePeriod : Nat
  sampleInterval : Nat
  debounce : Nat
  overflowMode : OverflowMode
  logPeers : Bool
  kv : Nat
  vMin : Nat
  uncertainty : Nat
  mergeGap : Nat
  waterTrip : Nat
  waterHysteresis : Nat
  confirmTime : Nat
  window : Nat
  nHalt : Nat
  nFire : Nat
  clearTime : Nat
  unlockTime : Nat
  roles : Roles
  tFeed : Nat
  tGate : Nat
  runOn : Nat
  tRundown : Nat
  tDamper : Nat
  tSpinup : Nat
  resound : Nat
  channels : Quad ChannelConfig
  valves : Pair ValveConfig
  watch : List WatchConfig
  doors : Pair DoorConfig
  sirens : Pair SirenConfig
deriving DecidableEq, Repr

/-! ## Spark channels (section 1.1) -/

/-- The eight channel states, in the order of their codes. -/
inductive ChannelState where
  | off | settling | armed | pulse | qualified | glow | faultAmbient | faultDark
deriving DecidableEq, Repr

/-- Section 1.1: the channel record. -/
structure Channel where
  state : ChannelState
  baseline : Option Nat
  settle : Option Nat
  run : Option Nat
  peak : Option Nat
  pulseStart : Option Instant
  glowDeadline : Option Instant
  last : Option Nat
  detections : Nat
  shortPulses : Nat
deriving DecidableEq, Repr

/-! ## Flow unit (section 2.1) -/

/-- The four flow statuses, in the order of their codes. -/
inductive FlowStatus where
  | ok | lowFlow | hold | lost
deriving DecidableEq, Repr

/-- Section 2.1: the flow record; the history is oldest first, the average is its function. -/
structure Flow where
  history : List Nat
  velocity : Nat
  status : FlowStatus
  holdDeadline : Option Instant
deriving DecidableEq, Repr

/-! ## Transit predictor (section 2.2) -/

/-- Section 2.2: one watch entry; source 0 is own. -/
structure WatchEntry where
  origin : Nat
  channels : BitVec 4
  length : Nat
  source : Nat
  valves : BitVec 2
  silent : Bool
deriving DecidableEq, Repr

/-! ## Valve sequencer (section 3.1) -/

/-- Section 3.1: the kind of a window. -/
inductive WindowKind where
  | predicted | flood
deriving DecidableEq, Repr

/-- Section 3.1: one window of a schedule list. -/
structure Window where
  openAt : Instant
  closeAt : Instant
  kind : WindowKind
  merged : Nat
  origin : Nat
  substituted : Bool
  begun : Bool
deriving DecidableEq, Repr

/-- Section 3.1: the valve record; `opened` is the output OPEN (energized). -/
structure Valve where
  opened : Bool
  windows : List Window
  noFlow : Bool
  leak : Bool
  flowConfirm : Option Instant
  leakDeadline : Option Instant
  missHold : Option Instant
  openedAt : Option Instant
deriving DecidableEq, Repr

/-- R58: the water-pressure comparator's two states. -/
inductive Comparator where
  | normal | low
deriving DecidableEq, Repr

/-- Section 3: both valves, and the comparator, which has no state before the hand-over (R62). -/
structure Valves where
  valves : Pair Valve
  comparator : Option Comparator
  lastWater : Option Nat
deriving DecidableEq, Repr

/-! ## Extraction sequencer, states only (section 6.1) -/

/-- The eleven sequencer states, in the order of their codes. -/
inductive SeqState where
  | running | feedStopping | venting | runOn | fanStopping | damperClosing | halted | damperOpening
  | fanStarting | gateReturning | feedWait
deriving DecidableEq, Repr

/-! ## Line interface (section 4) -/

/-- Section 4: what the transmitter may do. -/
inductive LineState where
  | listening | listenOnly | stuck
deriving DecidableEq, Repr

/-- R73: the four status flags of a PRESENCE. -/
structure StatusFlags where
  channelFault : Bool
  lineDegraded : Bool
  valveFault : Bool
  stepFault : Bool
deriving DecidableEq, Repr

/-- R73: the contents of a PRESENCE that the node places. -/
structure PresenceBody where
  homeZone : Nat
  vote : Vote
  extraction : SeqState
  velocity : Nat
  flow : FlowStatus
  flags : StatusFlags
deriving DecidableEq, Repr

/-- R70 to R73: a frame of the outbound queue; a queued DETECT holds its first and last instants. -/
inductive OutFrame where
  | detect (channel : Fin 4) (count : Nat) (first last : Instant) (peak : Nat)
  | vote (zone : Nat) (vote : Vote)
  | restart (zone : Nat)
  | presence (body : PresenceBody)
deriving DecidableEq, Repr

/-- R76: the frame in the shift stage, its drive instant and the bytes fixed at the drive. -/
structure DrivenFrame where
  frame : OutFrame
  drive : Instant
  bytes : List Byte
deriving DecidableEq, Repr

/-- R66: hunting, or taking a partial frame whose first start bit came at `start`, with the bytes it holds. -/
inductive Receiver where
  | hunting
  | taking (start : Instant) (bytes : List Byte)
deriving DecidableEq, Repr

/-- R65: what the line does now, as the receiver samples it. -/
inductive Activity where
  /-- The line rests at mark, and the quiet count runs. -/
  | mark
  /-- A byte of another station is on the line. -/
  | byte (data : Byte) (stop : StopBit)
  /-- A byte of the frame in the shift stage is on the line. -/
  | own
  /-- The last byte is on the line that the node drives of a frame that has left the shift stage unfinished. -/
  | ownLast (data : Byte)
  /-- The line is held at space, or bytes follow one another; no quiet count runs. -/
  | busy
deriving DecidableEq, Repr

/-- Section 4: the line interface. `quiet` holds the whole bit times of the quiet count, and `quietPart` the microseconds
of the bit time that has begun (R64, R65). -/
structure Line where
  state : LineState
  degraded : Bool
  queue : List OutFrame
  holding : Option OutFrame
  shift : Option DrivenFrame
  receiver : Receiver
  quiet : Nat
  quietPart : Nat
  activity : Activity
  stuckWatch : Option Instant
  errors : List Instant
  degradedDeadline : Option Instant
  presenceDeadline : Option Instant
  errorTally : Nat
  collisionTally : Nat
  sentTally : Nat
  passedTally : Nat
deriving DecidableEq, Repr

/-! ## Peer table (section 5.1) -/

/-- Section 5.1: the state of a presence entry, in the order of the codes. -/
inductive PeerState where
  | never | live | silent
deriving DecidableEq, Repr

/-- Section 5.1: one presence entry; the extraction state is the code as received (R87). -/
structure Peer where
  state : PeerState
  homeZone : Option Nat
  vote : Option Vote
  extraction : Option Byte
  velocity : Option Nat
  flow : Option FlowStatus
  flags : Option StatusFlags
  lastHeard : Option Instant
  silence : Option Instant
deriving DecidableEq, Repr

/-! ## Zone unit (sections 5.2 to 5.4) -/

/-- R59: whether WATER_LOW stands, and at which grade. -/
inductive WaterGrade where
  | off | first | second
deriving DecidableEq, Repr

/-- R93: the conditions reported to the zone unit. -/
structure Conditions where
  glow : Bool
  channelFault : Bool
  flowLost : Bool
  originSilent : Bool
  noFlow : Bool
  leak : Bool
  missed : Bool
  waterLow : WaterGrade
  lineDegraded : Bool
deriving DecidableEq, Repr

/-- R97: one record of the zone table. -/
structure Zone where
  zone : Nat
  nWatch : Nat
  nHalt : Nat
  nFire : Nat
  members : Nat
  quorum : Nat
  voteLevel : Level
  latched : Level
  view : Level
  fireStart : Option Instant
  fireDeadline : Option Instant
  confirmed : Bool
deriving DecidableEq, Repr

/-- Sections 5.2 to 5.4: the zone unit; the home zone's record is the head of the table. -/
structure ZoneUnit where
  conditions : Conditions
  degraded : Bool
  ring : List Instant
  ringDeadline : Option Instant
  haltedAt : Option Instant
  aged : Bool
  momentary : Vote
  latched : Option Vote
  own : Vote
  zones : List Zone
deriving DecidableEq, Repr

/-! ## Extraction sequencer (section 6.1) -/

/-- Section 6.1: why the sequencer last entered HALTED, in the order of the codes. -/
inductive HaltedCause where
  | shutdown | nodeRestart | startFailed
deriving DecidableEq, Repr

/-- Section 6.5: the key sequence. -/
inductive KeyState where
  | idle | keyTurned | spent
deriving DecidableEq, Repr

/-- Section 6.2: the four outputs of the sequencer; yes is energized. -/
structure SeqOutputs where
  feed : Bool
  abort : Bool
  fan : Bool
  damper : Bool
deriving DecidableEq, Repr

/-- Section 6.1: the sequencer record, with its outputs. -/
structure Sequencer where
  state : SeqState
  haltedCause : Option HaltedCause
  stepTimer : Option Instant
  stepEntered : Option Instant
  stepFault : Bool
  feedHold : Bool
  demands : Pair Bool
  key : KeyState
  unlockDeadline : Option Instant
  outputs : SeqOutputs
deriving DecidableEq, Repr

/-! ## Door unit (section 7.1) -/

/-- Section 7.1: the seven door states, in the order of the codes. -/
inductive DoorState where
  | off | held | clearing | released | closed | armed | jammed
deriving DecidableEq, Repr

/-- Section 7.1: the door record. `views` pairs each zone of the door's set with the last view passed on; it is
empty for a door that is off. -/
structure Door where
  state : DoorState
  holder : Bool
  views : List (Nat × Level)
  clearDeadline : Option Instant
  travelDeadline : Option Instant
  demand : Bool
deriving DecidableEq, Repr

/-! ## Siren unit (sections 8.1 and 8.7) -/

/-- Section 8.1: QUIET < PULSE < STEADY. -/
inductive Pattern where
  | quiet | pulse | steady
deriving DecidableEq, Repr

/-- Section 8.1: the phase within a PULSE cycle. -/
inductive Phase where
  | on | off
deriving DecidableEq, Repr

/-- Section 8.1: the siren record. `views` pairs each zone of the siren's set with the last view passed on; it is
empty for a siren that is off. `silenced` is the silenced level, absent when the siren is not silenced. -/
structure Siren where
  views : List (Nat × Level)
  sounding : Pattern
  output : Bool
  phase : Option Phase
  phaseDeadline : Option Instant
  cycleDeadline : Option Instant
  cycles : Option Nat
  pendingRise : Bool
  silenced : Option Level
  resoundDeadline : Option Instant
deriving DecidableEq, Repr

/-- R155: the members of the fault summary, in the order of their codes. -/
inductive FaultMember where
  | channelFault | flowLost | noFlow | leak | stepFault | doorJammed | degraded | listenOnly | stuck
  | logFull | logDegraded
deriving DecidableEq, Repr

/-- R155: the fault summary, a set. -/
structure FaultSummary where
  channelFault : Bool
  flowLost : Bool
  noFlow : Bool
  leak : Bool
  stepFault : Bool
  doorJammed : Bool
  degraded : Bool
  listenOnly : Bool
  stuck : Bool
  logFull : Bool
  logDegraded : Bool
deriving DecidableEq, Repr

/-- Section 8: both sirens, the fault summary and the fault relay output. -/
structure SirenUnit where
  sirens : Pair Siren
  summary : FaultSummary
  relay : Bool
deriving DecidableEq, Repr

/-! ## Event queue and log store (section 9) -/

/-- The event kinds, in the order of their codes (A.4). -/
inductive EventKind where
  | spark | channel | peerDetect | windowOpen | windowClose | windowMissed | valve | water | line | station
  | vote | zoneLevel | restartAccept | restartRefuse | step | door | clearTimeout | siren | fault | reset
  | configWarn | overflow | protectCleared | logRetire
deriving DecidableEq, Repr

/-- R158, R192: a completed event record; the record check is a function of the other fields. -/
structure Record where
  instant : Instant
  kind : EventKind
  subject : Nat
  context : Level
  station : Nat
  flags : Nat
  value1 : Nat
  value2 : Nat
deriving DecidableEq, Repr

/-- A sparse byte memory: the listed bytes, addresses strictly rising, none equal to the blank byte. -/
abbrev Memory := List Host.Cell

/-- Section 9.2: the event queue. -/
structure EventQueue where
  queue : List Record
  lost : Nat
  mode : OverflowMode
deriving DecidableEq, Repr

/-- Section 9.3: what the array holds in a block's header, and the program counts of its page headers. -/
structure BlockHeader where
  sequence : Option Nat
  isProtected : Bool
  retired : Bool
  counts : Vector Nat 16
deriving DecidableEq, Repr

/-- Section 9.3: a block's entry of the block table. -/
structure BlockEntry where
  sequence : Option Nat
  isProtected : Bool
  retired : Bool
deriving DecidableEq, Repr

/-- Section 9.3: the states of the log store, in the order of the codes. -/
inductive LogState where
  | scanning | idle | programming | erasing | full
deriving DecidableEq, Repr

/-- Section 9.3: the volatile state of the log store. -/
structure LogStore where
  state : LogState
  table : Vector BlockEntry 16
  position : Option (Fin 16 × Fin 16)
  buffer : List Record
  programmed : Nat
  nextSequence : Nat
  flushPending : Bool
deriving DecidableEq, Repr

/-- Section 9: the event queue, the log store and the non-volatile array (its headers and its pages' bytes). -/
structure LogSystem where
  events : EventQueue
  store : LogStore
  headers : Vector BlockHeader 16
  array : Memory
deriving DecidableEq, Repr

/-! ## Start-up and service port (sections 10 and 11) -/

/-- Section 10: the start-up states, in the order of the codes. -/
inductive StartState where
  | resetting | starting | operating | failed
deriving DecidableEq, Repr

/-- Section 10: the stages of STARTING, in the order of the codes. -/
inductive Stage where
  | switches | image | selfTest | scan
deriving DecidableEq, Repr

/-- Section 10: why start-up failed, in the order of the codes. -/
inductive Failure where
  | noStation | configBad | selfTest
deriving DecidableEq, Repr

/-- Section 10: the start-up record, with the instant by which the configuration memory must answer (R175). -/
structure Startup where
  state : StartState
  stage : Option Stage
  failure : Option Failure
  cause : ResetKind
  station : Option Nat
  rate : Option Nat
  version : Option Nat
  warnings : Option Nat
  echoDeadline : Option Instant
  frameHeard : Option Bool
  memoryDeadline : Option Instant
deriving DecidableEq, Repr

/-- R171, R188: what a command in EXECUTING waits for. -/
inductive PortWait where
  | logOperation
  | imageRead
  | configMemory
deriving DecidableEq, Repr

/-- Section 11: the port state; in EXECUTING with the copies of the command and its parameters. -/
inductive Port where
  | idle
  | executing (command : Byte) (params : List Byte) (wait : PortWait)
deriving DecidableEq, Repr

/-- Section 11: the exchange area, the port state and the offset of the next read. -/
structure Service where
  command : Byte
  status : Byte
  params : List Byte
  reply : List Byte
  offset : Nat
  port : Port
deriving DecidableEq, Repr

/-! ## Contact inputs (R2) -/

/-- R2: raw levels, debounced levels and debounce deadlines by input number, and the instant until which the raw
level of K1 has not yet stood for 20 ms (R185). -/
structure Inputs where
  raw : Vector Bool 16
  level : Vector Bool 16
  deadline : Vector (Option Instant) 16
  k1Hold : Option Instant
deriving DecidableEq, Repr

/-! ## The whole node -/

/-- The state of the node, and the queue of the commands that wait. -/
structure State where
  time : Instant
  startup : Startup
  config : Option ConfigSet
  inputs : Inputs
  channels : Quad Channel
  flow : Flow
  watch : List WatchEntry
  valves : Valves
  line : Line
  peers : Vector Peer 32
  zones : ZoneUnit
  sequencer : Sequencer
  doors : Pair Door
  sirens : SirenUnit
  log : LogSystem
  service : Service
  configMemory : Memory
  freeCount : Nat
  pending : List Instr
deriving DecidableEq, Repr

/-- The faults of the machine. The manual stops the node on nothing, so there is none. -/
inductive Fault where
deriving DecidableEq, Repr

/-- The refusals of the machine. -/
inductive Refusal where
  /-- Raised by `exec` for a command of the table that has no meaning yet; safe. No arm raises it. -/
  | notModelled (mnemonic : String)
deriving DecidableEq, Repr

/-! ## Reset values -/

/-- R21: a channel after reset. -/
def Channel.reset : Channel :=
  { state := .off, baseline := none, settle := none, run := none, peak := none, pulseStart := none,
    glowDeadline := none, last := none, detections := 0, shortPulses := 0 }

/-- R30: the flow unit after reset. -/
def Flow.reset : Flow :=
  { history := [], velocity := 0, status := .lost, holdDeadline := none }

/-- R62: a valve after reset. -/
def Valve.reset : Valve :=
  { opened := false, windows := [], noFlow := false, leak := false, flowConfirm := none,
    leakDeadline := none, missHold := none, openedAt := none }

/-- R62: the valve sequencer after reset. -/
def Valves.reset : Valves :=
  { valves := ⟨Valve.reset, Valve.reset⟩, comparator := none, lastWater := none }

/-- R85: the line interface after reset. -/
def Line.reset : Line :=
  { state := .listening, degraded := false, queue := [], holding := none, shift := none,
    receiver := .hunting, quiet := 0, quietPart := 0, activity := .mark, stuckWatch := none,
    errors := [], degradedDeadline := none, presenceDeadline := none, errorTally := 0, collisionTally := 0,
    sentTally := 0, passedTally := 0 }

/-- R109: a presence entry after reset. -/
def Peer.reset : Peer :=
  { state := .never, homeZone := none, vote := none, extraction := none, velocity := none, flow := none,
    flags := none, lastHeard := none, silence := none }

/-- R109: no condition stands. -/
def Conditions.reset : Conditions :=
  { glow := false, channelFault := false, flowLost := false, originSilent := false, noFlow := false,
    leak := false, missed := false, waterLow := .off, lineDegraded := false }

/-- R109: the zone unit after reset. -/
def ZoneUnit.reset : ZoneUnit :=
  { conditions := Conditions.reset, degraded := false, ring := [], ringDeadline := none, haltedAt := none,
    aged := false, momentary := Vote.none, latched := none, own := Vote.none, zones := [] }

/-- R131: the sequencer after reset. -/
def Sequencer.reset : Sequencer :=
  { state := .halted, haltedCause := some .nodeRestart, stepTimer := none, stepEntered := none,
    stepFault := false, feedHold := false, demands := ⟨false, false⟩, key := .idle, unlockDeadline := none,
    outputs := ⟨false, false, false, false⟩ }

/-- R145: a door after reset. -/
def Door.reset : Door :=
  { state := .off, holder := false, views := [], clearDeadline := none, travelDeadline := none,
    demand := false }

/-- R157: a siren after reset. -/
def Siren.reset : Siren :=
  { views := [], sounding := .quiet, output := false, phase := none, phaseDeadline := none,
    cycleDeadline := none, cycles := none, pendingRise := false, silenced := none, resoundDeadline := none }

/-- R157: the empty fault summary. -/
def FaultSummary.reset : FaultSummary :=
  { channelFault := false, flowLost := false, noFlow := false, leak := false, stepFault := false,
    doorJammed := false, degraded := false, listenOnly := false, stuck := false, logFull := false,
    logDegraded := false }

/-- R157: the siren unit after reset. -/
def SirenUnit.reset : SirenUnit :=
  { sirens := ⟨Siren.reset, Siren.reset⟩, summary := FaultSummary.reset, relay := false }

/-- R172: the event queue after reset. -/
def EventQueue.reset : EventQueue :=
  { queue := [], lost := 0, mode := .keepOldest }

/-- An entry of an empty block table: blank, neither protected nor retired. -/
def BlockEntry.blank : BlockEntry :=
  { sequence := none, isProtected := false, retired := false }

/-- Section 9.3: the headers of a block never erased. DESIGN CHOICE (log 3): the array as delivered. -/
def BlockHeader.blank : BlockHeader :=
  { sequence := none, isProtected := false, retired := false, counts := Vector.replicate 16 0 }

/-- R170, R172: the log store after reset. Its next sequence is set by the scan; until then it is 0. -/
def LogStore.reset : LogStore :=
  { state := .scanning, table := Vector.replicate 16 BlockEntry.blank, position := none, buffer := [],
    programmed := 0, nextSequence := 0, flushPending := false }

/-- R190: the service port after reset. -/
def Service.reset : Service :=
  { command := 0, status := 0, params := List.replicate 8 0, reply := List.replicate 22 0, offset := 0,
    port := .idle }

/-- Section 10: the start-up record at the beginning of a reset of the given cause. -/
def Startup.reset (cause : ResetKind) : Startup :=
  { state := .resetting, stage := none, failure := none, cause := cause, station := none, rate := none,
    version := none, warnings := none, echoDeadline := none, frameHeard := none, memoryDeadline := none }

/-- R2: the contact inputs with every level inactive and no debounce period running. -/
def Inputs.reset : Inputs :=
  { raw := Vector.replicate 16 false, level := Vector.replicate 16 false,
    deadline := Vector.replicate 16 none, k1Hold := none }

/-- The node in RESETTING at the beginning of its first POWER reset (R173): every block as its own chapter resets
it, the time base stopped at 0, the configuration memory and the log array as delivered (DESIGN CHOICE, log 3). -/
def State.reset : State :=
  { time := 0
    startup := Startup.reset .power
    config := none
    inputs := Inputs.reset
    channels := ⟨Channel.reset, Channel.reset, Channel.reset, Channel.reset⟩
    flow := Flow.reset
    watch := []
    valves := Valves.reset
    line := Line.reset
    peers := Vector.replicate 32 Peer.reset
    zones := ZoneUnit.reset
    sequencer := Sequencer.reset
    doors := ⟨Door.reset, Door.reset⟩
    sirens := SirenUnit.reset
    log :=
      { events := EventQueue.reset, store := LogStore.reset,
        headers := Vector.replicate 16 BlockHeader.blank, array := [] }
    service := Service.reset
    configMemory := []
    freeCount := 0
    pending := [] }

end Sys2Proof.Machine
end

