-- ==== Sys2Proof/Machine/Operands.lean ====
section
/-! DEFINITION. Codes and byte fields: the codes of appendix A.4, the fields of received frames (R87, R191), the
parameters of service commands (A.5), and the configuration image (R175, R176, A.3). -/

namespace Sys2Proof.Machine

/-! ## Numbers of contact inputs -/

/-- The number of a contact input, in the order of section 6.4 of the introduction. -/
def inputIndex : Input → Fin 16
  | .fh0 => 0 | .fh1 => 1 | .fs0 => 2 | .fs1 => 3 | .k1 => 4 | .k2 => 5 | .sil => 6 | .fsc => 7
  | .gv => 8 | .gn => 9 | .dmc => 10 | .dmo => 11 | .dc0 => 12 | .dc1 => 13 | .cc0 => 14 | .cc1 => 15

/-- All contact inputs, in the order of their numbers. -/
def allInputs : List Input :=
  [.fh0, .fh1, .fs0, .fs1, .k1, .k2, .sil, .fsc, .gv, .gn, .dmc, .dmo, .dc0, .dc1, .cc0, .cc1]

/-- FH0 or FH1. -/
def fhInput (i : Fin 2) : Input := if i = 0 then .fh0 else .fh1

/-- FS0 or FS1. -/
def fsInput (v : Fin 2) : Input := if v = 0 then .fs0 else .fs1

/-- DC0 or DC1. -/
def dcInput (d : Fin 2) : Input := if d = 0 then .dc0 else .dc1

/-- CC0 or CC1. -/
def ccInput (d : Fin 2) : Input := if d = 0 then .cc0 else .cc1

/-- The contact input of a confirming input. -/
def confirmInput : ConfirmInput → Input
  | .fsc => .fsc | .gv => .gv | .gn => .gn | .dmc => .dmc | .dmo => .dmo

/-! ## Codes (A.4) -/

/-- A.4: zone level. -/
def levelCode : Level → Nat
  | .clear => 0 | .watch => 1 | .halt => 2 | .fire => 3

/-- A.4: the zone level a code names, if any. -/
def levelOfCode (n : Nat) : Option Level :=
  if n = 0 then some .clear else if n = 1 then some .watch else if n = 2 then some .halt
  else if n = 3 then some .fire else none

/-- Section 6.5: the order of the levels. -/
def Level.le (a b : Level) : Bool := decide (levelCode a ≤ levelCode b)

/-- Section 6.5: strictly lower. -/
def Level.lt (a b : Level) : Bool := decide (levelCode a < levelCode b)

/-- The higher of two levels. -/
def Level.max (a b : Level) : Level := if Level.lt a b then b else a

/-- A.4: reason. -/
def reasonCode : Reason → Nat
  | .none => 0 | .sparks => 1 | .missed => 2 | .noFlow => 3 | .glow => 4 | .waterLow => 5 | .flame => 6
  | .afterHalt => 7 | .channelFault => 8 | .flowLost => 9 | .originSilent => 10 | .leak => 11
  | .lineDegraded => 12 | .restartRefused => 13

/-- The reasons in the order of their codes. -/
def allReasons : List Reason :=
  [.none, .sparks, .missed, .noFlow, .glow, .waterLow, .flame, .afterHalt, .channelFault, .flowLost,
   .originSilent, .leak, .lineDegraded, .restartRefused]

/-- R87: a reason code that names no reason is stored as NONE. -/
def reasonOfCode (n : Nat) : Reason := allReasons.getD n .none

/-- A.4: channel state. -/
def channelStateCode : ChannelState → Nat
  | .off => 0 | .settling => 1 | .armed => 2 | .pulse => 3 | .qualified => 4 | .glow => 5
  | .faultAmbient => 6 | .faultDark => 7

/-- A.4: flow status. -/
def flowCode : FlowStatus → Nat
  | .ok => 0 | .lowFlow => 1 | .hold => 2 | .lost => 3

/-- R87: a flow status code that names no status is stored as LOST. -/
def flowOfCode (n : Nat) : FlowStatus :=
  if n = 0 then .ok else if n = 1 then .lowFlow else if n = 2 then .hold else .lost

/-- A.4: extraction state. -/
def seqCode : SeqState → Nat
  | .running => 0 | .feedStopping => 1 | .venting => 2 | .runOn => 3 | .fanStopping => 4
  | .damperClosing => 5 | .halted => 6 | .damperOpening => 7 | .fanStarting => 8 | .gateReturning => 9
  | .feedWait => 10

/-- Section 6.1: the step number by which STEP events name a state. -/
def stepNumber : SeqState → Nat
  | .running => 0 | .feedStopping => 1 | .venting => 2 | .runOn => 3 | .fanStopping => 4
  | .damperClosing => 5 | .halted => 0 | .damperOpening => 6 | .fanStarting => 7 | .gateReturning => 8
  | .feedWait => 9

/-- A.4: presence state. -/
def peerCode : PeerState → Nat
  | .never => 0 | .live => 1 | .silent => 2

/-- A.4: comparator. -/
def comparatorCode : Comparator → Nat
  | .normal => 0 | .low => 1

/-- A.4: halted cause. -/
def haltedCode : HaltedCause → Nat
  | .shutdown => 0 | .nodeRestart => 1 | .startFailed => 2

/-- A.4: key state. -/
def keyCode : KeyState → Nat
  | .idle => 0 | .keyTurned => 1 | .spent => 2

/-- A.4: door state. -/
def doorCode : DoorState → Nat
  | .off => 0 | .held => 1 | .clearing => 2 | .released => 3 | .closed => 4 | .armed => 5 | .jammed => 6

/-- A.4: SIREN value1 for a pattern. -/
def patternCode : Pattern → Nat
  | .quiet => 0 | .pulse => 1 | .steady => 2

/-- Section 8.1: the phase of a PULSE cycle, numbered in the order the record lists it. DEDUCED (log 14). -/
def phaseCode : Phase → Nat
  | .on => 0 | .off => 1

/-- Section 3.1: the kind of a window, numbered in the order the record lists it. DEDUCED (log 14). -/
def windowKindCode : WindowKind → Nat
  | .predicted => 0 | .flood => 1

/-- A.4: FAULT value1. -/
def faultCode : FaultMember → Nat
  | .channelFault => 0 | .flowLost => 1 | .noFlow => 2 | .leak => 3 | .stepFault => 4 | .doorJammed => 5
  | .degraded => 6 | .listenOnly => 7 | .stuck => 8 | .logFull => 9 | .logDegraded => 10

/-- A.4: event kind. -/
def eventCode : EventKind → Nat
  | .spark => 0 | .channel => 1 | .peerDetect => 2 | .windowOpen => 3 | .windowClose => 4
  | .windowMissed => 5 | .valve => 6 | .water => 7 | .line => 8 | .station => 9 | .vote => 10
  | .zoneLevel => 11 | .restartAccept => 12 | .restartRefuse => 13 | .step => 14 | .door => 15
  | .clearTimeout => 16 | .siren => 17 | .fault => 18 | .reset => 19 | .configWarn => 20 | .overflow => 21
  | .protectCleared => 22 | .logRetire => 23

/-- A.4: reset cause. -/
def resetCode : ResetKind → Nat
  | .power => 0 | .pin => 1 | .service => 2

/-- A.4: overflow mode. -/
def overflowCode : OverflowMode → Nat
  | .keepOldest => 0 | .keepNewest => 1

/-- A.4: LGS state. -/
def logStateCode : LogState → Nat
  | .scanning => 0 | .idle => 1 | .programming => 2 | .erasing => 3 | .full => 4

/-- A.4: line state. -/
def lineStateCode : LineState → Nat
  | .listening => 0 | .listenOnly => 1 | .stuck => 2

/-- A.4: start-up state. -/
def startCode : StartState → Nat
  | .resetting => 0 | .starting => 1 | .operating => 2 | .failed => 3

/-- A.4: stage. -/
def stageCode : Stage → Nat
  | .switches => 0 | .image => 1 | .selfTest => 2 | .scan => 3

/-- A.4: failure reason. -/
def failureCode : Failure → Nat
  | .noStation => 0 | .configBad => 1 | .selfTest => 2

/-- A.1: the kind byte of a frame. -/
def kindByte : FrameKind → Nat
  | .detect => 0x11 | .vote => 0x22 | .restart => 0x23 | .presence => 0x34

/-! ## Fields of received frames (R87, R191) -/

/-- R191: the low 10 bits of the velocity field. -/
def velocityField (v : Half) : Nat := v.toNat % 1024

/-- R191: the flow status code in bits 4 to 6 of the status byte. -/
def flowField (status : Byte) : FlowStatus := flowOfCode (status.toNat / 16 % 8)

/-- R191: the four status flags in bits 0 to 3 of the status byte. -/
def flagsField (status : Byte) : StatusFlags :=
  { channelFault := status.getLsbD 0, lineDegraded := status.getLsbD 1, valveFault := status.getLsbD 2,
    stepFault := status.getLsbD 3 }

/-- R87: the home zone and the vote of a PRESENCE or VOTE, if its zone lies in 1 to 15 and its level names one. -/
def voteField (zone level reason : Byte) : Option (Nat × Vote) :=
  match levelOfCode level.toNat with
  | none => none
  | some l =>
    if 1 ≤ zone.toNat ∧ zone.toNat ≤ 15 then some (zone.toNat, ⟨l, reasonOfCode reason.toNat⟩) else none

/-! ## Bytes -/

/-- The two bytes of a 16-bit field, high byte first. -/
def bytes2 (n : Nat) : List Byte := [BitVec.ofNat 8 (n / 256), BitVec.ofNat 8 n]

/-- The four bytes of a 32-bit field, high byte first. -/
def bytes4 (n : Nat) : List Byte :=
  [BitVec.ofNat 8 (n / 16777216), BitVec.ofNat 8 (n / 65536), BitVec.ofNat 8 (n / 256), BitVec.ofNat 8 n]

/-- The number that two bytes hold, high byte first. -/
def number2 (hi lo : Byte) : Nat := hi.toNat * 256 + lo.toNat

/-- Parameter byte `i` of a service command: exchange-area byte 2 + i (A.5). -/
def paramByte (params : List Byte) (i : Nat) : Byte := params.getD i 0

/-- The 16-bit offset parameter of READ_CONFIG and WRITE_CONFIG (A.5). -/
def paramOffset (params : List Byte) : Nat := number2 (paramByte params 0) (paramByte params 1)

/-- R193: a number of one byte, all bits set where it is absent. -/
def reply1 : Option Nat → List Byte
  | none => [0xFF]
  | some n => [BitVec.ofNat 8 n]

/-- R193: a number of two bytes, all bits set where it is absent. -/
def reply2 : Option Nat → List Byte
  | none => [0xFF, 0xFF]
  | some n => bytes2 n

/-- R193: a number of four bytes, all bits set where it is absent. -/
def reply4 : Option Nat → List Byte
  | none => [0xFF, 0xFF, 0xFF, 0xFF]
  | some n => bytes4 n

/-- R193: yes/no fields packed into one byte, the first listed in bit 0. -/
def replyBits (bits : List Bool) : Byte :=
  BitVec.ofNat 8 (bits.foldr (fun b n => (if b then 1 else 0) + 2 * n) 0)

/-! ## The CRC of frames, records and the image (R191, R192, R175) -/

/-- R191: one shift left, with 0x1021 added where it carries out a 1. -/
def crcShift (crc : Half) : Half :=
  if crc.getLsbD 15 then (crc <<< 1) ^^^ 0x1021#16 else crc <<< 1

/-- R191: one byte enters the register. -/
def crcByte (crc : Half) (b : Byte) : Half :=
  let r := crc ^^^ (b.setWidth 16 <<< 8)
  crcShift (crcShift (crcShift (crcShift (crcShift (crcShift (crcShift (crcShift r)))))))

/-- R191: the CRC over some bytes, from 0xFFFF. -/
def crc16 (bs : List Byte) : Half := bs.foldl crcByte 0xFFFF#16

/-! ## The configuration image (R175, R176, A.3)

A field reader takes the image and gives a value; where R176 changes the value, it also gives the field's offset
and the value as read, for the CONFIG_WARN event. -/

/-- A value of the configuration set, with the warnings that clamping it posts: offset and value as read. -/
structure Clamped (α : Type) where
  value : α
  warnings : List (Nat × Nat)
deriving DecidableEq, Repr

/-- The byte of the image at an offset. -/
def imageByte (image : List Byte) (o : Nat) : Nat := (image.getD o 0).toNat

/-- The two-byte field of the image at an offset. -/
def imageHalf (image : List Byte) (o : Nat) : Nat := imageByte image o * 256 + imageByte image (o + 1)

/-- R176: a field whose value as read is `raw` takes `value`, with a warning where the two differ. -/
def clampTo (o raw value : Nat) : Clamped Nat :=
  ⟨value, if value = raw then [] else [(o, raw)]⟩

/-- R176: a number below its range takes the minimum, one above the maximum. -/
def clampRange (o raw lo hi : Nat) : Clamped Nat := clampTo o raw (max lo (min raw hi))

/-- A one-byte number with its range. -/
def field1 (image : List Byte) (o lo hi : Nat) : Clamped Nat := clampRange o (imageByte image o) lo hi

/-- A two-byte number with its range. -/
def field2 (image : List Byte) (o lo hi : Nat) : Clamped Nat := clampRange o (imageHalf image o) lo hi

/-- R176: a code that names none of its values (0 to `last`) takes the default. -/
def fieldCode (image : List Byte) (o last default : Nat) : Clamped Nat :=
  clampTo o (imageByte image o) (if imageByte image o ≤ last then imageByte image o else default)

/-- R176: bits that name no member of a set are cleared. -/
def fieldBits (o raw : Nat) (allowed : Nat) : Clamped Nat := clampTo o raw (raw &&& allowed)

/-- R176: a debounce time of 1 to 4 ms takes 5 ms; 0 stays; the maximum is 100 ms. -/
def fieldDebounce (image : List Byte) (o : Nat) : Clamped Nat :=
  clampTo o (imageByte image o)
    (if imageByte image o = 0 then 0 else max 5 (min (imageByte image o) 100))

/-- Changes the value of a clamped field. -/
def Clamped.map {α β : Type} (f : α → β) (c : Clamped α) : Clamped β := ⟨f c.value, c.warnings⟩

/-- A.3: the eleven bytes of one spark channel. R176: the dark floor is at most the ambient ceiling minus 8. -/
def readChannelConfig (image : List Byte) (o : Nat) : Clamped ChannelConfig :=
  let enabled := fieldCode image o 1 0
  let trip := field2 image (o + 1) 8 512
  let hyst := field1 image (o + 3) 2 128
  let qn := field1 image (o + 4) 1 4
  let k := field1 image (o + 5) 6 12
  let glow := field2 image (o + 6) 20 2000
  let ceiling := field2 image (o + 8) 64 1000
  let dark := clampTo (o + 10) (imageByte image (o + 10))
    (min (min (imageByte image (o + 10)) 63) (ceiling.value - 8))
  { value :=
      { enabled := enabled.value == 1, tripOffset := trip.value, hysteresis := hyst.value,
        qualifyCount := qn.value, shift := k.value, glowLimit := glow.value, ceiling := ceiling.value,
        darkFloor := dark.value }
    warnings := enabled.warnings ++ trip.warnings ++ hyst.warnings ++ qn.warnings ++ k.warnings
      ++ glow.warnings ++ ceiling.warnings ++ dark.warnings }

/-- A.3: the seven bytes of one valve. -/
def readValveConfig (image : List Byte) (o : Nat) : Clamped ValveConfig :=
  let lead := field2 image o 0 500
  let hold := field2 image (o + 2) 100 5000
  let confirm := field2 image (o + 4) 100 3000
  let flood := field1 image (o + 6) 2 60
  { value :=
      { lead := lead.value, sprayHold := hold.value, flowConfirm := confirm.value,
        floodTime := flood.value }
    warnings := lead.warnings ++ hold.warnings ++ confirm.warnings ++ flood.warnings }

/-- A.3: the six bytes of one watch position. -/
def readWatchConfig (image : List Byte) (o : Nat) : Clamped WatchConfig :=
  let origin := field1 image o 0 31
  let channels := fieldBits (o + 1) (imageByte image (o + 1)) 15
  let length := field2 image (o + 2) 1 4000
  let source := field1 image (o + 4) 0 31
  let valves := fieldBits (o + 5) (imageByte image (o + 5)) 3
  { value :=
      { origin := origin.value, channels := BitVec.ofNat 4 channels.value, length := length.value,
        source := source.value, valves := BitVec.ofNat 2 valves.value }
    warnings := origin.warnings ++ channels.warnings ++ length.warnings ++ source.warnings
      ++ valves.warnings }

/-- A.3: the six bytes of one door. -/
def readDoorConfig (image : List Byte) (o : Nat) : Clamped DoorConfig :=
  let zone1 := field1 image o 0 15
  let zone2 := field1 image (o + 1) 0 15
  let conveyor := fieldCode image (o + 2) 1 0
  let feedHold := fieldCode image (o + 3) 1 0
  let tClear := field1 image (o + 4) 0 60
  let tTravel := field1 image (o + 5) 2 60
  { value :=
      { zone1 := zone1.value, zone2 := zone2.value, conveyor := conveyor.value == 1,
        feedHold := feedHold.value == 1, tClear := tClear.value, tTravel := tTravel.value }
    warnings := zone1.warnings ++ zone2.warnings ++ conveyor.warnings ++ feedHold.warnings
      ++ tClear.warnings ++ tTravel.warnings }

/-- A.3: the three bytes of one siren. -/
def readSirenConfig (image : List Byte) (o : Nat) : Clamped SirenConfig :=
  let zones := fieldBits o (imageHalf image o) 0xFFFE
  let mode := fieldCode image (o + 2) 1 0
  { value :=
      { zones := BitVec.ofNat 16 zones.value,
        mode := if mode.value = 1 then .preempt else .hold }
    warnings := zones.warnings ++ mode.warnings }

/-- The values of a list of clamped fields. -/
def clampedValues {α : Type} (cs : List (Clamped α)) : List α := cs.map Clamped.value

/-- The warnings of a list of clamped fields, in order. -/
def clampedWarnings {α : Type} (cs : List (Clamped α)) : List (Nat × Nat) :=
  (cs.map Clamped.warnings).flatten

/-- A.3, offsets 0 to 41: the node's own values. The channels, valves, watch positions, doors and sirens are put in
by `readConfigSet`. -/
def readNodeFields (image : List Byte) : List (Clamped Nat) :=
  [ field1 image 1 1 15,
    field1 image 2 0 15, field1 image 3 0 15, field1 image 4 0 15, field1 image 5 0 15,
    field1 image 6 0 15, field1 image 7 0 15, field1 image 8 0 15,
    field1 image 9 1 3, field2 image 10 250 2000, fieldCode image 12 2 1, fieldDebounce image 13,
    fieldCode image 14 1 0, fieldCode image 15 1 0, field2 image 16 64 512, field2 image 18 20 300,
    field1 image 20 0 50, field2 image 21 0 500, field2 image 23 0 1023, field1 image 25 5 200,
    field1 image 26 0 120, field1 image 27 1 60, field1 image 28 2 16, field1 image 29 1 16,
    field2 image 30 10 600, field1 image 32 1 7, fieldBits 33 (imageByte image 33) 15,
    field1 image 34 1 30, field2 image 35 200 5000, field1 image 37 0 120, field1 image 38 5 180,
    field1 image 39 1 30, field1 image 40 2 60, field1 image 41 0 30 ]

/-- R176: the configuration set of an accepted image, with its warnings in the order of the offsets. -/
def readConfigSet (image : List Byte) : Clamped ConfigSet :=
  let f := readNodeFields image
  let n (i : Nat) : Nat := (clampedValues f).getD i 0
  let role := BitVec.ofNat 4 (n 26)
  let c0 := readChannelConfig image 42
  let c1 := readChannelConfig image 53
  let c2 := readChannelConfig image 64
  let c3 := readChannelConfig image 75
  let v0 := readValveConfig image 86
  let v1 := readValveConfig image 93
  let w := [readWatchConfig image 100, readWatchConfig image 106, readWatchConfig image 112,
    readWatchConfig image 118, readWatchConfig image 124, readWatchConfig image 130,
    readWatchConfig image 136, readWatchConfig image 142]
  let d0 := readDoorConfig image 148
  let d1 := readDoorConfig image 154
  let s0 := readSirenConfig image 160
  let s1 := readSirenConfig image 163
  { value :=
      { homeZone := n 0, tracked := [n 1, n 2, n 3, n 4, n 5, n 6, n 7], fireQuorum := n 8,
        presencePeriod := n 9, sampleInterval := if n 10 = 0 then 250 else if n 10 = 1 then 500 else 1000,
        debounce := n 11, overflowMode := if n 12 = 1 then .keepNewest else .keepOldest,
        logPeers := n 13 == 1, kv := n 14, vMin := n 15, uncertainty := n 16, mergeGap := n 17,
        waterTrip := n 18, waterHysteresis := n 19, confirmTime := n 20, window := n 21, nHalt := n 22,
        nFire := n 23, clearTime := n 24, unlockTime := n 25,
        roles :=
          { feed := role.getLsbD 0, abort := role.getLsbD 1, fan := role.getLsbD 2,
            damper := role.getLsbD 3 },
        tFeed := n 27, tGate := n 28, runOn := n 29, tRundown := n 30, tDamper := n 31, tSpinup := n 32,
        resound := n 33, channels := ⟨c0.value, c1.value, c2.value, c3.value⟩,
        valves := ⟨v0.value, v1.value⟩, watch := clampedValues w, doors := ⟨d0.value, d1.value⟩,
        sirens := ⟨s0.value, s1.value⟩ }
    warnings := clampedWarnings f ++ clampedWarnings [c0, c1, c2, c3] ++ clampedWarnings [v0, v1]
      ++ clampedWarnings w ++ clampedWarnings [d0, d1] ++ clampedWarnings [s0, s1] }

/-- R175: whether the image is accepted: the CRC agrees, the version is 1 and the home zone is not 0. -/
def imageAccepted (image : List Byte) : Bool :=
  decide ((crc16 (image.take 510)).toNat = imageHalf image 510) && decide (imageByte image 0 = 1)
    && decide (imageByte image 1 ≠ 0)

end Sys2Proof.Machine
end

