-- ==== Sys2Proof/Machine/Flags.lean ====
section
/-! DEFINITION. Flag computations: the flag bits of an event record (R192), the status byte of a PRESENCE (R191), and
the fault summary as a set and as reply bits (R155, R193). -/

namespace Sys2Proof.Machine

/-- R192: the flag bits of an event record. -/
def flagFlood (b : Bool) : Nat := if b then 1 else 0
/-- R192: bit 1. -/
def flagSubstituted (b : Bool) : Nat := if b then 2 else 0
/-- R192: bit 2. -/
def flagNoFlow (b : Bool) : Nat := if b then 4 else 0
/-- R192: bit 3. -/
def flagMatched (b : Bool) : Nat := if b then 8 else 0
/-- R192: bit 4. -/
def flagOwnLatched (b : Bool) : Nat := if b then 16 else 0
/-- R192: bit 5. -/
def flagLatchChanged (b : Bool) : Nat := if b then 32 else 0
/-- R192: bit 6. -/
def flagRelay (b : Bool) : Nat := if b then 64 else 0

/-- R191: the status byte of a PRESENCE: the four flags in bits 0 to 3 and the flow status code in bits 4 to 6. -/
def statusByte (flags : StatusFlags) (flow : FlowStatus) : Byte :=
  BitVec.ofNat 8
    ((if flags.channelFault then 1 else 0) + (if flags.lineDegraded then 2 else 0)
      + (if flags.valveFault then 4 else 0) + (if flags.stepFault then 8 else 0) + 16 * flowCode flow)

/-- R155: whether a member is present. -/
def FaultSummary.has (f : FaultSummary) : FaultMember → Bool
  | .channelFault => f.channelFault
  | .flowLost => f.flowLost
  | .noFlow => f.noFlow
  | .leak => f.leak
  | .stepFault => f.stepFault
  | .doorJammed => f.doorJammed
  | .degraded => f.degraded
  | .listenOnly => f.listenOnly
  | .stuck => f.stuck
  | .logFull => f.logFull
  | .logDegraded => f.logDegraded

/-- R155: the summary with a member present or absent. -/
def FaultSummary.put (f : FaultSummary) (m : FaultMember) (b : Bool) : FaultSummary :=
  match m with
  | .channelFault => { f with channelFault := b }
  | .flowLost => { f with flowLost := b }
  | .noFlow => { f with noFlow := b }
  | .leak => { f with leak := b }
  | .stepFault => { f with stepFault := b }
  | .doorJammed => { f with doorJammed := b }
  | .degraded => { f with degraded := b }
  | .listenOnly => { f with listenOnly := b }
  | .stuck => { f with stuck := b }
  | .logFull => { f with logFull := b }
  | .logDegraded => { f with logDegraded := b }

/-- R155: the members in the order of their codes. -/
def allFaults : List FaultMember :=
  [.channelFault, .flowLost, .noFlow, .leak, .stepFault, .doorJammed, .degraded, .listenOnly, .stuck,
   .logFull, .logDegraded]

/-- R155: the number of members present. -/
def FaultSummary.size (f : FaultSummary) : Nat := (allFaults.filter f.has).length

/-- R156: whether no member is present. -/
def FaultSummary.isEmpty (f : FaultSummary) : Bool :=
  !(f.channelFault || f.flowLost || f.noFlow || f.leak || f.stepFault || f.doorJammed || f.degraded
    || f.listenOnly || f.stuck || f.logFull || f.logDegraded)

/-- R193: the fault summary in two bytes, one bit per member in code order, the relay level in bit 15. -/
def faultBits (f : FaultSummary) (relay : Bool) : Nat :=
  (allFaults.map f.has).foldr (fun b n => (if b then 1 else 0) + 2 * n) 0 + (if relay then 32768 else 0)

end Sys2Proof.Machine
end

