-- ==== Sys2Proof/Machine/Ops.lean ====
section
/-! DEFINITION. The shared operations: instants and deadlines (R1), the sparse byte memory, contact levels (R2), the
event queue and the log store (section 9), and the fault summary and relay (R155, R156). -/

namespace Sys2Proof.Machine

/-! ## Instants (R1) -/

/-- R1: `a` is before `b`: their difference modulo 2^32, read as a signed number, is negative. -/
def before (a b : Instant) : Bool := decide ((a - b).toInt < 0)

/-- R1: the instant `ms` milliseconds after `t`. -/
def later (t : Instant) (ms : Nat) : Instant := t + BitVec.ofNat 32 ms

/-- R1: a deadline is due when it is present and the time base has reached it. -/
def due (now : Instant) (deadline : Option Instant) : Bool :=
  match deadline with
  | none => false
  | some d => !before now d

/-- A number written in 16 bits: 65,535 where it is larger (R60, R130, R193). -/
def sat16 (n : Nat) : Nat := min n 65535

/-- The milliseconds from `t` to `now`. -/
def elapsed (now t : Instant) : Nat := (now - t).toNat

/-- R193: the milliseconds from `now` to a deadline, 0 once it is reached. -/
def remaining (now d : Instant) : Nat := if before now d then (d - now).toNat else 0

/-- The earlier of two deadlines, either of which may be absent. -/
def earliest (a b : Option Instant) : Option Instant :=
  match a, b with
  | none, y => y
  | x, none => x
  | some x, some y => if before y x then some y else some x

/-! ## The sparse byte memory -/

/-- What a byte reads as that nothing has written or that an erase has cleared. DESIGN CHOICE (log 3). -/
def blankByte : Byte := 0xFF

/-- The byte at an address. -/
def Memory.read (m : Memory) (a : Nat) : Byte :=
  match m with
  | [] => blankByte
  | (k, v) :: t => if k = a then v else Memory.read t a

/-- Writes one byte, keeping the canonical form: a byte equal to the blank byte is not listed. -/
def Memory.write (a : Nat) (b : Byte) (m : Memory) : Memory :=
  match m with
  | [] => if b = blankByte then [] else [(a, b)]
  | (k, v) :: t =>
    if a < k then (if b = blankByte then (k, v) :: t else (a, b) :: (k, v) :: t)
    else if a = k then (if b = blankByte then t else (a, b) :: t)
    else (k, v) :: Memory.write a b t

/-- The canonical form: addresses strictly rising, and no listed byte equal to the blank byte. -/
abbrev Memory.wf (m : Memory) : Prop :=
  m.Pairwise (fun x y => x.1 < y.1) ∧ ∀ c ∈ m, c.2 ≠ blankByte

/-- Writes bytes at rising addresses. -/
def Memory.writeBytes (a : Nat) (bs : List Byte) (m : Memory) : Memory :=
  match bs with
  | [] => m
  | b :: rest => Memory.writeBytes (a + 1) rest (Memory.write a b m)

/-- Writes those of the bytes at rising addresses whose number satisfies `which`. -/
def Memory.writeSome (which : Nat → Bool) (i a : Nat) (bs : List Byte) (m : Memory) : Memory :=
  match bs with
  | [] => m
  | b :: rest =>
    Memory.writeSome which (i + 1) (a + 1) rest (if which i then Memory.write a b m else m)

/-- The bytes at `n` rising addresses. -/
def Memory.readBytes (m : Memory) (a n : Nat) : List Byte :=
  (List.range n).map (fun i => Memory.read m (a + i))

/-- Clears the bytes at `n` addresses from `a` for which `which` holds of the offset. -/
def Memory.clearSome (which : Nat → Bool) (a n : Nat) (m : Memory) : Memory :=
  m.filter (fun c => !(decide (a ≤ c.1) && decide (c.1 < a + n) && which (c.1 - a)))

/-! ## Start-up state and configuration -/

/-- Whether start-up is OPERATING. -/
def State.operating (s : State) : Bool := decide (s.startup.state = .operating)

/-- Whether a configuration set has been handed over since the last reset (R177). -/
def State.handedOver (s : State) : Bool := s.config.isSome

/-- A set of zeros, in place of the configuration set before the hand-over; nothing acts on it. -/
def ConfigSet.unset : ConfigSet :=
  (readConfigSet []).value

/-- The configuration set in force. -/
def State.cfg (s : State) : ConfigSet := s.config.getD ConfigSet.unset

/-- The own station number; 0 before the switches have been read. -/
def State.station (s : State) : Nat := s.startup.station.getD 0

/-- The home zone's view as the zone unit holds it; CLEAR while the zone table is empty (R158). -/
def State.homeView (s : State) : Level :=
  match s.zones.zones with
  | [] => .clear
  | z :: _ => z.view

/-! ## Contact levels (R2) -/

/-- R2: the debounced level of a contact input. -/
def State.level (s : State) (i : Input) : Bool := s.inputs.level[inputIndex i]

/-- The raw level of a contact input. -/
def State.rawLevel (s : State) (i : Input) : Bool := s.inputs.raw[inputIndex i]

/-- R185: the instant until which K1's raw level has not yet stood for 20 ms, once the raw level of an input becomes
`active`. -/
def State.holdAfter (s : State) (i : Input) (active : Bool) : Option Instant :=
  if i = .k1 ∧ s.rawLevel i ≠ active then some (later s.time 20) else s.inputs.k1Hold

/-- R2: the debounced level of an input becomes `active`; its raw level follows (log 6), and its debounce period is
over. -/
def setLevel (i : Input) (active : Bool) (s : State) : State :=
  { s with inputs :=
      { s.inputs with
        raw := s.inputs.raw.set (inputIndex i) active
        k1Hold := s.holdAfter i active
        level := s.inputs.level.set (inputIndex i) active
        deadline := s.inputs.deadline.set (inputIndex i) none } }

/-! ## Event records (R158, R192) -/

/-- R192: the sixteen bytes of a record; the last two are the CRC over the others. -/
def recordBytes (r : Record) : List Byte :=
  let body := bytes4 r.instant.toNat
    ++ [BitVec.ofNat 8 (eventCode r.kind), BitVec.ofNat 8 r.subject, BitVec.ofNat 8 (levelCode r.context),
        BitVec.ofNat 8 r.station]
    ++ bytes2 r.flags ++ bytes2 r.value1 ++ bytes2 r.value2
  body ++ bytes2 (crc16 body).toNat

/-- R158, R192: the record of an event posted now. -/
def State.record (s : State) (kind : EventKind) (subject value1 value2 flags : Nat) : Record :=
  { instant := s.time, kind := kind, subject := subject, context := s.homeView, station := s.station,
    flags := flags, value1 := value1, value2 := value2 }

/-! ## The log array (section 9.3) -/

/-- The address of the first byte of a page in the array's bytes. -/
def pageAddress (b p : Fin 16) : Nat := b.val * 8192 + p.val * 512

/-- Section 9.3: a block is usable when it is marked neither protected nor retired. -/
def BlockEntry.usable (e : BlockEntry) : Bool := !e.isProtected && !e.retired

/-- Section 9.3: the records of the buffer that no completed program has written. -/
def LogStore.unprogrammed (l : LogStore) : List Record := l.buffer.drop l.programmed

/-- R168: the number of retired blocks. -/
def LogStore.retiredCount (l : LogStore) : Nat := (l.table.toList.filter BlockEntry.retired).length

/-- R171: the number of protected blocks. -/
def LogStore.protectedCount (l : LogStore) : Nat := (l.table.toList.filter BlockEntry.isProtected).length

/-! ## The event queue and the page buffer (R159 to R164) -/

/-- R160: the OVERFLOW record, completed with the instant, context level and station of `stamp`. -/
def overflowRecord (stamp : Record) (lost : Nat) (mode : OverflowMode) : Record :=
  { stamp with kind := .overflow, subject := 0, flags := 0, value1 := lost, value2 := overflowCode mode }

/-- R159: an event joins the queue, or the queue is full and the overflow mode decides what is lost. -/
def enqueue (r : Record) (q : EventQueue) : EventQueue :=
  if q.queue.length < 32 then { q with queue := q.queue ++ [r] }
  else
    match q.mode with
    | .keepOldest => { q with lost := min (q.lost + 1) 65535 }
    | .keepNewest =>
      match q.queue with
      | [] => { q with lost := min (q.lost + 1) 65535 }
      | h :: rest =>
        { q with
          queue := rest ++ [r]
          lost := min (q.lost + (if h.kind = .overflow then h.value1 else 1)) 65535 }

/-- R160, R162: the log store takes the head record; where records have been lost, an OVERFLOW record takes the
place that has become free. -/
def takeOne (stamp : Record) (g : LogSystem) : LogSystem :=
  match g.events.queue with
  | [] => g
  | r :: rest =>
    { g with
      events :=
        if g.events.lost = 0 then { g.events with queue := rest }
        else
          { g.events with
            queue := rest ++ [overflowRecord stamp g.events.lost g.events.mode], lost := 0 }
      store := { g.store with buffer := g.store.buffer ++ [r] } }

/-- R162: the log store takes waiting records up to the room of its buffer; `n` bounds the number taken. -/
def takeWaiting (stamp : Record) (n : Nat) (g : LogSystem) : LogSystem :=
  match n with
  | 0 => g
  | n + 1 =>
    if g.store.buffer.length < 32 ∧ g.events.queue ≠ [] then takeWaiting stamp n (takeOne stamp g) else g

/-- R164: a page program begins: the page's program count rises, and the log store enters PROGRAMMING. -/
def startProgram (g : LogSystem) : LogSystem :=
  match g.store.position with
  | none => g
  | some (b, p) =>
    { g with
      headers := g.headers.set b { g.headers[b] with counts := g.headers[b].counts.set p (g.headers[b].counts[p] + 1) }
      store := { g.store with state := .programming } }

/-- R162, R163: what the log store does in IDLE when a record has been posted or has become head. -/
def takeInIdle (stamp : Record) (g : LogSystem) : LogSystem :=
  if g.store.state = .idle then
    let h := takeWaiting stamp 32 g
    if 32 ≤ h.store.buffer.length ∧ h.store.unprogrammed ≠ [] then startProgram h else h
  else g

/-- R158, R159, R162: an event is posted, and taken at once where the log store is IDLE and has room. -/
def post (kind : EventKind) (subject value1 value2 flags : Nat) (s : State) : State :=
  let r := s.record kind subject value1 value2 flags
  { s with log := takeInIdle r { s.log with events := enqueue r s.log.events } }

/-- R162, R163: a return to IDLE: waiting records are taken, a pending flush is acted on, and a program starts where
one is due; `whole` says that the buffer held unprogrammed records when an erase began (R166). -/
def returnToIdle (stamp : Record) (whole : Bool) (g : LogSystem) : LogSystem :=
  let h := takeWaiting stamp 32 { g with store := { g.store with state := .idle } }
  let k := { h with store := { h.store with flushPending := false } }
  if h.store.unprogrammed ≠ [] ∧ (h.store.flushPending ∨ whole ∨ 32 ≤ h.store.buffer.length) then
    startProgram k
  else k

/-- R163, R187: an evidence flush is asked for; the code names what the request found. -/
def requestFlush (g : LogSystem) : LogSystem × Nat :=
  if g.store.state = .idle then
    if g.store.unprogrammed ≠ [] then (startProgram g, 0) else (g, 3)
  else if g.store.flushPending then (g, 2)
  else ({ g with store := { g.store with flushPending := true } }, 1)

/-- The offsets of a search: the block after the present one first, the present one last (R165). -/
def searchOrder : List (Fin 16) := [1, 2, 3, 4, 5, 6, 7, 8, 9, 10, 11, 12, 13, 14, 15, 0]

/-- R165, R166: the next usable block after `b`, wrapping, the block itself last; none once the sequence numbers are
used up. -/
def nextUsable (l : LogStore) (b : Fin 16) : Option (Fin 16) :=
  if l.nextSequence ≤ 4294967294 then
    (searchOrder.map (fun i => b + i)).find? (fun k => l.table[k].usable)
  else none

/-- R166: an erase for writing begins: the block header is blanked. The block is the write position's from here
(log 17), and the program counts of its pages stand until the completion (DESIGN CHOICE, log 46). -/
def startErase (b : Fin 16) (g : LogSystem) : LogSystem :=
  { g with
    headers := g.headers.set b
      { g.headers[b] with sequence := none, isProtected := false, retired := false }
    store := { g.store with state := .erasing, position := some (b, 0) } }

/-- R169: the log store enters FULL, with no write position. -/
def enterFull (g : LogSystem) : LogSystem :=
  { g with store := { g.store with state := .full, position := none } }

/-- R164: the records of a successful program are in the array; gives whether the block has just become protected. The
manual does not say at which instant of the program the header's protected mark is set; here it is set at the completion
(DESIGN CHOICE, log 42). -/
def commitProgram (b p : Fin 16) (g : LogSystem) : LogSystem × Bool :=
  let fire := g.store.unprogrammed.any (fun r => decide (r.context = .fire))
  ({ g with
      headers :=
        if fire then g.headers.set b { g.headers[b] with isProtected := true } else g.headers
      array := Memory.writeBytes (pageAddress b p + 16 * g.store.programmed)
        (g.store.unprogrammed.map recordBytes).flatten g.array
      store :=
        { g.store with
          table :=
            if fire then g.store.table.set b { g.store.table[b] with isProtected := true }
            else g.store.table
          programmed := g.store.buffer.length } },
   fire)

/-- R167, R172: what a program that failed or was cut off leaves in the array: some of its bytes, and perhaps its
protected mark, as free values choose. -/
def leaveProgram (which : Nat → Bool) (mark : Bool) (b p : Fin 16) (g : LogSystem) : LogSystem :=
  let fire := g.store.unprogrammed.any (fun r => decide (r.context = .fire))
  { g with
    headers :=
      if fire && mark then g.headers.set b { g.headers[b] with isProtected := true } else g.headers
    array := Memory.writeSome which 0 (pageAddress b p + 16 * g.store.programmed)
      (g.store.unprogrammed.map recordBytes).flatten g.array }

/-- R166: the pages of a block are cleared and their program counts fall to 0. The manual does not say at which instant of
the erase a count falls; here they all fall at its completion (DESIGN CHOICE, log 46). -/
def clearBlock (b : Fin 16) (g : LogSystem) : LogSystem :=
  { g with
    headers := g.headers.set b { g.headers[b] with counts := Vector.replicate 16 0 }
    array := Memory.clearSome (fun _ => true) (pageAddress b 0) 8192 g.array }

/-- The sixteen page numbers. -/
def pageNumbers : Vector Nat 16 := ⟨#[0, 1, 2, 3, 4, 5, 6, 7, 8, 9, 10, 11, 12, 13, 14, 15], rfl⟩

/-- R166, R172: what an erase that failed or was cut off leaves: a block partly cleared, as free values choose. -/
def leaveErase (bytes counts : Nat → Bool) (b : Fin 16) (g : LogSystem) : LogSystem :=
  { g with
    headers := g.headers.set b
      { g.headers[b] with
        counts := Vector.zipWith (fun p c => if counts p then 0 else c) pageNumbers g.headers[b].counts }
    array := Memory.clearSome bytes (pageAddress b 0) 8192 g.array }

/-- R166: an erase has succeeded: the block carries the next sequence number. -/
def commitErase (b : Fin 16) (g : LogSystem) : LogSystem :=
  let h := clearBlock b g
  { h with
    headers := h.headers.set b { h.headers[b] with sequence := some h.store.nextSequence }
    store :=
      { h.store with
        table := h.store.table.set b
          { sequence := some h.store.nextSequence, isProtected := false, retired := false }
        nextSequence := h.store.nextSequence + 1 } }

/-- R168: a block's retired mark is set in the block table and in its header. -/
def retireBlock (b : Fin 16) (g : LogSystem) : LogSystem :=
  { g with
    headers := g.headers.set b { g.headers[b] with retired := true }
    store := { g.store with table := g.store.table.set b { g.store.table[b] with retired := true } } }

/-! ## The fault summary and the fault relay (R155, R156) -/

/-- R155, R156: an owner raises or withdraws a member of the fault summary; a report that changes the summary sets
the relay and posts a FAULT event. Owners report nothing before OPERATING. -/
def reportFault (m : FaultMember) (standing : Bool) (s : State) : State :=
  if s.operating && (s.sirens.summary.has m != standing) then
    let f := s.sirens.summary.put m standing
    post .fault 0 (faultCode m) (if standing then 1 else 0) (flagRelay f.isEmpty)
      { s with sirens := { s.sirens with summary := f, relay := f.isEmpty } }
  else s

/-! ## The log store's search and retirement at the node (R165, R168, R169) -/

/-- R165, R169: the log store searches on from a block: it erases the next usable block, or enters FULL. LOG_FULL
follows. -/
def searchFrom (b : Fin 16) (s : State) : State :=
  match nextUsable s.log.store b with
  | some k => reportFault .logFull false { s with log := startErase k s.log }
  | none => reportFault .logFull true { s with log := enterFull s.log }

/-- R168: a block is retired for the given cause code; LOG_DEGRADED is raised at four retired blocks. -/
def retire (b : Fin 16) (cause : Nat) (s : State) : State :=
  let t := { s with log := retireBlock b s.log }
  let u := post .logRetire b.val cause t.log.store.retiredCount 0 t
  if 4 ≤ t.log.store.retiredCount then reportFault .logDegraded true u else u

end Sys2Proof.Machine
end

