-- ==== Sys2Proof/Machine/LineOps.lean ====
section
/-! DEFINITION. The line interface's shared operations: the outbound queue and its slots (R70 to R73, R78), the gap and
the holding stage (R74, R75), the bytes of a frame (R76, R191), and the hand-overs of other blocks. -/

namespace Sys2Proof.Machine

/-! ## Frames and slots -/

/-- Section 4.2: the kind of an outbound frame. -/
def OutFrame.kind : OutFrame → FrameKind
  | .detect _ _ _ _ _ => .detect
  | .vote _ _ => .vote
  | .restart _ => .restart
  | .presence _ => .presence

/-- R74: the class of a frame. -/
def OutFrame.cls : OutFrame → Nat
  | .detect _ _ _ _ _ => 0
  | .vote _ _ => 1
  | .restart _ => 1
  | .presence _ => 2

/-- R70: whether two frames are of one purpose, and so of one slot. -/
def OutFrame.sameSlot : OutFrame → OutFrame → Bool
  | .detect c _ _ _ _, .detect d _ _ _ _ => decide (c = d)
  | .vote _ _, .vote _ _ => true
  | .restart _, .restart _ => true
  | .presence _, .presence _ => true
  | _, _ => false

/-- R70: a frame enters the queue behind those of its class. -/
def insertFrame (f : OutFrame) (q : List OutFrame) : List OutFrame :=
  match q with
  | [] => [f]
  | g :: t => if g.cls ≤ f.cls then g :: insertFrame f t else f :: g :: t

/-- R70, R78: a frame returned to the queue is placed at the head of its class. -/
def insertAtHead (f : OutFrame) (q : List OutFrame) : List OutFrame :=
  match q with
  | [] => [f]
  | g :: t => if g.cls < f.cls then g :: insertAtHead f t else f :: g :: t

/-- R71 to R73: a hand-over: it changes the frame in its slot, or places a new frame where the slot is empty. -/
def handOver (f : OutFrame) (change : OutFrame → OutFrame) (q : List OutFrame) : List OutFrame :=
  if q.any (fun g => f.sameSlot g) then q.map (fun g => if f.sameSlot g then change g else g)
  else insertFrame f q

/-- R71: a detection is coalesced into the DETECT of its slot. -/
def coalesce (instant : Instant) (peak : Nat) : OutFrame → OutFrame
  | .detect c n first _ p => .detect c (min (n + 1) 15) first instant (max p peak)
  | g => g

/-- The earlier of two instants. -/
def earlierOf (a b : Instant) : Instant := if before b a then b else a

/-- The later of two instants. -/
def laterOf (a b : Instant) : Instant := if before a b then b else a

/-- R78: a returning frame and the frame that filled its slot meanwhile become one. -/
def mergeFrames (returning queued : OutFrame) : OutFrame :=
  match returning, queued with
  | .detect c n first last p, .detect _ m first' last' p' =>
    .detect c (min (n + m) 15) (earlierOf first first') (laterOf last last') (max p p')
  | _, g => g

/-- R78: a frame returns to the queue. -/
def returnFrame (f : OutFrame) (q : List OutFrame) : List OutFrame :=
  match q.find? (fun g => f.sameSlot g) with
  | none => insertAtHead f q
  | some g => insertAtHead (mergeFrames f g) (q.filter (fun h => !f.sameSlot h))

/-! ## The bytes of a frame (R76, R191) -/

/-- R76: the age of a DETECT at its drive instant, saturating. -/
def frameAge (drive first : Instant) : Nat := sat16 (elapsed drive first)

/-- R191: the body of a frame, from the byte after the source. -/
def frameBody (drive : Instant) : OutFrame → List Byte
  | .detect c n first last p =>
    [BitVec.ofNat 8 c.val, BitVec.ofNat 8 n] ++ bytes2 (frameAge drive first)
      ++ bytes2 (sat16 (elapsed last first)) ++ bytes2 p
  | .vote z v => [BitVec.ofNat 8 z, BitVec.ofNat 8 (levelCode v.level), BitVec.ofNat 8 (reasonCode v.reason)]
  | .restart z => [0, BitVec.ofNat 8 z]
  | .presence b =>
    [BitVec.ofNat 8 b.homeZone, BitVec.ofNat 8 (levelCode b.vote.level),
     BitVec.ofNat 8 (reasonCode b.vote.reason), BitVec.ofNat 8 (seqCode b.extraction)]
      ++ bytes2 (b.velocity % 1024) ++ [statusByte b.flags b.flow]

/-- R191: all the bytes of a frame driven at an instant by a station, the CRC high byte first. -/
def frameBytes (station : Nat) (drive : Instant) (f : OutFrame) : List Byte :=
  let checked := [BitVec.ofNat 8 (kindByte f.kind), BitVec.ofNat 8 station] ++ frameBody drive f
  [0x5B] ++ checked ++ bytes2 (crc16 checked).toNat

/-! ## Gaps and the two stages (R74, R75) -/

/-- R64: the bit time in microseconds at a rate code. -/
def bitTime (rate : Nat) : Nat := 16 / 2 ^ rate

/-- R74: the gap of a frame for a station, in bit times. -/
def frameGap (station : Nat) (f : OutFrame) : Nat :=
  (if f.cls = 0 then 12 else if f.cls = 1 then 76 else 140) + 2 * station

/-- R74: whether the head frame may enter the holding stage, once the quiet count has reached its gap. -/
def mayHold (l : Line) : Bool :=
  decide (l.state = .listening) && l.holding.isNone && l.shift.isNone && !l.queue.isEmpty
    && decide (l.receiver = .hunting)

/-- R74: the head frame leaves the queue and enters the holding stage. -/
def holdHead (l : Line) : Line :=
  match l.queue with
  | [] => l
  | f :: rest => { l with queue := rest, holding := some f }

/-- R65: whether the quiet count runs. -/
def Line.counting (l : Line) : Bool := decide (l.activity = .mark)

/-- R74: whether the quiet count has already reached the gap of the head frame. -/
def gapReached (station : Nat) (l : Line) : Bool :=
  l.counting &&
    match l.queue with
    | [] => false
    | f :: _ => decide (frameGap station f ≤ l.quiet)

/-- R74: a head frame whose gap the quiet count has reached enters the holding stage at once. -/
def judgeGap (station : Nat) (l : Line) : Line :=
  if mayHold l && gapReached station l then holdHead l else l

/-- R69, R75, R77, R79: the frame of a stage returns to the queue (R78); STARTUP_FAILED holds no frame in its queue, so
there it is dropped (R85, R181). -/
def State.takeBack (s : State) (f : Option OutFrame) (q : List OutFrame) : List OutFrame :=
  match f with
  | none => q
  | some g => if s.startup.state = .failed then q else returnFrame g q

/-- R64, R76, R77: the number of bytes of a driven frame that the node has driven and read back, each of ten bit times.
The last byte passes its check at OWN_ECHO. The drive is counted from the beginning of its millisecond (DESIGN CHOICE, log
43). -/
def DrivenFrame.readBack (now : Instant) (rate : Nat) (d : DrivenFrame) : Nat :=
  min (d.bytes.length - 1) (elapsed now d.drive * 1000 / (10 * bitTime rate))

/-- R77, R79, R181: the byte of a driven frame that is on the line. -/
def DrivenFrame.present (now : Instant) (rate : Nat) (d : DrivenFrame) : Byte := d.bytes.getD (d.readBack now rate) 0

/-- R66, R77: the receiver where it has read the first `n` bytes that the node drove. -/
def Receiver.readFirst (n : Nat) (bytes : List Byte) : Receiver → Receiver
  | .hunting => .hunting
  | .taking t _ => .taking t (bytes.take n)

/-- R66, R77: the bytes that the node has driven and read back join the receiver's partial frame. -/
def readOwn (now : Instant) (rate : Nat) (l : Line) : Line :=
  match l.activity, l.shift with
  | .own, some d => { l with receiver := l.receiver.readFirst (d.readBack now rate) d.bytes }
  | _, _ => l

/-- R69, R79: what is on the line when the stages are emptied: a byte that the node drives stays there to its end. -/
def stopDriving (now : Instant) (rate : Nat) (l : Line) : Activity :=
  match l.activity, l.shift with
  | .own, some d => .ownLast (d.present now rate)
  | a, _ => a

/-- The rate code in use; 0 before the switches have been read. -/
def State.rate (s : State) : Nat := s.startup.rate.getD 0

/-- R69, R78, R79: the frames of both stages are taken back, the shift stage's first (DESIGN CHOICE, log 8; by R74 at most
one of them holds a frame), and a byte that the node drives is driven to its end. -/
def returnStages (s : State) : Line :=
  { readOwn s.time s.rate s.line with
    queue := s.takeBack s.line.holding (s.takeBack (s.line.shift.map DrivenFrame.frame) s.line.queue)
    holding := none, shift := none, activity := stopDriving s.time s.rate s.line }

/-- The queue is changed by a hand-over, and the head is judged against its gap at once (R74). -/
def changeQueue (f : OutFrame) (change : OutFrame → OutFrame) (s : State) : State :=
  { s with line := judgeGap s.station { s.line with queue := handOver f change s.line.queue } }

/-! ## Hand-overs of other blocks (R71 to R73) -/

/-- R71: the spark channel unit hands over a detection. -/
def handDetection (ch : Fin 4) (instant : Instant) (peak : Nat) (s : State) : State :=
  changeQueue (.detect ch 1 instant instant peak) (coalesce instant peak) s

/-- R72: the zone unit hands over a vote. -/
def handVote (v : Vote) (s : State) : State :=
  changeQueue (.vote s.cfg.homeZone v) (fun _ => .vote s.cfg.homeZone v) s

/-- R72: a restart of the home zone is handed over; a queued RESTART is kept as it stands. -/
def handRestart (s : State) : State :=
  changeQueue (.restart s.cfg.homeZone) (fun g => g) s

/-- Section 3.7: the valve sequencer's valve fault state. -/
def State.valveFault (s : State) : Bool := s.valves.valves.any (fun v => v.noFlow || v.leak)

/-- R18: whether some channel is in a fault state. -/
def State.channelFault (s : State) : Bool :=
  s.channels.any (fun c => decide (c.state = .faultAmbient) || decide (c.state = .faultDark))

/-- R73: the contents of a PRESENCE, read now. -/
def presenceBody (s : State) : PresenceBody :=
  { homeZone := s.cfg.homeZone, vote := s.zones.own, extraction := s.sequencer.state,
    velocity := s.flow.velocity, flow := s.flow.status,
    flags :=
      { channelFault := s.channelFault, lineDegraded := s.line.degraded, valveFault := s.valveFault,
        stepFault := s.sequencer.stepFault } }

/-- R73: a PRESENCE is placed in its slot, or the queued one is refreshed. -/
def placePresence (s : State) : State :=
  changeQueue (.presence (presenceBody s)) (fun _ => .presence (presenceBody s)) s

/-! ## Line events -/

/-- R83: a LINE event with a change code and value2. -/
def postLine (code value2 : Nat) (s : State) : State := post .line 0 code value2 0 s

/-- R79: the stuck watch where the quiet count stands at `quiet`: it is discarded once that is 142. -/
def watchAt (quiet : Nat) (watch : Option Instant) : Option Instant := if 142 ≤ quiet then none else watch

/-- R65: a start bit is seen at a quiet count: the count returns to 0 and waits for the end of the byte; R79: the stuck
watch is set where it is then absent. -/
def seeStartBit (now : Instant) (rate quiet : Nat) (a : Activity) (l : Line) : Line :=
  { l with
    quiet := 0, quietPart := 0, activity := a
    stuckWatch :=
      match watchAt quiet l.stuckWatch with
      | none => some (later now (520 * bitTime rate / 1000))
      | some d => some d }

/-- R65: the line when a byte has ended: the quiet count begins at 0 where the line rests at mark. -/
def byteOver (rests : Bool) (l : Line) : Line :=
  { l with quiet := 0, quietPart := 0, activity := if rests then .mark else .busy }

/-- Whether the line comes to rest at mark when the byte on it has ended. -/
def lineRests : StopBit → Bool
  | .mark => true
  | .followed => false
  | .space => true
  | .held => false

/-- Whether the line comes to rest at mark when what is on it has ended. -/
def Line.rests (l : Line) : Bool :=
  match l.activity with
  | .byte _ stop => lineRests stop
  | .mark => true
  | .own => true
  | .ownLast _ => true
  | .busy => true

/-- R65, R66: a byte that ends a reception has ended: the quiet count begins at 0 where the line rests, and the receiver
hunts. -/
def endReception (l : Line) : Line := { byteOver l.rests l with receiver := .hunting }

end Sys2Proof.Machine
end

