-- ==== Sys2Proof/Machine/PlantOps.lean ====
section
/-! DEFINITION. The shared operations of the plant blocks: the extraction sequencer's steps (section 6), the doors
(section 7) and the sirens (section 8). None of them reports to the zone unit; `ZoneOps` does that. -/

namespace Sys2Proof.Machine

/-! ## Extraction sequencer: states and outputs (R111) -/

/-- Section 6.2: the level of each output in each state, for the outputs in the role set. -/
def seqOutputs (roles : Roles) (st : SeqState) (feedHold : Bool) : SeqOutputs :=
  { feed := roles.feed && decide (st = .running) && !feedHold
    abort := roles.abort &&
      match st with
      | .running | .feedStopping | .gateReturning | .feedWait => true
      | _ => false
    fan := roles.fan &&
      match st with
      | .running | .feedStopping | .venting | .runOn | .fanStarting | .gateReturning | .feedWait => true
      | _ => false
    damper := roles.damper &&
      match st with
      | .damperClosing | .halted => false
      | _ => true }

/-- Section 6.1: the shutdown and restart steps, as against RUNNING and HALTED. -/
def SeqState.isStep (st : SeqState) : Bool := !(decide (st = .running) || decide (st = .halted))

/-- Section 6.1: the four restart steps. -/
def SeqState.restarting : SeqState → Bool
  | .damperOpening | .fanStarting | .gateReturning | .feedWait => true
  | _ => false

/-- R111: a change of sequencer state, with the outputs of the state entered. No step timer runs yet. -/
def setSequencer (st : SeqState) (s : State) : State :=
  { s with sequencer :=
      { s.sequencer with
        state := st
        haltedCause := none
        stepTimer := none
        stepEntered := if st.isStep then some s.time else none
        outputs := seqOutputs s.cfg.roles st s.sequencer.feedHold } }

/-- R130: a STEP event. -/
def postStep (subject code value2 : Nat) (s : State) : State := post .step subject code value2 0 s

/-- R110, R113: entry to a step: it completes at once when its output is not in the role set (SKIPPED) or its
confirmation already holds (CONFIRMED), and otherwise waits on its step timer. -/
def enterStep (st : SeqState) (inRole : Bool) (limit : Nat) (confirmed : Bool) (next : State → State)
    (s : State) : State :=
  let t := setSequencer st s
  if !inRole then next (postStep (stepNumber st) 1 0 t)
  else if confirmed then next (postStep (stepNumber st) 0 0 t)
  else { t with sequencer := { t.sequencer with stepTimer := some (later t.time limit) } }

/-- R118, R126: entry to HALTED with a cause. The report to the zone unit is the caller's. -/
def enterHalted (cause : HaltedCause) (s : State) : State :=
  let t := setSequencer .halted s
  postStep 0 6 (haltedCode cause) { t with sequencer := { t.sequencer with haltedCause := some cause } }

/-- Section 6.3.2: DAMPER_CLOSING. -/
def enterDamperClosing (s : State) : State :=
  enterStep .damperClosing s.cfg.roles.damper (s.cfg.tDamper * 1000) (s.level .dmc) (enterHalted .shutdown) s

/-- R117: FAN_STOPPING. -/
def enterFanStopping (s : State) : State :=
  enterStep .fanStopping s.cfg.roles.fan (s.cfg.tRundown * 1000) (decide (s.flow.status = .lowFlow))
    enterDamperClosing s

/-- R116: RUN_ON completes at once when the home view is FIRE, the run-on is 0 or FAN is not in the role set. -/
def enterRunOn (s : State) : State :=
  enterStep .runOn (s.cfg.roles.fan && decide (s.homeView ≠ .fire) && decide (s.cfg.runOn ≠ 0))
    (s.cfg.runOn * 1000) false enterFanStopping s

/-- Section 6.3.2: VENTING. -/
def enterVenting (s : State) : State :=
  enterStep .venting s.cfg.roles.abort s.cfg.tGate (s.level .gv) enterRunOn s

/-- Section 6.3.2: FEED_STOPPING. -/
def enterFeedStopping (s : State) : State :=
  enterStep .feedStopping s.cfg.roles.feed (s.cfg.tFeed * 1000) (s.level .fsc) enterVenting s

/-- R128: entry to RUNNING, with the STEP event of the running code. -/
def enterRunning (s : State) : State := postStep 0 8 0 (setSequencer .running s)

/-- Whether some feed-hold demand stands (R129). -/
def State.demandStands (s : State) : Bool := s.sequencer.demands.any (fun b => b)

/-- R128: FEED_WAIT completes at once when FEED is not in the role set or no demand stands; it has no step timer. -/
def enterFeedWait (s : State) : State :=
  let t := setSequencer .feedWait s
  if !t.cfg.roles.feed then enterRunning (postStep 9 1 0 t)
  else if !t.demandStands then enterRunning (postStep 9 0 0 t)
  else t

/-- R125: GATE_RETURNING. -/
def enterGateReturning (s : State) : State :=
  enterStep .gateReturning s.cfg.roles.abort s.cfg.tGate (s.level .gn) enterFeedWait s

/-- R126: FAN_STARTING. -/
def enterFanStarting (s : State) : State :=
  enterStep .fanStarting s.cfg.roles.fan (s.cfg.tSpinup * 1000) (decide (s.flow.status = .ok))
    enterGateReturning s

/-- R125: DAMPER_OPENING. -/
def enterDamperOpening (s : State) : State :=
  enterStep .damperOpening s.cfg.roles.damper (s.cfg.tDamper * 1000) (s.level .dmo) enterFanStarting s

/-- Sections 6.3 and 6.7: the step that follows a step, or the state that ends the sequence. -/
def nextStep : SeqState → State → State
  | .feedStopping => enterVenting
  | .venting => enterRunOn
  | .runOn => enterFanStopping
  | .fanStopping => enterDamperClosing
  | .damperClosing => enterHalted .shutdown
  | .damperOpening => enterFanStarting
  | .fanStarting => enterGateReturning
  | .gateReturning => enterFeedWait
  | .feedWait => enterRunning
  | .running => fun s => s
  | .halted => fun s => s

/-- R113: the milliseconds since the present step began, in 16 bits. -/
def State.stepElapsed (s : State) : Nat :=
  match s.sequencer.stepEntered with
  | none => 0
  | some t => sat16 (elapsed s.time t)

/-- R113, R116: the present step completes with a code (CONFIRMED or CUT_SHORT) and the sequence goes on. -/
def completeStep (code : Nat) (s : State) : State :=
  nextStep s.sequencer.state
    (postStep (stepNumber s.sequencer.state) code s.stepElapsed
      { s with sequencer := { s.sequencer with stepTimer := none } })

/-- R120: the step-fault flag changes, and the fault summary follows. -/
def setStepFault (b : Bool) (s : State) : State :=
  reportFault .stepFault b { s with sequencer := { s.sequencer with stepFault := b } }

/-- Section 6.3.2: the step's time limit in ms. -/
def stepLimit (c : ConfigSet) : SeqState → Nat
  | .feedStopping => c.tFeed * 1000
  | .venting => c.tGate
  | .runOn => c.runOn * 1000
  | .fanStopping => c.tRundown * 1000
  | .damperClosing => c.tDamper * 1000
  | .damperOpening => c.tDamper * 1000
  | .fanStarting => c.tSpinup * 1000
  | .gateReturning => c.tGate
  | .running => 0
  | .halted => 0
  | .feedWait => 0

/-- R114: the fault code of a step that ends without its confirmation: NO_CONFIRM for the two fan steps while the
flow status is LOST, TIMEOUT otherwise. -/
def stepFaultCode (st : SeqState) (flow : FlowStatus) : Nat :=
  if (st = .fanStopping ∨ st = .fanStarting) ∧ flow = .lost then 4 else 3

/-- R114, R126: the present step ends in fault: the flag is set, the STEP event posted, and the sequence goes on,
or, from FAN_STARTING, ends in HALTED with cause START_FAILED. -/
def faultStep (s : State) : State :=
  let st := s.sequencer.state
  let t := setStepFault true { s with sequencer := { s.sequencer with stepTimer := none } }
  let u := postStep (stepNumber st) (stepFaultCode st s.flow.status) (sat16 (stepLimit s.cfg st)) t
  if st = .fanStarting then enterHalted .startFailed u else nextStep st u

/-- R127: the shutdown step that undoes the furthest point a restart has reached. -/
def reversalStep : SeqState → State → State
  | .feedWait => enterVenting
  | .gateReturning => enterVenting
  | .fanStarting => enterFanStopping
  | .damperOpening => enterDamperClosing
  | _ => fun s => s

/-- R112, R116, R119, R127: a notice of the home zone's view. The shutdown-start record stands before the STEP record of an
entered step that completes or is skipped at its entry, an order that the manual leaves open (DESIGN CHOICE, log 8). -/
def sequencerNotice (view : Level) (s : State) : State :=
  if Level.le .halt view then
    if s.sequencer.state = .running then
      enterFeedStopping (postStep 0 5 (levelCode view)
        { s with sequencer := { s.sequencer with feedHold := false } })
    else if s.sequencer.state.restarting then
      reversalStep s.sequencer.state (postStep 0 5 (levelCode view)
        { s with sequencer := { s.sequencer with stepTimer := none } })
    else if s.sequencer.state = .runOn ∧ view = .fire then completeStep 2 s
    else s
  else s

/-- R113: the step that a confirming input confirms. -/
def inputConfirms : ConfirmInput → SeqState → Bool
  | .fsc, .feedStopping => true
  | .gv, .venting => true
  | .gn, .gateReturning => true
  | .dmc, .damperClosing => true
  | .dmo, .damperOpening => true
  | _, _ => false

/-- R113: a confirming input has become active; the step that waits on it completes. -/
def confirmByInput (i : ConfirmInput) (s : State) : State :=
  if inputConfirms i s.sequencer.state then completeStep 0 s else s

/-- R113, R117, R126: a report of the flow status; the step that waits on it completes. -/
def confirmByFlow (s : State) : State :=
  if (s.sequencer.state = .fanStopping ∧ s.flow.status = .lowFlow)
      ∨ (s.sequencer.state = .fanStarting ∧ s.flow.status = .ok) then
    completeStep 0 s
  else s

/-! ## Feed hold (R129) -/

/-- R129: the number of demands standing. -/
def State.demandCount (s : State) : Nat :=
  (if s.sequencer.demands.fst then 1 else 0) + (if s.sequencer.demands.snd then 1 else 0)

/-- R129: the FEED_HOLD flag and the FEED output follow the demands in RUNNING. -/
def setFeedHold (b : Bool) (s : State) : State :=
  { s with sequencer :=
      { s.sequencer with
        feedHold := b, outputs := seqOutputs s.cfg.roles s.sequencer.state b } }

/-- R129: a door's demand is placed. -/
def placeDemand (d : Fin 2) (s : State) : State :=
  let first := !s.demandStands
  let t := { s with sequencer := { s.sequencer with demands := s.sequencer.demands.set d true } }
  if first ∧ t.sequencer.state = .running ∧ t.cfg.roles.feed then
    postStep 0 9 t.demandCount (setFeedHold true t)
  else t

/-- R128, R129: a door's demand is withdrawn; the last withdrawal releases FEED or completes FEED_WAIT. -/
def withdrawDemand (d : Fin 2) (s : State) : State :=
  let stood := s.demandStands
  let t := { s with sequencer := { s.sequencer with demands := s.sequencer.demands.set d false } }
  if stood ∧ !t.demandStands then
    if t.sequencer.state = .running ∧ t.cfg.roles.feed then postStep 0 10 0 (setFeedHold false t)
    else if t.sequencer.state = .feedWait then completeStep 0 t
    else t
  else t

/-! ## Doors (section 7) -/

/-- R133: the states in which the holder is energized. -/
def holderLevel : DoorState → Bool
  | .held | .clearing | .armed => true
  | .off | .released | .closed | .jammed => false

/-- R143: the states in which a feed-hold door's demand stands. -/
def demandState : DoorState → Bool
  | .clearing | .released | .closed | .jammed | .armed => true
  | .held | .off => false

/-- Section 7.1: a zone of the door's set stands at FIRE. -/
def Door.fireStanding (d : Door) : Bool := d.views.any (fun e => decide (e.2 = .fire))

/-- A zone's last view in a list of views. -/
def setView (z : Nat) (v : Level) (views : List (Nat × Level)) : List (Nat × Level) :=
  views.map (fun e => if e.1 = z then (z, v) else e)

/-- Whether a list of views holds a zone. -/
def watches (z : Nat) (views : List (Nat × Level)) : Bool := views.any (fun e => decide (e.1 = z))

/-- R144: whether some door is in JAMMED. -/
def State.doorJammed (s : State) : Bool := s.doors.any (fun d => decide (d.state = .jammed))

/-- R143: the door's demand follows its state. -/
def syncDemand (d : Fin 2) (s : State) : State :=
  let door := s.doors.get d
  let standing := (s.cfg.doors.get d).feedHold && demandState door.state
  if standing = door.demand then s
  else
    let t := { s with doors := s.doors.set d { door with demand := standing } }
    if standing then placeDemand d t else withdrawDemand d t

/-- R133, R138, R144: entry to a door state: holder, deadlines, DOOR event, jam report and demand. The DOOR record stands
before the STEP record that the demand brings about at the sequencer (R128, R129), an order that the manual leaves open
(DESIGN CHOICE, log 8). -/
def setDoor (d : Fin 2) (st : DoorState) (cause : Nat) (s : State) : State :=
  let c := s.cfg.doors.get d
  let door :=
    { s.doors.get d with
      state := st
      holder := holderLevel st
      clearDeadline :=
        if st = .clearing ∧ c.tClear ≠ 0 then some (later s.time (c.tClear * 1000)) else none
      travelDeadline := if st = .released then some (later s.time (c.tTravel * 1000)) else none }
  let t := post .door d.val (doorCode st) cause 0 { s with doors := s.doors.set d door }
  syncDemand d (reportFault .doorJammed t.doorJammed t)

/-- R139: entry to CLOSED, and on to ARMED where no fire stands. -/
def closeDoor (d : Fin 2) (s : State) : State :=
  let t := setDoor d .closed 5 s
  if (t.doors.get d).fireStanding then t else setDoor d .armed 7 t

/-- R138: entry to RELEASED, and on to CLOSED where the closed switch is active. -/
def releaseDoor (d : Fin 2) (cause : Nat) (s : State) : State :=
  let t := setDoor d .released cause s
  if t.level (dcInput d) then closeDoor d t else t

/-- R136, R137: entry to CLEARING, and on to RELEASED where the opening is clear or t_clear is 0. -/
def clearDoor (d : Fin 2) (s : State) : State :=
  let t := setDoor d .clearing 1 s
  if t.level (ccInput d) then releaseDoor d 2 t
  else if (t.cfg.doors.get d).tClear = 0 then releaseDoor d 3 t
  else t

/-- R134, R136, R139: a notice of a zone's view at a door. -/
def doorNotice (z : Nat) (view : Level) (d : Fin 2) (s : State) : State :=
  let door := s.doors.get d
  if watches z door.views then
    let now := { door with views := setView z view door.views }
    let t := { s with doors := s.doors.set d now }
    if now.fireStanding then
      if now.state = .held then
        if (t.cfg.doors.get d).conveyor then clearDoor d t else releaseDoor d 1 t
      else if now.state = .armed then releaseDoor d 1 t
      else t
    else if now.state = .closed then setDoor d .armed 7 t
    else t
  else s

/-! ## Sirens (section 8) -/

/-- The highest view of a list of views. -/
def highestView (views : List (Nat × Level)) : Level :=
  views.foldl (fun m e => Level.max m e.2) .clear

/-- R147: the pattern a view calls for. -/
def patternOf : Level → Pattern
  | .fire => .steady
  | .halt => .pulse
  | .watch => .quiet
  | .clear => .quiet

/-- R147: the granted pattern: the highest demand of the set. -/
def Siren.granted (x : Siren) : Pattern := patternOf (highestView x.views)

/-- R148: a cycle of a pattern begins at an instant; QUIET has none. -/
def beginCycle (now : Instant) (p : Pattern) (x : Siren) : Siren :=
  match p with
  | .quiet =>
    { x with
      sounding := .quiet, output := false, phase := none, phaseDeadline := none, cycleDeadline := none,
      cycles := none }
  | .pulse =>
    { x with
      sounding := .pulse, output := true, phase := some .on, phaseDeadline := some (later now 1000),
      cycleDeadline := some (later now 2000) }
  | .steady =>
    { x with
      sounding := .steady, output := true, phase := none, phaseDeadline := none,
      cycleDeadline := some (later now 1000) }

/-- R148: the sounding pattern becomes another, with its cycles counted from 0. -/
def changePattern (now : Instant) (p : Pattern) (x : Siren) : Siren :=
  beginCycle now p { x with cycles := some 0 }

/-- R148, R149, R154: the sounding pattern changes, with its SIREN event. -/
def sound (i : Fin 2) (p : Pattern) (s : State) : State :=
  let x := s.sirens.sirens.get i
  post .siren i.val (patternCode p) (x.cycles.getD 0) 0
    { s with sirens := { s.sirens with sirens := s.sirens.sirens.set i (changePattern s.time p x) } }

/-- R149: a change of grant reaches the sounding pattern of a siren that is not silenced. -/
def takeGrant (i : Fin 2) (old new : Pattern) (s : State) : State :=
  let x := s.sirens.sirens.get i
  let quietRise := { s with sirens := { s.sirens with sirens := s.sirens.sirens.set i { x with pendingRise := false } } }
  match new with
  | .quiet => sound i .quiet quietRise
  | .pulse => if old = .steady ∧ x.pendingRise then quietRise else sound i .pulse s
  | .steady =>
    if old = .pulse ∧ (s.cfg.sirens.get i).mode = .hold then
      { s with sirens := { s.sirens with sirens := s.sirens.sirens.set i { x with pendingRise := true } } }
    else sound i .steady s

/-- R151, R152: a silence ends with a cause code. -/
def endSilence (i : Fin 2) (cause : Nat) (s : State) : State :=
  let x := s.sirens.sirens.get i
  post .siren i.val 4 cause 0
    { s with sirens :=
        { s.sirens with
          sirens := s.sirens.sirens.set i { x with silenced := none, resoundDeadline := none } } }

/-- R151: a silenced siren judges its silence at a notice. -/
def judgeSilence (i : Fin 2) (level : Level) (s : State) : State :=
  let x := s.sirens.sirens.get i
  let highest := highestView x.views
  if Level.lt level highest then sound i x.granted (endSilence i 0 s)
  else if x.granted = .quiet then endSilence i 1 s
  else if highest = .halt ∧ level = .fire then
    { s with sirens :=
        { s.sirens with sirens := s.sirens.sirens.set i { x with silenced := some .halt } } }
  else s

/-- R147: a notice of a zone's view at a siren. -/
def sirenNotice (z : Nat) (view : Level) (i : Fin 2) (s : State) : State :=
  let x := s.sirens.sirens.get i
  if watches z x.views then
    let y := { x with views := setView z view x.views }
    let t := { s with sirens := { s.sirens with sirens := s.sirens.sirens.set i y } }
    match x.silenced with
    | some level => judgeSilence i level t
    | none => if x.granted = y.granted then t else takeGrant i x.granted y.granted t
  else s

/-- R150: SIL silences a siren whose grant is not QUIET. -/
def silence (i : Fin 2) (s : State) : State :=
  let x := s.sirens.sirens.get i
  if x.granted = .quiet then s
  else
    let level := highestView x.views
    let y :=
      { beginCycle s.time .quiet x with
        pendingRise := false
        silenced := some level
        resoundDeadline := if s.cfg.resound = 0 then none else some (later s.time (s.cfg.resound * 60000)) }
    post .siren i.val 3 (levelCode level) 0
      { s with sirens := { s.sirens with sirens := s.sirens.sirens.set i y } }

end Sys2Proof.Machine
end

