-- ==== Sys2Proof/Machine/ZoneOps.lean ====
section
/-! DEFINITION. The zone unit's shared operations: the detection ring (R90 to R92), the own vote (R93 to R96), the
recount of a zone and its notices (R97 to R103), the restart of a zone (R104 to R106) and of the sequencer (R124). -/

namespace Sys2Proof.Machine

/-! ## The detection ring (R90 to R92) -/

/-- R91: an entry counts in the window W while now is before it plus W. -/
def countsNow (s : State) (t : Instant) : Bool := before s.time (later t (s.cfg.window * 1000))

/-- R91: an entry lies within the clear time while now is before it plus the clear time. -/
def withinClearTime (s : State) (t : Instant) : Bool := before s.time (later t (s.cfg.clearTime * 1000))

/-- R91: the age, in ms, at which an entry leaves the ring. -/
def ringLife (c : ConfigSet) : Nat := max (c.window * 1000) (c.clearTime * 1000)

/-- R91: the window count. -/
def windowCount (s : State) : Nat := (s.zones.ring.filter (countsNow s)).length

/-- R91, R92: the after-halt count. -/
def afterHaltCount (s : State) : Nat :=
  match s.zones.haltedAt with
  | none => 0
  | some h =>
    if s.zones.aged then windowCount s
    else (s.zones.ring.filter (fun t => countsNow s t && !before t h)).length

/-- R91: the clear-time test: whether some entry lies within the clear time. -/
def ringWithinClear (s : State) : Bool := s.zones.ring.any (withinClearTime s)

/-- R91: the next instant at which an entry stops counting or leaves the ring. -/
def nextRingDeadline (s : State) : Option Instant :=
  s.zones.ring.foldl
    (fun d t =>
      earliest d (some
        (if countsNow s t then later t (s.cfg.window * 1000) else later t (ringLife s.cfg))))
    none

/-- R91: the ring deadline is set to the next such instant. -/
def setRingDeadline (s : State) : State :=
  { s with zones := { s.zones with ringDeadline := nextRingDeadline s } }

/-- R91: the entries whose time in the ring has come leave it. -/
def dropOldEntries (s : State) : State :=
  { s with zones :=
      { s.zones with ring := s.zones.ring.filter (fun t => before s.time (later t (ringLife s.cfg))) } }

/-! ## The own vote (R93 to R96) -/

/-- R93: the FLAME condition. -/
def State.flame (s : State) : Bool := s.level .fh0 || s.level .fh1

/-- R94: the lines of the table, in order. -/
def voteLines (s : State) : List (Bool × Vote) :=
  let c := s.zones.conditions
  [ (s.flame, ⟨.fire, .flame⟩),
    (decide (s.cfg.nFire ≤ afterHaltCount s), ⟨.fire, .afterHalt⟩),
    (c.missed, ⟨.halt, .missed⟩),
    (c.noFlow, ⟨.halt, .noFlow⟩),
    (c.glow, ⟨.halt, .glow⟩),
    (decide (c.waterLow = .second), ⟨.halt, .waterLow⟩),
    (decide (s.cfg.nHalt ≤ windowCount s), ⟨.halt, .sparks⟩),
    (decide (1 ≤ windowCount s), ⟨.watch, .sparks⟩),
    (c.channelFault, ⟨.watch, .channelFault⟩),
    (c.flowLost, ⟨.watch, .flowLost⟩),
    (decide (c.waterLow = .first), ⟨.watch, .waterLow⟩),
    (c.originSilent, ⟨.watch, .originSilent⟩),
    (c.leak, ⟨.watch, .leak⟩),
    (c.lineDegraded, ⟨.watch, .lineDegraded⟩) ]

/-- R94: the momentary vote: the first line that applies, since the lines stand in falling order of level. -/
def momentaryVote (s : State) : Vote :=
  match (voteLines s).find? (fun l => l.1) with
  | none => Vote.none
  | some l => l.2

/-- R95: the own latched vote after a recount. -/
def latchVote (m : Vote) (latched : Option Vote) : Option Vote :=
  if Level.le .halt m.level then
    match latched with
    | none => some m
    | some l => if Level.lt l.level m.level then some m else some l
  else latched

/-- R95: the own vote. -/
def ownVoteOf (m : Vote) (latched : Option Vote) : Vote :=
  match latched with
  | none => m
  | some l => if Level.lt l.level m.level then m else l

/-- R95: the momentary, latched and own votes after a recount. -/
def recountVotes (s : State) : ZoneUnit :=
  let m := momentaryVote s
  let l := latchVote m s.zones.latched
  { s.zones with momentary := m, latched := l, own := ownVoteOf m l }

/-- R96: the VOTE event of a changed own vote. -/
def postVote (s : State) : State :=
  post .vote s.cfg.homeZone (levelCode s.zones.own.level) (reasonCode s.zones.own.reason)
    (flagOwnLatched (decide (s.zones.latched = some s.zones.own))) s

/-! ## Zones and views (R98 to R103) -/

/-- R98: the level with which a peer votes in a zone, if it counts there. -/
def peerVoter (z : Nat) (p : Peer) : Option Level :=
  match p.homeZone, p.vote with
  | some h, some v =>
    if h = z ∧ (p.state = .live ∨ (p.state = .silent ∧ Level.le .halt v.level)) then some v.level else none
  | _, _ => none

/-- R98: the levels of the voters of a zone. -/
def votersOf (s : State) (z : Nat) : List Level :=
  s.peers.toList.filterMap (peerVoter z) ++ (if z = s.cfg.homeZone then [s.zones.own.level] else [])

/-- R98: the number of voters at or above a level. -/
def votesAt (s : State) (z : Nat) (l : Level) : Nat := ((votersOf s z).filter (Level.le l)).length

/-- R98: the members of a zone. -/
def membersOf (s : State) (z : Nat) : Nat :=
  (s.peers.toList.filter (fun p => decide (p.state = .live) && decide (p.homeZone = some z))).length
    + (if z = s.cfg.homeZone then 1 else 0)

/-- R99: the effective quorum for a number of members. -/
def effectiveQuorum (s : State) (members : Nat) : Nat :=
  if s.zones.degraded then 1 else max 1 (min s.cfg.fireQuorum members)

/-- R100: the vote level. -/
def zoneVoteLevel (s : State) (z : Zone) (nWatch nHalt nFire quorum : Nat) : Level :=
  if quorum ≤ nFire ∨ (1 ≤ nFire ∧ z.confirmed) ∨ (z.zone = s.cfg.homeZone ∧ s.zones.own.level = .fire) then
    .fire
  else if 1 ≤ nHalt then .halt
  else if 1 ≤ nWatch then .watch
  else .clear

/-- R101: the confirm path advances at a recount. -/
def advanceConfirm (s : State) (nFire : Nat) (z : Zone) : Zone :=
  if nFire = 0 then { z with fireStart := none, fireDeadline := none, confirmed := false }
  else if z.fireStart.isNone ∧ s.cfg.confirmTime ≠ 0 then
    { z with
      fireStart := some s.time
      fireDeadline := some (later s.time (s.cfg.confirmTime * 1000))
      confirmed := false }
  else z

/-- R98 to R102: a zone record after its recount. -/
def recountRecord (s : State) (z : Zone) : Zone :=
  let nWatch := votesAt s z.zone .watch
  let nHalt := votesAt s z.zone .halt
  let nFire := votesAt s z.zone .fire
  let members := membersOf s z.zone
  let quorum := effectiveQuorum s members
  let level := zoneVoteLevel s z nWatch nHalt nFire quorum
  let view := Level.max level z.latched
  let latched := if Level.le .halt view && Level.lt z.latched view then view else z.latched
  advanceConfirm s nFire
    { z with
      nWatch := nWatch, nHalt := nHalt, nFire := nFire, members := members, quorum := quorum,
      voteLevel := level, latched := latched, view := view }

/-- The record of a zone in the zone table. -/
def State.zoneRecord (s : State) (z : Nat) : Option Zone := s.zones.zones.find? (fun r => decide (r.zone = z))

/-- Changes the record of a zone in the zone table. -/
def updateZone (z : Nat) (f : Zone → Zone) (s : State) : State :=
  { s with zones := { s.zones with zones := s.zones.zones.map (fun r => if r.zone = z then f r else r) } }

/-- R163: whether a change of the home zone's view asks for an evidence flush. -/
def asksFlush (old new : Level) : Bool :=
  (decide (new = .halt) && Level.lt old .halt) || (decide (new = .fire) && Level.lt old .fire)

/-- R103: a changed view is passed to its four readers, in the order log store, sequencer, doors, sirens
(DESIGN CHOICE, log 8). -/
def notifyView (z : Nat) (old new : Level) (s : State) : State :=
  let home := decide (z = s.cfg.homeZone)
  let s1 := if home && asksFlush old new then { s with log := (requestFlush s.log).1 } else s
  let s2 := if home then sequencerNotice new s1 else s1
  let s3 := doorNotice z new 1 (doorNotice z new 0 s2)
  sirenNotice z new 1 (sirenNotice z new 0 s3)

/-- R118: whether the sequencer has entered HALTED at the end of a shutdown. -/
def endedShutdown (s t : State) : Bool :=
  decide (s.sequencer.state ≠ .halted) && decide (t.sequencer.state = .halted)
    && decide (t.sequencer.haltedCause = some .shutdown)

/-- R102, R103: a zone is recounted; a change of its view is posted and passed on, and an entry to HALTED that the
notice brings about is then reported by `onHalt` (R92, R118). The manual does not say whether that report comes before
or after the doors and the sirens take the notice; here it comes after them (DESIGN CHOICE, log 8). -/
def recountZoneWith (onHalt : State → State) (z : Nat) (s : State) : State :=
  match s.zoneRecord z with
  | none => s
  | some old =>
    let new := recountRecord s old
    let t := updateZone z (fun _ => new) s
    if new.view = old.view then t
    else
      let u := post .zoneLevel z (levelCode new.view) (levelCode old.view)
        (flagLatchChanged (decide (new.latched ≠ old.latched))) t
      let v := notifyView z old.view new.view u
      if endedShutdown u v then onHalt v else v

/-- R94 to R96: the momentary vote is recounted; a changed own vote is handed to the line interface and posted, and
the home zone is recounted. -/
def recountOwnWith (onHalt : State → State) (s : State) : State :=
  let t := { s with zones := recountVotes s }
  if t.zones.own = s.zones.own then t
  else recountZoneWith onHalt t.cfg.homeZone (postVote (handVote t.zones.own t))

/-- R92, R118: the sequencer's entry to HALTED at the end of a shutdown sets halted_at, and the vote is recounted.
A notice that follows finds the sequencer in HALTED, so it ends no further shutdown. -/
def reportHalted (s : State) : State :=
  recountOwnWith (fun t => t)
    { s with zones := { s.zones with haltedAt := some s.time, aged := false } }

/-- R94 to R96: a recount of the momentary vote. -/
def recountOwn (s : State) : State := recountOwnWith reportHalted s

/-- R102: a recount of a zone. -/
def recountZone (z : Nat) (s : State) : State := recountZoneWith reportHalted z s

/-- A sequencer action, with the report to the zone unit where it ends a shutdown (R118). -/
def reportingHalt (f : State → State) (s : State) : State :=
  if endedShutdown s (f s) then reportHalted (f s) else f s

/-- R99: every tracked zone is recounted. The manual leaves their order open, which the ZONE_LEVEL records and the notices
to doors and sirens show (R103, R147, R157); here it is table order, the home zone first (DESIGN CHOICE, log 44). -/
def recountAllZones (s : State) : State :=
  (s.zones.zones.map Zone.zone).foldl (fun t z => recountZone z t) s

/-- R93: the conditions held by the zone unit change, and the momentary vote is recounted. Owners report nothing
before OPERATING. -/
def reportConditions (c : Conditions) (s : State) : State :=
  if s.operating && decide (c ≠ s.zones.conditions) then
    recountOwn { s with zones := { s.zones with conditions := c } }
  else s

/-- R90: an own detection joins the ring, whose oldest entry leaves where it holds sixteen. -/
def joinRing (t : Instant) (ring : List Instant) : List Instant :=
  if ring.length < 16 then ring ++ [t] else ring.drop 1 ++ [t]

/-- R90: a detection handed to the zone unit. -/
def ringDetection (s : State) : State :=
  recountOwn (setRingDeadline
    { s with zones := { s.zones with ring := joinRing s.time s.zones.ring } })

/-! ## Restarts (R104 to R106, R123, R124) -/

/-- R104, A.4: the code of the first eligibility fact that fails, 0 where none does. -/
def refusalFact (s : State) : Nat :=
  if s.sequencer.state ≠ .halted then 1
  else if Level.le .halt s.zones.momentary.level then 2
  else if ringWithinClear s then 3
  else 0

/-- R104: whether the node is restart-eligible. -/
def eligible (s : State) : Bool := decide (refusalFact s = 0)

/-- R124: the restart sequence begins, from HALTED. -/
def beginRestart (localRestart : Bool) (s : State) : State :=
  if s.sequencer.state = .halted then
    let t := setStepFault false s
    let u := recountOwn { t with zones := { t.zones with haltedAt := none, aged := false } }
    enterDamperOpening (postStep 0 7 (if localRestart then 1 else 0) u)
  else s

/-- R104, R106: a peer's stored vote becomes CLEAR with reason NONE where its home zone is the restart's. -/
def clearPeerVote (z : Nat) (p : Peer) : Peer :=
  if p.homeZone = some z then { p with vote := some Vote.none } else p

/-- Maps a function over the presence table. -/
def mapPeers (f : Peer → Peer) (v : Vector Peer 32) : Vector Peer 32 :=
  ⟨(v.toList.map f).toArray, by simp⟩

/-- R104, R106: the stored votes of a zone's stations become CLEAR. -/
def clearStoredVotes (z : Nat) (s : State) : State :=
  { s with peers := mapPeers (clearPeerVote z) s.peers }

/-- R104: an eligible node accepts a restart of the home zone. -/
def acceptRestart (source : Nat) (s : State) : State :=
  let home := s.cfg.homeZone
  let a := updateZone home (fun r => { r with latched := .clear }) s
  let b := clearStoredVotes home { a with zones := { a.zones with latched := none } }
  let c := { b with zones := recountVotes b }
  let d := handVote c.zones.own c
  let e := if c.zones.own = s.zones.own then d else postVote d
  beginRestart false (post .restartAccept home source 0 0 (recountZone home e))

/-- R105: a node that is not eligible refuses a restart of the home zone. -/
def refuseRestart (source : Nat) (s : State) : State :=
  let home := s.cfg.homeZone
  let latched := match s.zoneRecord home with
    | none => Level.clear
    | some r => r.latched
  post .restartRefuse home source (refusalFact s) 0
    (handVote ⟨Level.max latched s.zones.own.level, .restartRefused⟩ s)

/-- R106: a restart of another tracked zone. -/
def restartOther (z source : Nat) (s : State) : State :=
  let a := updateZone z (fun r => { r with latched := .clear }) s
  post .restartAccept z source 1 0 (recountZone z (clearStoredVotes z a))

/-- R104 to R106: a RESTART reaches the zone unit. -/
def takeRestart (z source : Nat) (s : State) : State :=
  if !s.operating then s
  else if z = s.cfg.homeZone then
    if eligible s then acceptRestart source s else refuseRestart source s
  else if (s.zoneRecord z).isSome then restartOther z source s
  else s

/-- R123: a restart request of the key sequence. -/
def requestRestart (s : State) : State :=
  let home := s.cfg.homeZone
  if !eligible s then post .restartRefuse home s.station (refusalFact s) 0 s
  else if Level.le .halt s.homeView then acceptRestart s.station (handRestart s)
  else beginRestart true (post .restartAccept home s.station 2 0 s)

end Sys2Proof.Machine
end

