-- ==== Sys2Proof/Machine/SprayOps.lean ====
section
/-! DEFINITION. The shared operations of the spray path: the valve sequencer's windows, openings, closings and miss
notices (section 3), and the transit predictor's taking of a detection (sections 2.3 and 2.4). -/

namespace Sys2Proof.Machine

/-! ## Windows and the schedule list (R43 to R47) -/

/-- R45: two windows are within the merge gap of each other. -/
def withinGap (gap : Nat) (x y : Window) : Bool :=
  !before (later y.closeAt gap) x.openAt && !before (later x.closeAt gap) y.openAt

/-- R45, R46: a listed window and the window that joins it become one; the listed window's first origin is kept
where both open at one instant. -/
def mergeWindows (listed w : Window) : Window :=
  { openAt := earlierOf listed.openAt w.openAt
    closeAt := laterOf listed.closeAt w.closeAt
    kind := if listed.kind = .flood ∨ w.kind = .flood then .flood else .predicted
    merged := min (listed.merged + w.merged) 255
    origin := if before w.openAt listed.openAt then w.origin else listed.origin
    substituted := listed.substituted || w.substituted
    begun := listed.begun || w.begun }

/-- R45: a window takes the place its open_at gives it. -/
def insertWindow (w : Window) (l : List Window) : List Window :=
  match l with
  | [] => [w]
  | x :: t => if before x.openAt w.openAt then x :: insertWindow w t else w :: x :: t

/-- R45, R46: the gap between two windows that are not within the merge gap. -/
def gapBetween (x w : Window) : Nat :=
  if before x.openAt w.openAt then (w.openAt - x.closeAt).toNat else (x.openAt - w.closeAt).toNat

/-- R46: the listed window nearest to W, the earlier of two at equal gaps. -/
def nearest (w : Window) (l : List Window) : Option Window :=
  l.foldl
    (fun best x =>
      match best with
      | none => some x
      | some b => if gapBetween x w < gapBetween b w then some x else some b)
    none

/-- R45, R46: a window W is added: the window that now holds its span, and the list that results. -/
def addToSchedule (gap : Nat) (w : Window) (l : List Window) : Window × List Window :=
  let near := l.filter (fun x => withinGap gap x w)
  let rest := l.filter (fun x => !withinGap gap x w)
  if near ≠ [] then
    let r := near.foldl (fun acc x => mergeWindows x acc) w
    (r, insertWindow r rest)
  else if l.length < 8 then (w, insertWindow w l)
  else
    match nearest w l with
    | none => (w, insertWindow w l)
    | some n =>
      let r := mergeWindows n w
      (r, insertWindow r (l.erase n))

/-! ## What the valve sequencer reports (R59) -/

/-- R59: whether some valve output is OPEN. -/
def State.someOpen (s : State) : Bool := s.valves.valves.any Valve.opened

/-- R59: the grade of WATER_LOW that the comparator and the outputs give. -/
def State.waterGrade (s : State) : WaterGrade :=
  if s.valves.comparator = some .low then (if s.someOpen then .second else .first) else .off

/-- R59: the conditions of the valve sequencer as they now stand, beside those of the other blocks. -/
def State.valveConditions (s : State) : Conditions :=
  { s.zones.conditions with
    noFlow := s.valves.valves.any Valve.noFlow
    leak := s.valves.valves.any Valve.leak
    missed := s.valves.valves.any (fun v => v.missHold.isSome)
    waterLow := s.waterGrade }

/-- R59: the valve sequencer reports its conditions to the zone unit, and NO_FLOW and LEAK to the fault summary. The zone
unit takes them first, an order that the manual leaves open (DESIGN CHOICE, log 8). -/
def reportValves (s : State) : State :=
  let t := reportConditions s.valveConditions s
  reportFault .leak (t.valves.valves.any Valve.leak)
    (reportFault .noFlow (t.valves.valves.any Valve.noFlow) t)

/-- Changes one valve record. -/
def setValve (v : Fin 2) (x : Valve) (s : State) : State :=
  { s with valves := { s.valves with valves := s.valves.valves.set v x } }

/-- R60: the flags of a window's event. -/
def windowFlags (w : Window) : Nat := flagFlood (decide (w.kind = .flood)) + flagSubstituted w.substituted

/-! ## Opening, closing and misses (R47 to R53) -/

/-- R48, R53: the head window of a valve begins: the output opens, flow confirmation starts and the leak deadline is
discarded. -/
def beginHead (v : Fin 2) (s : State) : State :=
  let x := s.valves.valves.get v
  match x.windows with
  | [] => s
  | w :: rest =>
    let b := { w with begun := true }
    if x.opened then setValve v { x with windows := b :: rest } s
    else
      let t := setValve v
        { x with
          windows := b :: rest
          opened := true
          openedAt := some s.time
          flowConfirm :=
            if s.level (fsInput v) then none
            else some (later s.time (s.cfg.valves.get v).flowConfirm)
          leakDeadline := none } s
      reportValves
        (post .windowOpen v.val w.origin (sat16 (elapsed w.closeAt s.time)) (windowFlags w) t)

/-- R45 to R47: the transit predictor hands over a window for a valve. -/
def addWindow (v : Fin 2) (w : Window) (s : State) : State :=
  let x := s.valves.valves.get v
  let r := addToSchedule s.cfg.mergeGap w x.windows
  let t := setValve v { x with windows := r.2 } s
  if !r.1.begun && !before s.time r.1.openAt then beginHead v t else t

/-- R56: the leak deadline that starts when FS is active with the output CLOSED and LEAK clear. -/
def leakStart (v : Fin 2) (s : State) : Option Instant := some (later s.time (s.cfg.valves.get v).flowConfirm)

/-- R49: the head window of a valve ends: it leaves the list and the output closes. -/
def closeHead (v : Fin 2) (s : State) : State :=
  let x := s.valves.valves.get v
  match x.windows with
  | [] => s
  | w :: rest =>
    let ran := match x.openedAt with
      | none => 0
      | some t => sat16 (elapsed s.time t)
    let t := setValve v
      { x with windows := rest, opened := false, openedAt := none, flowConfirm := none } s
    let u := post .windowClose v.val w.merged ran (windowFlags w + flagNoFlow x.noFlow) t
    let y := u.valves.valves.get v
    reportValves
      (if u.level (fsInput v) && !y.leak then setValve v { y with leakDeadline := leakStart v u } u else u)

/-- R51: a miss notice for a valve. -/
def missNotice (v : Fin 2) (origin : Nat) (closeAt : Instant) (substituted : Bool) (s : State) : State :=
  let t := post .windowMissed v.val origin (sat16 (elapsed s.time closeAt)) (flagSubstituted substituted) s
  let x := t.valves.valves.get v
  reportValves
    (setValve v { x with missHold := some (later t.time (t.cfg.valves.get v).sprayHold) } t)

/-! ## Prediction (R33 to R39) -/

/-- R34: the chosen velocity and status of an entry, and whether they are substituted. -/
def chooseVelocity (s : State) (e : WatchEntry) : Nat × FlowStatus × Bool :=
  let own := (s.flow.velocity, s.flow.status)
  if e.source = 0 then (own.1, own.2, false)
  else if h : e.source < 32 then
    let p := s.peers[e.source]
    match p.state, p.velocity, p.flow with
    | .live, some v, some f => if f = .hold then (own.1, own.2, true) else (min v 600, f, false)
    | _, _, _ => (own.1, own.2, true)
  else (own.1, own.2, true)

/-- R36: the transit time in ms. -/
def transitTime (length velocity : Nat) : Nat := length * 1000 / velocity

/-- R36: the early bound, rounded down. -/
def earlyBound (transit u : Nat) : Nat := transit * (100 - u) / 100

/-- R36: the late bound, rounded up. -/
def lateBound (transit u : Nat) : Nat := (transit * (100 + u) + 99) / 100

/-- R37: the open instant of a predicted window. -/
def openInstant (first : Instant) (early lead : Nat) : Instant :=
  first + BitVec.ofNat 32 early - BitVec.ofNat 32 lead

/-- R37: the close instant of a predicted window. -/
def closeInstant (last : Instant) (late hold : Nat) : Instant :=
  last + BitVec.ofNat 32 late + BitVec.ofNat 32 hold

/-- R33 to R38: the prediction of one matching entry for one valve of its set. -/
def predict (station : Nat) (first last : Instant) (e : WatchEntry) (v : Fin 2) (s : State) : State :=
  let k := s.cfg.valves.get v
  let (velocity, status, substituted) := chooseVelocity s e
  if status = .lowFlow ∨ status = .lost ∨ velocity < s.cfg.vMin then
    addWindow v
      { openAt := s.time, closeAt := later s.time (k.floodTime * 1000), kind := .flood, merged := 1,
        origin := station, substituted := substituted, begun := false } s
  else
    let transit := transitTime e.length velocity
    let openAt := openInstant first (earlyBound transit s.cfg.uncertainty) k.lead
    let closeAt := closeInstant last (lateBound transit s.cfg.uncertainty) k.sprayHold
    if !before s.time closeAt then missNotice v station closeAt substituted s
    else
      addWindow v
        { openAt := if before s.time openAt then openAt else s.time, closeAt := closeAt,
          kind := .predicted, merged := 1, origin := station, substituted := substituted, begun := false } s

/-- R33: an entry matches a detection of a channel at a station. -/
def WatchEntry.matches (e : WatchEntry) (station channel : Nat) : Bool :=
  decide (e.origin = station) && decide (channel < 4) && e.channels.getLsbD channel

/-- R33: the predictions of one entry, one for each valve of its set, V0's first: the manual leaves their order open
(DESIGN CHOICE, log 8). -/
def predictEntry (station channel : Nat) (first last : Instant) (e : WatchEntry) (s : State) : State :=
  if e.matches station channel then
    let t := if e.valves.getLsbD 0 then predict station first last e 0 s else s
    if e.valves.getLsbD 1 then predict station first last e 1 t else t
  else s

/-- R32, R33: the predictor takes a detection: every matching entry of the watch list. The manual leaves the order of two
entries' predictions open; the model takes them in list order (DESIGN CHOICE, log 8). -/
def takeDetection (station channel : Nat) (first last : Instant) (s : State) : State :=
  s.watch.foldl (fun t e => predictEntry station channel first last e t) s

/-! ## Silent origins (R40, R41) -/

/-- R40: the ORIGIN_SILENT condition as the watch list gives it. -/
def State.originSilent (s : State) : Bool := s.watch.any WatchEntry.silent

/-- R40: the peer table reports that a station has entered SILENT, or has become LIVE from it. -/
def markOrigin (station : Nat) (silent : Bool) (s : State) : State :=
  let marked := s.watch.map (fun e => if e.origin = station then { e with silent := silent } else e)
  let t := { s with watch := marked }
  reportConditions { t.zones.conditions with originSilent := t.originSilent } t

end Sys2Proof.Machine
end

