-- ==== Sys2Proof/Machine/Extinguishing.lean ====
section
/-! DEFINITION. The valve sequencer (section 3): the expiries of windows and valves, WATER_SAMPLE and FS_CHANGE. -/

namespace Sys2Proof.Machine

/-! ## Expiries of windows -/

/-- R48: whether the open expiry of the head window is due. -/
def openDue (v : Fin 2) (s : State) : Bool :=
  match (s.valves.valves.get v).windows with
  | [] => false
  | w :: _ => !w.begun && due s.time (some w.openAt)

/-- R49: whether the close expiry of the head window is due. -/
def closeDue (v : Fin 2) (s : State) : Bool :=
  match (s.valves.valves.get v).windows with
  | [] => false
  | w :: _ => w.begun && due s.time (some w.closeAt)

/-! ## Flow confirmation, leaks and misses (R52 to R57) -/

/-- R52: a valve's miss hold deadline has expired. -/
def expireMissHold (v : Fin 2) (s : State) : State :=
  reportValves (setValve v { s.valves.valves.get v with missHold := none } s)

/-- R60: a VALVE event: the code of the change and the level of FS. -/
def postValve (v : Fin 2) (code : Nat) (s : State) : State :=
  post .valve v.val code (if s.level (fsInput v) then 1 else 0) 0 s

/-- R54: a valve's flow-confirm deadline has expired with the output OPEN. -/
def expireFlowConfirm (v : Fin 2) (s : State) : State :=
  let x := s.valves.valves.get v
  let t := setValve v { x with flowConfirm := none, noFlow := x.opened || x.noFlow } s
  if x.opened && !x.noFlow then reportValves (postValve v 0 t) else t

/-- R57: a valve's leak deadline has expired. -/
def expireLeak (v : Fin 2) (s : State) : State :=
  let x := s.valves.valves.get v
  let t := setValve v { x with leakDeadline := none, leak := true } s
  if x.leak then t else reportValves (postValve v 2 t)

/-- R53, R55, R56: FS has become active. -/
def flowSeen (v : Fin 2) (s : State) : State :=
  let x := s.valves.valves.get v
  let t := setValve v
    { x with
      flowConfirm := none
      noFlow := false
      leakDeadline := if !x.opened && !x.leak then leakStart v s else x.leakDeadline } s
  if x.noFlow then reportValves (postValve v 1 t) else t

/-- R57: FS has gone inactive. -/
def flowGone (v : Fin 2) (s : State) : State :=
  let x := s.valves.valves.get v
  let t := setValve v { x with leakDeadline := none, leak := false } s
  if x.leak then reportValves (postValve v 3 t) else t

/-- R53 to R57: the debounced level of a flow switch has changed. -/
def flowSwitch (v : Fin 2) (active : Bool) (s : State) : State :=
  if active then flowSeen v s else flowGone v s

/-! ## The comparator (R58) -/

/-- R58: the comparator after a sample. -/
def compareWater (trip hysteresis p : Nat) (c : Comparator) : Comparator :=
  match c with
  | .normal => if p < trip then .low else .normal
  | .low => if trip + hysteresis ≤ p then .normal else .low

/-- R58: a water sample at the comparator, which has a state from the hand-over. -/
def takeWater (p : Nat) (s : State) : State :=
  match s.valves.comparator with
  | none => s
  | some c =>
    let d := compareWater s.cfg.waterTrip s.cfg.waterHysteresis p c
    let t := { s with valves := { s.valves with comparator := some d, lastWater := some p } }
    if d = c then t else reportValves (post .water 0 (comparatorCode d) p 0 t)

/-! ## Meanings -/

/-- OPEN_EXPIRY (R48). -/
def execOpenExpiry (v : Fin 2) (s : State) : Host.Outcome State Fault Refusal :=
  .next (if s.operating && openDue v s then beginHead v s else s)

/-- CLOSE_EXPIRY (R49). -/
def execCloseExpiry (v : Fin 2) (s : State) : Host.Outcome State Fault Refusal :=
  .next (if closeDue v s then closeHead v s else s)

/-- MISS_HOLD_EXPIRY (R52). -/
def execMissHoldExpiry (v : Fin 2) (s : State) : Host.Outcome State Fault Refusal :=
  .next (if due s.time (s.valves.valves.get v).missHold then expireMissHold v s else s)

/-- FLOW_CONFIRM_EXPIRY (R54). -/
def execFlowConfirmExpiry (v : Fin 2) (s : State) : Host.Outcome State Fault Refusal :=
  .next (if due s.time (s.valves.valves.get v).flowConfirm then expireFlowConfirm v s else s)

/-- LEAK_DEADLINE_EXPIRY (R57). -/
def execLeakDeadlineExpiry (v : Fin 2) (s : State) : Host.Outcome State Fault Refusal :=
  .next (if due s.time (s.valves.valves.get v).leakDeadline then expireLeak v s else s)

/-- WATER_SAMPLE (R58). No sample is taken before the hand-over. -/
def execWaterSample (p : BitVec 10) (s : State) : Host.Outcome State Fault Refusal :=
  .next (if s.handedOver then takeWater p.toNat s else s)

end Sys2Proof.Machine
end

