-- ==== Sys2Proof/Machine/Extraction.lean ====
section
/-! DEFINITION. The extraction sequencer's own arrivals (section 6): the key sequence, the confirming inputs and the
two deadlines. The steps themselves stand in `PlantOps`. -/

namespace Sys2Proof.Machine

/-! ## The key sequence (R121 to R123) -/

/-- Changes the key state and the unlock deadline. -/
def setKey (k : KeyState) (deadline : Option Instant) (s : State) : State :=
  { s with sequencer := { s.sequencer with key := k, unlockDeadline := deadline } }

/-- R121: the debounced level of K1 has changed. -/
def keyTurn (active : Bool) (s : State) : State :=
  match s.sequencer.key, active with
  | .idle, true => setKey .keyTurned (some (later s.time (s.cfg.unlockTime * 1000))) s
  | .keyTurned, false => setKey .idle none s
  | .spent, false => setKey .idle none s
  | .idle, false => s
  | .keyTurned, true => s
  | .spent, true => s

/-- R121, R123: K2 has become active: a restart request where the key is turned. -/
def keyPress (s : State) : State :=
  if s.sequencer.key = .keyTurned then requestRestart (setKey .spent none s) else s

/-- R121: whether the unlock deadline is due in KEY_TURNED. -/
def unlockDue (s : State) : Bool :=
  due s.time s.sequencer.unlockDeadline && decide (s.sequencer.key = .keyTurned)

/-! ## The step timer (R114, R116, R126) -/

/-- R116: the expiry of RUN_ON completes it with the run-on time. -/
def endRunOn (s : State) : State :=
  enterFanStopping
    (postStep 3 0 (sat16 (s.cfg.runOn * 1000))
      { s with sequencer := { s.sequencer with stepTimer := none } })

/-- R114, R116, R126: the step timer has expired. -/
def expireStep (s : State) : State :=
  if s.sequencer.state = .runOn then endRunOn s else faultStep s

/-! ## Meanings -/

/-- UNLOCK_DEADLINE_EXPIRY (R121). -/
def execUnlockDeadlineExpiry (s : State) : Host.Outcome State Fault Refusal :=
  .next (if unlockDue s then setKey .spent none s else s)

/-- STEP_TIMER_EXPIRY (R114, R116, R118, R126). -/
def execStepTimerExpiry (s : State) : Host.Outcome State Fault Refusal :=
  .next (if s.operating && due s.time s.sequencer.stepTimer then reportingHalt expireStep s else s)

end Sys2Proof.Machine
end

