-- ==== Sys2Proof/Machine/FireDoors.lean ====
section
/-! DEFINITION. The door unit's own arrivals (section 7): the closed switches, the conveyor-clear inputs and the two
deadlines. The door states themselves stand in `PlantOps`. -/

namespace Sys2Proof.Machine

/-- R137 to R142: the debounced level of a door's closed switch has changed. -/
def closedSwitch (d : Fin 2) (active : Bool) (s : State) : State :=
  match (s.doors.get d).state, active with
  | .held, true => setDoor d .armed 5 s
  | .clearing, true => closeDoor d s
  | .released, true => closeDoor d s
  | .jammed, true => closeDoor d s
  | .closed, false => releaseDoor d 9 s
  | .armed, false => setDoor d .held 8 s
  | .off, true => s
  | .closed, true => s
  | .armed, true => s
  | .off, false => s
  | .held, false => s
  | .clearing, false => s
  | .released, false => s
  | .jammed, false => s

/-- R137: the debounced level of a door's conveyor-clear input has changed. -/
def conveyorClear (d : Fin 2) (active : Bool) (s : State) : State :=
  if active ∧ (s.doors.get d).state = .clearing then releaseDoor d 2 s else s

/-- R137: the clear deadline of a door has expired in CLEARING. -/
def expireClear (d : Fin 2) (s : State) : State :=
  releaseDoor d 4 (post .clearTimeout d.val ((s.cfg.doors.get d).tClear * 1000) 0 0 s)

/-! ## Meanings -/

/-- CLEAR_DEADLINE_EXPIRY (R137). -/
def execClearDeadlineExpiry (d : Fin 2) (s : State) : Host.Outcome State Fault Refusal :=
  .next
    (if s.operating && due s.time (s.doors.get d).clearDeadline && decide ((s.doors.get d).state = .clearing) then
      expireClear d s
    else s)

/-- TRAVEL_DEADLINE_EXPIRY (R138, R140). -/
def execTravelDeadlineExpiry (d : Fin 2) (s : State) : Host.Outcome State Fault Refusal :=
  .next
    (if s.operating && due s.time (s.doors.get d).travelDeadline && decide ((s.doors.get d).state = .released) then
      setDoor d .jammed 6 s
    else s)

end Sys2Proof.Machine
end

