-- ==== Sys2Proof/Machine/YardSirens.lean ====
section
/-! DEFINITION. The siren unit's own arrivals (section 8): SIL and the three deadlines of a siren. Patterns, grants
and silence stand in `PlantOps`. -/

namespace Sys2Proof.Machine

/-- Changes one siren record. -/
def setSiren (i : Fin 2) (x : Siren) (s : State) : State :=
  { s with sirens := { s.sirens with sirens := s.sirens.sirens.set i x } }

/-- R150: SIL has become active: each configured siren whose grant is not QUIET is silenced, siren 0 before siren 1
(DESIGN CHOICE, log 8). -/
def silenceAll (s : State) : State := silence 1 (silence 0 s)

/-- R148: the phase deadline of a PULSE cycle has expired. -/
def expirePhase (i : Fin 2) (s : State) : State :=
  setSiren i { s.sirens.sirens.get i with output := false, phase := some .off, phaseDeadline := none } s

/-- R148, R149: a cycle ends: a pending rise is taken, or the next cycle of the same pattern begins. -/
def expireCycle (i : Fin 2) (s : State) : State :=
  let x := s.sirens.sirens.get i
  let y := { x with cycles := some (min (x.cycles.getD 0 + 1) 65535) }
  if x.pendingRise then sound i .steady (setSiren i { y with pendingRise := false } s)
  else setSiren i (beginCycle s.time x.sounding y) s

/-- R152: the silence of a siren ends by resound. The event of its end stands before that of the pattern that then sounds
(DESIGN CHOICE, log 8). -/
def resoundSiren (i : Fin 2) (s : State) : State :=
  sound i (s.sirens.sirens.get i).granted (endSilence i 2 s)

/-! ## Meanings -/

/-- PHASE_DEADLINE_EXPIRY (R148). -/
def execPhaseDeadlineExpiry (i : Fin 2) (s : State) : Host.Outcome State Fault Refusal :=
  .next (if s.operating && due s.time (s.sirens.sirens.get i).phaseDeadline then expirePhase i s else s)

/-- CYCLE_DEADLINE_EXPIRY (R148, R149). -/
def execCycleDeadlineExpiry (i : Fin 2) (s : State) : Host.Outcome State Fault Refusal :=
  .next (if s.operating && due s.time (s.sirens.sirens.get i).cycleDeadline then expireCycle i s else s)

/-- RESOUND_DEADLINE_EXPIRY (R152). -/
def execResoundDeadlineExpiry (i : Fin 2) (s : State) : Host.Outcome State Fault Refusal :=
  .next (if s.operating && due s.time (s.sirens.sirens.get i).resoundDeadline then resoundSiren i s else s)

end Sys2Proof.Machine
end

