-- ==== Sys2Proof/Machine/Contacts.lean ====
section
/-! DEFINITION. The contact inputs (R2): RAW_INPUT_CHANGE, and the changes of debounced levels at the blocks that read
them. -/

namespace Sys2Proof.Machine

/-! ## A change of debounced level at its block -/

/-- R113, R118: a confirming input has changed. -/
def confirmChange (i : ConfirmInput) (active : Bool) (s : State) : State :=
  if active then reportingHalt (confirmByInput i) s else s

/-- What the block that reads an input does with a change of its debounced level, in operation. -/
def contactAction (i : Input) (active : Bool) (s : State) : State :=
  match i with
  | .fh0 | .fh1 => recountOwn s
  | .fs0 => flowSwitch 0 active s
  | .fs1 => flowSwitch 1 active s
  | .k1 => keyTurn active s
  | .k2 => if active then keyPress s else s
  | .sil => if active then silenceAll s else s
  | .fsc => confirmChange .fsc active s
  | .gv => confirmChange .gv active s
  | .gn => confirmChange .gn active s
  | .dmc => confirmChange .dmc active s
  | .dmo => confirmChange .dmo active s
  | .dc0 => closedSwitch 0 active s
  | .dc1 => closedSwitch 1 active s
  | .cc0 => conveyorClear 0 active s
  | .cc1 => conveyorClear 1 active s

/-- R63: only the flow switches are read before OPERATING (R63, R109, R121, R131, R145, R157). -/
def readBeforeOperating : Input → Bool
  | .fs0 => true
  | .fs1 => true
  | .fh0 | .fh1 | .k1 | .k2 | .sil | .fsc | .gv | .gn | .dmc | .dmo | .dc0 | .dc1 | .cc0 | .cc1 => false

/-- R2: the debounced level of an input becomes `active`, and the change arrives at the block that reads it. -/
def contactChange (i : Input) (active : Bool) (s : State) : State :=
  let t := setLevel i active s
  if t.operating || readBeforeOperating i then contactAction i active t else t

/-- R2, R177: a change of debounced level arrives, from the hand-over; one to the level that stands is none
(log 6). -/
def takeContact (i : Input) (active : Bool) (s : State) : State :=
  if s.handedOver && (s.level i != active) then contactChange i active s else s

/-! ## Raw levels and debouncing (R2, R185) -/

/-- The raw level of an input becomes `active`; for K1, the 20 ms of R185 begin anew. -/
def setRaw (i : Input) (active : Bool) (s : State) : State :=
  { s with inputs :=
      { s.inputs with
        raw := s.inputs.raw.set (inputIndex i) active
        k1Hold := s.holdAfter i active } }

/-- R2: the debounce period of an input begins, or is over where the raw level is back at the debounced one. -/
def startDebounce (i : Input) (active : Bool) (s : State) : State :=
  { s with inputs :=
      { s.inputs with
        deadline := s.inputs.deadline.set (inputIndex i)
          (if s.level i = active then none else some (later s.time s.cfg.debounce)) } }

/-- R2: a change of raw level. -/
def rawChange (i : Input) (active : Bool) (s : State) : State :=
  let t := setRaw i active s
  if !t.handedOver then t
  else if t.cfg.debounce = 0 then takeContact i active t
  else startDebounce i active t

/-! ## Meanings -/

/-- RAW_INPUT_CHANGE (R2). A raw level that stands already is no change. -/
def execRawInputChange (i : Input) (active : Bool) (s : State) : Host.Outcome State Fault Refusal :=
  .next (if s.rawLevel i = active then s else rawChange i active s)

/-- FS_CHANGE (R53, R55 to R57). -/
def execFsChange (v : Fin 2) (active : Bool) (s : State) : Host.Outcome State Fault Refusal :=
  .next (takeContact (fsInput v) active s)

/-- FH_CHANGE (R93). -/
def execFhChange (i : Fin 2) (active : Bool) (s : State) : Host.Outcome State Fault Refusal :=
  .next (takeContact (fhInput i) active s)

/-- CONFIRM_INPUT_CHANGE (R113). -/
def execConfirmInputChange (i : ConfirmInput) (active : Bool) (s : State) : Host.Outcome State Fault Refusal :=
  .next (takeContact (confirmInput i) active s)

/-- K1_CHANGE (R121). -/
def execK1Change (active : Bool) (s : State) : Host.Outcome State Fault Refusal :=
  .next (takeContact .k1 active s)

/-- K2_PRESS (R121 to R123). -/
def execK2Press (s : State) : Host.Outcome State Fault Refusal := .next (takeContact .k2 true s)

/-- K2_RELEASE (R121). -/
def execK2Release (s : State) : Host.Outcome State Fault Refusal := .next (takeContact .k2 false s)

/-- DC_CHANGE (R137 to R142). -/
def execDcChange (d : Fin 2) (active : Bool) (s : State) : Host.Outcome State Fault Refusal :=
  .next (takeContact (dcInput d) active s)

/-- CC_CHANGE (R137). -/
def execCcChange (d : Fin 2) (active : Bool) (s : State) : Host.Outcome State Fault Refusal :=
  .next (takeContact (ccInput d) active s)

/-- SIL_CHANGE (R150). -/
def execSilChange (active : Bool) (s : State) : Host.Outcome State Fault Refusal :=
  .next (takeContact .sil active s)

end Sys2Proof.Machine
end

