-- ==== Sys2Proof/Machine/DuctFlow.lean ====
section
/-! DEFINITION. The flow unit (section 2.1): PRESSURE_SAMPLE and HOLD_DEADLINE_EXPIRY. -/

namespace Sys2Proof.Machine

/-! ## Average and velocity (R24, R25) -/

/-- One bit of the integer square root: the bit is kept where the square does not pass `n`. -/
def isqrtBit (n r bit : Nat) : Nat := if (r + bit) * (r + bit) ≤ n then r + bit else r

/-- Introduction, section 6.2: the floor of the square root, for a number below 2^20. -/
def isqrt (n : Nat) : Nat := [512, 256, 128, 64, 32, 16, 8, 4, 2, 1].foldl (isqrtBit n) 0

/-- R24: the average of a history; absent where the history is empty. -/
def average (history : List Nat) : Option Nat :=
  if history = [] then none else some (history.foldl (· + ·) 0 / history.length)

/-- R24: a good count joins the history, which holds at most eight. -/
def joinHistory (c : Nat) (history : List Nat) : List Nat :=
  if history.length < 8 then history ++ [c] else history.drop 1 ++ [c]

/-- R25: the velocity of an average, clamped to 600 dm/s. -/
def velocityOf (kv avg : Nat) : Nat := min 600 (kv * isqrt (8 * avg) / 64)

/-- R24, R25, R28: a good sample at the flow record. -/
def goodSample (cfg : ConfigSet) (c : Nat) (f : Flow) : Flow :=
  let history := joinHistory c (if f.status = .lost then [] else f.history)
  let v := velocityOf cfg.kv ((average history).getD 0)
  { history := history, velocity := v, status := if cfg.vMin ≤ v then .ok else .lowFlow,
    holdDeadline := none }

/-- R26: a bad sample at the flow record. -/
def badSample (now : Instant) (f : Flow) : Flow :=
  if f.status = .ok ∨ f.status = .lowFlow then
    { f with status := .hold, holdDeadline := some (later now 5000) }
  else f

/-! ## What the flow unit hands on (R29, R30) -/

/-- R29: a change of status is reported to the zone unit, then to the siren unit's fault summary, then to the extraction
sequencer; the manual leaves this order open (DESIGN CHOICE, log 8). -/
def reportFlow (s : State) : State :=
  let lost := decide (s.flow.status = .lost)
  let t := reportConditions { s.zones.conditions with flowLost := lost } s
  let u := reportFault .flowLost lost t
  if u.operating then reportingHalt confirmByFlow u else u

/-- R29: the flow record changes, and a change of status is handed on. -/
def setFlow (f : Flow) (s : State) : State :=
  let t := { s with flow := f }
  if f.status = s.flow.status then t else reportFlow t

/-- R23: a bad sample: the saturated count, or a sensor fault. -/
def badPressure (count : BitVec 12) (sensorFault : Bool) : Bool :=
  sensorFault || decide (count.toNat = 4095)

/-- R27: whether the hold deadline is due in HOLD. -/
def holdDue (s : State) : Bool := due s.time s.flow.holdDeadline && decide (s.flow.status = .hold)

/-! ## Meanings -/

/-- PRESSURE_SAMPLE (R23 to R28). No sample is taken before the hand-over. -/
def execPressureSample (count : BitVec 12) (sensorFault : Bool) (s : State) :
    Host.Outcome State Fault Refusal :=
  .next
    (if s.handedOver then
      setFlow (if badPressure count sensorFault then badSample s.time s.flow
        else goodSample s.cfg count.toNat s.flow) s
    else s)

/-- HOLD_DEADLINE_EXPIRY (R27). -/
def execHoldDeadlineExpiry (s : State) : Host.Outcome State Fault Refusal :=
  .next (if holdDue s then setFlow { s.flow with status := .lost, holdDeadline := none } s else s)

end Sys2Proof.Machine
end

