-- ==== Sys2Proof/WellFormed.lean ====
section
/-! DEFINITION. Which commands are well formed: those whose operands lie in the ranges the manual gives the
arrival. The meanings are total on the others too; what they answer there is in the log. -/

namespace Sys2Proof

/-- R67: the source of a valid frame lies between 1 and 31. -/
def validSource (source : Byte) : Bool :=
  decide (1 ≤ source.toNat) && decide (source.toNat ≤ 31)

/-- The operands lie in the ranges the manual gives the arrival. -/
def WellFormed : Instr → Bool
  | .detectReceived source _ _ _ _ _ => validSource source
  | .voteReceived source _ _ _ => validSource source
  | .presenceReceived source _ _ _ _ _ _ => validSource source
  | .restartReceived source _ => validSource source
  | .collision read => decide (1 ≤ read.position) && decide (read.position ≤ 13)
  | .silenceDeadlineExpiry station => decide (station ≠ 0)
  | .firePendingExpiry zone => decide (1 ≤ zone) && decide (zone ≤ 15)
  | .serviceAreaWrite bytes => !bytes.isEmpty
  | .resetBegin _ | .resettingEnd _ _ | .imageReadEnd | .memoryAnswerTimeout | .outputReadback _ _
  | .echoDeadlineExpiry | .logScanComplete | .rawInputChange _ _ | .sample _ _ | .glowDeadlineExpiry _
  | .pressureSample _ _ | .holdDeadlineExpiry | .openExpiry _ | .closeExpiry _ | .missHoldExpiry _
  | .flowConfirmExpiry _ | .leakDeadlineExpiry _ | .waterSample _ | .fsChange _ _ | .fhChange _ _
  | .confirmInputChange _ _ | .k1Change _ | .k2Press | .unlockDeadlineExpiry | .dcChange _ _ | .ccChange _ _
  | .silChange _ | .frameError | .byteError | .frameBrokenOff | .ownEcho | .duplicateStationFrame _
  | .gapExpiry | .frameDriveStart | .foreignStartBit _ | .stuckWatchExpiry | .stuckExit
  | .degradedDeadlineExpiry | .presenceDeadlineExpiry | .ringDeadlineExpiry | .haltedAtAged | .stepTimerExpiry
  | .clearDeadlineExpiry _ | .travelDeadlineExpiry _ | .phaseDeadlineExpiry _ | .cycleDeadlineExpiry _
  | .resoundDeadlineExpiry _ | .pageProgramComplete _ | .eraseComplete _ | .statusClear | .nodeStatus _
  | .readPresence _ | .readZone _ | .readChannel _ | .readValve _ | .readLogPosition | .readLog _ _ _
  | .flushLog | .clearProtection _ | .readConfig _ | .writeConfig _ _ | .configMemoryAnswer _ | .nodeReset _
  | .k2Release => true

end Sys2Proof
end

