-- ==== Sys2Proof/Machine/GuardLine.lean ====
section
/-! DEFINITION. The line interface (section 4): errors and DEGRADED, the end of a valid frame, the sending of the
node's own frames, the stuck line and the presence deadline. -/

namespace Sys2Proof.Machine

/-! ## DEGRADED (R81 to R83) -/

/-- R81, R82: the LIF reports DEGRADED set or clear: the condition and the fault member, and, for the effective
quorum, to the zone unit, which recounts every tracked zone (R99). It reports nothing before OPERATING. The condition
is taken first, then the fault member, then the recount; the manual leaves this order open (DESIGN CHOICE, log 8). -/
def reportDegraded (b : Bool) (s : State) : State :=
  let t := reportFault .degraded b (reportConditions { s.zones.conditions with lineDegraded := b } s)
  if t.operating then recountAllZones { t with zones := { t.zones with degraded := b } } else t

/-- R81: the error window with one more instant; a ninth removes the oldest. -/
def joinErrors (t : Instant) (w : List Instant) : List Instant :=
  if w.length < 8 then w ++ [t] else w.drop 1 ++ [t]

/-- R81: eight errors lie in the window, the oldest less than 10,000 ms before now. -/
def errorsTooMany (now : Instant) (w : List Instant) : Bool :=
  match w with
  | [] => false
  | oldest :: _ => decide (w.length = 8) && decide (elapsed now oldest < 10000)

/-- R67, R81: an error: the tally, the error window and the degraded deadline. -/
def countError (now : Instant) (l : Line) : Line :=
  { l with
    errorTally := min (l.errorTally + 1) 65535
    errors := joinErrors now l.errors
    degradedDeadline := some (later now 10000) }

/-- R67, R81: an error is counted at the node, and DEGRADED is judged. -/
def lineError (s : State) : State :=
  let t := { s with line := countError s.time s.line }
  if !t.line.degraded && errorsTooMany t.time t.line.errors then
    reportDegraded true
      (postLine 4 t.line.errors.length { t with line := { t.line with degraded := true } })
  else t

/-- R82: the degraded deadline has expired. -/
def expireDegraded (s : State) : State :=
  let t := { s with line := { s.line with degradedDeadline := none } }
  if t.line.degraded then
    reportDegraded false
      (postLine 5 t.line.errors.length { t with line := { t.line with degraded := false } })
  else t

/-! ## The end of a frame (R66 to R69) -/

/-- R66: the instant of the first start bit of the frame that has been taken whole; now, where the receiver holds
no partial frame (log 21). -/
def State.rxStart (s : State) : Instant :=
  match s.line.receiver with
  | .taking t _ => t
  | .hunting => s.time

/-- R179: a valid frame is reported to the configuration loader while the line-echo test runs. -/
def reportHeard (s : State) : State :=
  if s.startup.echoDeadline.isSome then
    { s with startup := { s.startup with frameHeard := some true } }
  else s

/-- R179: the line-echo test ends in a pass: stage SCAN. -/
def passEcho (s : State) : State :=
  { s with startup := { s.startup with stage := some .scan, echoDeadline := none, frameHeard := none } }

/-- R66, R79: a valid frame has been taken whole: the receiver hunts and the stuck watch is discarded. -/
def endValidFrame (l : Line) : Line := { endReception l with stuckWatch := none }

/-- R68: a peer's valid frame is taken whole, counted as passed on and reported to the configuration loader. -/
def passOn (s : State) : State :=
  reportHeard
    { s with line :=
        { endValidFrame s.line with passedTally := min (s.line.passedTally + 1) 65535 } }

/-- R69: entry to LISTEN_ONLY; a second duplicate changes nothing further (log 22). LISTEN_ONLY is raised before STUCK is
withdrawn (DESIGN CHOICE, log 8). -/
def enterListenOnly (kind : FrameKind) (s : State) : State :=
  if s.line.state = .listenOnly then s
  else
    let wasStuck := decide (s.line.state = .stuck)
    let t := { s with line := { returnStages s with state := .listenOnly } }
    let u := reportFault .listenOnly true (postLine 1 (kindByte kind) t)
    if wasStuck then reportFault .stuck false u else u

/-- R69: a valid frame with the own source that is not the own echo. -/
def takeDuplicate (kind : FrameKind) (s : State) : State :=
  enterListenOnly kind (reportHeard { s with line := endValidFrame s.line })

/-- R66: whether the byte on the line follows less than 12 quiet bit times while the receiver hunts, and so is
dropped. -/
def Line.drops (l : Line) : Bool :=
  decide (l.receiver = .hunting) &&
    match l.activity with
    | .byte _ _ => true
    | .mark => false
    | .own => false
    | .ownLast _ => false
    | .busy => false

/-- R66: a byte that carries an error has ended: it is counted, but for a byte that is dropped. -/
def takeByteError (s : State) : State :=
  let t := { s with line := endReception s.line }
  if s.line.drops then t else lineError t

/-- R67: a frame taken whole that is not valid. -/
def takeBadFrame (s : State) : State := lineError { s with line := endReception s.line }

/-- R67 to R69: a frame of a kind with a source, taken whole with a good CRC: an error where no station has that
number, a duplicate where it is the own number, and otherwise passed on to `use`. -/
def takeFrame (kind : FrameKind) (source : Byte) (use : State → State) (s : State) : State :=
  if !s.handedOver then s
  else if !validSource source then takeBadFrame s
  else if source.toNat = s.station then takeDuplicate kind s
  else use (passOn s)

/-! ## Sending (R74 to R78) -/

/-- R65, R79: the quiet count stands at `q`, at the beginning of a bit time where that raises it, and the stuck watch is
discarded once it is 142. -/
def setQuiet (q : Nat) (l : Line) : Line :=
  { l with
    quiet := q, quietPart := if l.quiet < q then 0 else l.quietPart, activity := .mark
    stuckWatch := watchAt q l.stuckWatch }

/-- R66: the quiet count has reached 12 within a partial frame, which is broken off: an error. -/
def breakOff (s : State) : State :=
  lineError { s with line := { setQuiet (max 12 s.line.quiet) s.line with receiver := .hunting } }

/-- R66: where the quiet count has reached 12, a partial frame has been broken off. -/
def breakOffAt (quiet : Nat) (s : State) : State :=
  if 12 ≤ quiet ∧ s.line.receiver ≠ .hunting then breakOff s else s

/-- R79, R80: the quiet count has reached 142: the stuck watch is discarded, and STUCK is left. -/
def leaveStuck (s : State) : State :=
  let t := { s with line := setQuiet (max 142 s.line.quiet) s.line }
  if s.line.state = .stuck then
    reportFault .stuck false (postLine 3 s.line.errorTally { t with line := { t.line with state := .listening } })
  else t

/-- R66, R80: the quiet count has reached `quiet`: at 12 a partial frame has been broken off, and at 142 STUCK has been
left. -/
def reachQuiet (quiet : Nat) (s : State) : State :=
  let t := breakOffAt quiet s
  if 142 ≤ quiet ∧ t.line.state = .stuck then leaveStuck t else t

/-- R66, R80: the node with all that the quiet count, where it runs, has brought. What it has brought comes before an arrival
that ends it (log 12). -/
def State.settled (s : State) : State :=
  if s.handedOver && s.line.counting then reachQuiet s.line.quiet s else s

/-- The quiet count at which an arrival comes: the larger of the one it names and the one that runs (log 12). -/
def Line.countAt (l : Line) (quiet : Nat) : Nat := if l.counting then max quiet l.quiet else quiet

/-- R74: the quiet count has reached the gap of the head frame, which enters the holding stage. A count of 142 has ended
STUCK first (R80). -/
def expireGap (s : State) : State :=
  match s.line.queue with
  | [] => s
  | f :: _ =>
    let t := reachQuiet (s.line.countAt (frameGap s.station f)) s
    if mayHold t.line then
      { t with line := holdHead (setQuiet (max t.line.quiet (frameGap s.station f)) t.line) }
    else t

/-- R66: the receiver at a start bit that follows a quiet count: a byte after at least 12 begins a frame. -/
def receiveStart (now : Instant) (quiet : Nat) (r : Receiver) : Receiver :=
  match r with
  | .hunting => if 12 ≤ quiet then .taking now [] else .hunting
  | .taking t bytes => .taking t bytes

/-- R75, R76: the held frame moves into the shift stage and its first start bit is driven. -/
def driveHeld (s : State) : State :=
  match s.line.holding with
  | none => s
  | some f =>
    let l := seeStartBit s.time s.rate s.line.quiet .own s.line
    { s with line :=
        { l with
          holding := none
          shift := some { frame := f, drive := s.time, bytes := frameBytes s.station s.time f }
          receiver := receiveStart s.time (max s.line.quiet 12) s.line.receiver } }

/-- R65, R66, R75, R79, R80: another station's start bit is seen at a quiet count, with no byte before it still on the
line: a held frame defers. A count of 142 has ended STUCK first; no frame is held between, which by R74 leaves the queue as
it would be if one were. -/
def takeStartBit (b : StartBit) (s : State) : State :=
  let q := s.line.countAt b.quiet
  let t := reachQuiet q s
  { t with line :=
      { seeStartBit t.time t.rate q (.byte b.data b.stop) t.line with
        receiver := receiveStart t.time q t.line.receiver
        holding := none
        queue := t.takeBack t.line.holding t.line.queue } }

/-- R77: the driven byte at a position reads back differently: a collision. The frame is taken back, and the receiver
goes on with the byte read. -/
def collide (r : Misread) (s : State) : State :=
  match s.line.shift with
  | none => s
  | some d =>
    postLine 0 (kindByte d.frame.kind * 256 + r.position)
      { s with line :=
          { s.line with
            shift := none
            queue := s.takeBack (some d.frame) s.line.queue
            quiet := 0, quietPart := 0, activity := .byte r.data r.stop
            receiver := s.line.receiver.readFirst (r.position - 1) d.bytes
            collisionTally := min (s.line.collisionTally + 1) 65535 } }

/-- R68: the own frame has been read back whole, after it had left the shift stage at its last byte (R79): the receiver
takes it as a valid frame, reported to a line-echo test, and it is not counted as sent, since it has returned to the queue
(DESIGN CHOICE, log 45). -/
def takeLateEcho (s : State) : State := reportHeard { s with line := endValidFrame s.line }

/-- R76: the own frame has been read back whole: it is sent, and a line-echo test passes (R179). -/
def takeEcho (s : State) : State :=
  match s.line.shift with
  | none =>
    match s.line.activity with
    | .ownLast _ => takeLateEcho s
    | .mark => s
    | .byte _ _ => s
    | .own => s
    | .busy => s
  | some _ =>
    let t :=
      { s with line :=
          { endValidFrame s.line with shift := none, sentTally := min (s.line.sentTally + 1) 65535 } }
    if t.startup.echoDeadline.isSome then passEcho t else t

/-! ## A stuck line (R79, R80) -/

/-- R79: the stuck watch has expired. A frame in the shift stage returns to the queue also where the byte on the line is its
last, so that it is not counted as sent (DESIGN CHOICE, log 45). -/
def expireStuckWatch (s : State) : State :=
  let t := { s with line := { s.line with stuckWatch := none } }
  if s.line.state = .listening then
    reportFault .stuck true
      (postLine 2 s.line.errorTally { t with line := { returnStages t with state := .stuck } })
  else t

/-- R79, R80: the quiet count has reached 142: the stuck watch is discarded, and STUCK is left for a head frame whose gap
the count has reached. -/
def exitStuck (s : State) : State :=
  let t := leaveStuck (breakOffAt 142 s)
  if s.line.state = .stuck then { t with line := judgeGap t.station t.line } else t

/-! ## The presence deadline (R73) -/

/-- R73: the presence deadline `d` has expired. -/
def expirePresence (d : Instant) (s : State) : State :=
  placePresence
    { s with line := { s.line with presenceDeadline := some (later d s.cfg.presencePeriod) } }

/-! ## Meanings

The line interface listens from the hand-over (R85); an arrival from the line before it changes nothing. -/

/-- FRAME_ERROR (R67). -/
def execFrameError (s : State) : Host.Outcome State Fault Refusal :=
  .next (if s.handedOver then takeBadFrame s.settled else s)

/-- BYTE_ERROR (R66). -/
def execByteError (s : State) : Host.Outcome State Fault Refusal :=
  .next (if s.handedOver then takeByteError s.settled else s)

/-- OWN_ECHO (R68, R76, R179). -/
def execOwnEcho (s : State) : Host.Outcome State Fault Refusal := .next (takeEcho s)

/-- DUPLICATE_STATION_FRAME (R69). -/
def execDuplicateStationFrame (kind : FrameKind) (s : State) : Host.Outcome State Fault Refusal :=
  .next (if s.handedOver then takeDuplicate kind s.settled else s)

/-- FRAME_DRIVE_START (R75, R76). -/
def execFrameDriveStart (s : State) : Host.Outcome State Fault Refusal := .next (driveHeld s)

/-- COLLISION (R77). -/
def execCollision (read : Misread) (s : State) : Host.Outcome State Fault Refusal :=
  .next (collide read s)

/-- STUCK_WATCH_EXPIRY (R79). -/
def execStuckWatchExpiry (s : State) : Host.Outcome State Fault Refusal :=
  .next (if due s.time s.line.stuckWatch then expireStuckWatch s else s)

/-- DEGRADED_DEADLINE_EXPIRY (R82). -/
def execDegradedDeadlineExpiry (s : State) : Host.Outcome State Fault Refusal :=
  .next (if due s.time s.line.degradedDeadline then expireDegraded s else s)

/-- PRESENCE_DEADLINE_EXPIRY (R73). -/
def execPresenceDeadlineExpiry (s : State) : Host.Outcome State Fault Refusal :=
  .next
    (match s.line.presenceDeadline with
     | none => s
     | some d => if due s.time (some d) then expirePresence d s else s)

end Sys2Proof.Machine
end

