-- ==== Sys2Proof/Machine/PeersZones.lean ====
section
/-! DEFINITION. The peer table and the zone unit (section 5): the four frames received, and the expiries of silence,
ring, halted_at and fire-pending deadlines. -/

namespace Sys2Proof.Machine

/-! ## Presence entries (R86 to R89) -/

/-- The number of a presence entry; a valid source lies below 32. -/
def stationIndex (source : Byte) : Fin 32 := ⟨source.toNat % 32, Nat.mod_lt _ (by decide)⟩

/-- R89: the STATION event of an entry's state. -/
def postStation (i : Fin 32) (s : State) : State :=
  post .station i.val (peerCode s.peers[i].state) (s.peers[i].homeZone.getD 0) 0 s

/-- R102: recounts a zone that an entry names, if it names one. -/
def recountHome (z : Option Nat) (s : State) : State :=
  match z with
  | none => s
  | some n => recountZone n s

/-- R89: whether a change of an entry is reported to the zone unit. -/
def votesDiffer (old new : Peer) : Bool :=
  decide (old.state ≠ new.state) || decide (old.homeZone ≠ new.homeZone) || decide (old.vote ≠ new.vote)

/-- R89, R102: the zone unit takes a changed entry: the zone it left, then the zone it names (log 8). -/
def reportPeer (old new : Peer) (s : State) : State :=
  if s.operating && votesDiffer old new then
    let t := recountHome old.homeZone s
    if new.homeZone = old.homeZone then t else recountHome new.homeZone t
  else s

/-- R86: a frame makes an entry LIVE and sets its last heard and silence deadline. -/
def Peer.hear (now : Instant) (period : Nat) (p : Peer) : Peer :=
  { p with state := .live, lastHeard := some now, silence := some (later now (3 * period)) }

/-- R86, R89: a frame is taken at its source's entry, with the change its body makes there. The STATION event gives the
home zone after that change (DESIGN CHOICE, log 38), and the entry's change reaches the transit predictor before the
zone unit (DESIGN CHOICE, log 8). -/
def hearPeer (i : Fin 32) (change : Peer → Peer) (s : State) : State :=
  let old := s.peers[i]
  let new := Peer.hear s.time s.cfg.presencePeriod (change old)
  let t := { s with peers := s.peers.set i new }
  let u := if old.state = .live then t else postStation i t
  let v := if old.state = .silent then markOrigin i.val false u else u
  reportPeer old new v

/-- R88, R89: a LIVE entry has not been heard for three presence periods. Its change reaches the transit predictor, with
the ORIGIN_SILENT condition, before the peer table's own report to the zone unit (DESIGN CHOICE, log 8). -/
def silencePeer (i : Fin 32) (s : State) : State :=
  let old := s.peers[i]
  let new := { old with state := .silent, silence := none }
  reportPeer old new
    (markOrigin i.val true (postStation i { s with peers := s.peers.set i new }))

/-- R86, R87: what a VOTE changes in its entry. -/
def voteChange (zone level reason : Byte) (p : Peer) : Peer :=
  match voteField zone level reason with
  | none => p
  | some (z, v) => { p with homeZone := some z, vote := some v }

/-- R86, R87, R191: what a PRESENCE changes in its entry. -/
def presenceChange (homeZone level reason extraction : Byte) (velocity : Half) (status : Byte) (p : Peer) :
    Peer :=
  match voteField homeZone level reason with
  | none => p
  | some (z, v) =>
    { p with
      homeZone := some z, vote := some v, extraction := some extraction
      velocity := some (velocityField velocity), flow := some (flowField status)
      flags := some (flagsField status) }

/-! ## A peer's detection (R32) -/

/-- R32: the transit predictor takes a DETECT whose first start bit came at `start`, in operation. PEER_DETECT is posted
before the predictions of the same detection reach the valve sequencer, an order that the manual leaves open (DESIGN
CHOICE, log 8). -/
def takePeerDetection (source channel count : Byte) (age span : Half) (start : Instant) (s : State) : State :=
  if s.operating then
    let first := start - age.setWidth 32
    let matched := s.watch.any (fun e => e.matches source.toNat channel.toNat)
    let t :=
      if s.cfg.logPeers then
        post .peerDetect source.toNat channel.toNat count.toNat (flagMatched matched) s
      else s
    takeDetection source.toNat channel.toNat first (first + span.setWidth 32) t
  else s

/-! ## Expiries of the zone unit (R91, R92, R101) -/

/-- R91: the ring deadline has expired. -/
def expireRing (s : State) : State := recountOwn (setRingDeadline (dropOldEntries s))

/-- R92: whether halted_at plus W is due, with halted_at not yet aged. -/
def agingDue (s : State) : Bool :=
  match s.zones.haltedAt with
  | none => false
  | some h => !s.zones.aged && due s.time (some (later h (s.cfg.window * 1000)))

/-- R101: the fire-pending deadline of a zone, if it runs. -/
def State.fireDeadline (s : State) (z : Nat) : Option Instant :=
  match s.zoneRecord z with
  | none => none
  | some r => r.fireDeadline

/-- R101: the fire-pending deadline of a zone has expired. -/
def expireFirePending (z : Nat) (s : State) : State :=
  recountZone z (updateZone z (fun r => { r with fireDeadline := none, confirmed := true }) s)

/-! ## The four frames taken whole (R67 to R69, R86) -/

/-- R32, R68, R86: a DETECT is taken whole: its presence entry, then the transit predictor. -/
def takeDetect (source channel count : Byte) (age span : Half) (s : State) : State :=
  takeFrame .detect source
    (fun t =>
      takePeerDetection source channel count age span s.rxStart (hearPeer (stationIndex source) (fun p => p) t)) s

/-- R68, R86, R87: a VOTE is taken whole. -/
def takeVote (source zone level reason : Byte) (s : State) : State :=
  takeFrame .vote source (hearPeer (stationIndex source) (voteChange zone level reason)) s

/-- R68, R86, R87: a PRESENCE is taken whole. -/
def takePresence (source homeZone level reason extraction : Byte) (velocity : Half) (status : Byte) (s : State) :
    State :=
  takeFrame .presence source
    (hearPeer (stationIndex source) (presenceChange homeZone level reason extraction velocity status)) s

/-- R68, R86, R104: a RESTART is taken whole: its presence entry, then the zone unit. -/
def takeRestartFrame (source : Byte) (zone : Half) (s : State) : State :=
  takeFrame .restart source
    (fun t => takeRestart zone.toNat source.toNat (hearPeer (stationIndex source) (fun p => p) t)) s

/-! ## Meanings -/

/-- DETECT_RECEIVED (R32, R68, R86). -/
def execDetectReceived (source channel count : Byte) (age span _peak : Half) (s : State) :
    Host.Outcome State Fault Refusal :=
  .next (takeDetect source channel count age span s.settled)

/-- VOTE_RECEIVED (R68, R86, R87). -/
def execVoteReceived (source zone level reason : Byte) (s : State) : Host.Outcome State Fault Refusal :=
  .next (takeVote source zone level reason s.settled)

/-- PRESENCE_RECEIVED (R68, R86, R87). -/
def execPresenceReceived (source homeZone level reason extraction : Byte) (velocity : Half) (status : Byte)
    (s : State) : Host.Outcome State Fault Refusal :=
  .next (takePresence source homeZone level reason extraction velocity status s.settled)

/-- RESTART_RECEIVED (R68, R86, R104 to R106). -/
def execRestartReceived (source : Byte) (zone : Half) (s : State) : Host.Outcome State Fault Refusal :=
  .next (takeRestartFrame source zone s.settled)

/-- SILENCE_DEADLINE_EXPIRY (R88). -/
def execSilenceDeadlineExpiry (station : Fin 32) (s : State) : Host.Outcome State Fault Refusal :=
  .next
    (if due s.time s.peers[station].silence && decide (s.peers[station].state = .live) then
      silencePeer station s
    else s)

/-- RING_DEADLINE_EXPIRY (R91). -/
def execRingDeadlineExpiry (s : State) : Host.Outcome State Fault Refusal :=
  .next (if s.operating && due s.time s.zones.ringDeadline then expireRing s else s)

/-- HALTED_AT_AGED (R92). -/
def execHaltedAtAged (s : State) : Host.Outcome State Fault Refusal :=
  .next (if agingDue s then { s with zones := { s.zones with aged := true } } else s)

/-- FIRE_PENDING_EXPIRY (R101). -/
def execFirePendingExpiry (zone : Nat) (s : State) : Host.Outcome State Fault Refusal :=
  .next (if s.operating && due s.time (s.fireDeadline zone) then expireFirePending zone s else s)

end Sys2Proof.Machine
end

