-- ==== Sys2Proof/Machine/Reception.lean ====
section
/-! DEFINITION. The reception of another station's bytes (sections 4.1 and 4.2): what the end of a byte on the line brings,
and the arrivals of the line that come after that end. -/

namespace Sys2Proof.Machine

/-! ## A frame taken whole (R66 to R69) -/

/-- Section 4.2: the frame kind that a kind byte names. -/
def kindOfByte (b : Byte) : Option FrameKind :=
  if b = 0x11 then some .detect
  else if b = 0x22 then some .vote
  else if b = 0x23 then some .restart
  else if b = 0x34 then some .presence
  else none

/-- Section 4.2: the total bytes of a frame of a kind. -/
def frameTotal : FrameKind → Nat
  | .detect => 13
  | .vote => 8
  | .restart => 7
  | .presence => 12

/-- R67: the CRC of a frame, its last two bytes, agrees with the bytes from the kind byte to the last body byte. -/
def crcGood (bytes : List Byte) : Bool :=
  decide (bytes2 (crc16 ((bytes.drop 1).take (bytes.length - 3))).toNat = bytes.drop (bytes.length - 2))

/-- R67 to R69, R191: a frame of a kind is taken whole, with its bytes from the sync to the CRC. -/
def takeWhole (kind : FrameKind) (bytes : List Byte) (s : State) : State :=
  let b (i : Nat) : Byte := bytes.getD i 0
  let h (i : Nat) : Half := b i ++ b (i + 1)
  if crcGood bytes then
    match kind with
    | .detect => takeDetect (b 2) (b 3) (b 4) (h 5) (h 7) s
    | .vote => takeVote (b 2) (b 3) (b 4) (b 5) s
    | .restart => takeRestartFrame (b 2) (h 3) s
    | .presence => takePresence (b 2) (b 3) (b 4) (b 5) (b 6) (h 7) (b 9) s
  else takeBadFrame s

/-! ## The end of a byte (R65, R66) -/

/-- Whether a stop bit reads mark. -/
def stopGood : StopBit → Bool
  | .mark => true
  | .followed => true
  | .space => false
  | .held => false

/-- R66: the byte on the line joins the partial frame. -/
def joinByte (start : Instant) (bytes : List Byte) (stop : StopBit) (s : State) : State :=
  { s with line := { byteOver (lineRests stop) s.line with receiver := .taking start bytes } }

/-- R66: the byte on the line has ended in a partial frame, whose bytes are now these: it is an error, the last of its
frame, which `whole` takes, or one of those in between. -/
def endFrameByte (whole : FrameKind → List Byte → State → State) (start : Instant) (bytes : List Byte) (stop : StopBit)
    (s : State) : State :=
  if stopGood stop then
    match bytes with
    | [] => joinByte start bytes stop s
    | [sync] => if sync = 0x5B then joinByte start bytes stop s else takeByteError s
    | _ :: kind :: _ =>
      match kindOfByte kind with
      | none => takeByteError s
      | some k => if frameTotal k ≤ bytes.length then whole k bytes s else joinByte start bytes stop s
  else takeByteError s

/-- R65, R66: the byte of another station on the line has ended; the receiver drops it while it hunts. -/
def endOtherByte (data : Byte) (stop : StopBit) (s : State) : State :=
  match s.line.receiver with
  | .hunting => { s with line := byteOver (lineRests stop) s.line }
  | .taking start bytes => endFrameByte takeWhole start (bytes ++ [data]) stop s

/-- R66, R68, R79, R181: the last byte that the node drives of a frame not driven on has ended. It joins the partial frame
as any byte does; where it is the last of the frame, the frame has been read back whole. -/
def endOwnByte (data : Byte) (s : State) : State :=
  match s.line.receiver with
  | .hunting => { s with line := byteOver true s.line }
  | .taking start bytes => endFrameByte (fun _ _ => takeEcho) start (bytes ++ [data]) .mark s

/-- R181: whether the byte of the frame in the shift stage is the last that the node drives of it: start-up has failed. -/
def State.lastOwnByte (s : State) : Bool := s.line.shift.isNone || decide (s.startup.state = .failed)

/-- R65: whether a byte is on the line that ends without an arrival of its own. -/
def State.byteEnds (s : State) : Bool :=
  match s.line.activity with
  | .byte _ _ => true
  | .own => s.lastOwnByte
  | .ownLast _ => true
  | .mark => false
  | .busy => false

/-- R181: the present byte of the frame in the shift stage has ended, and it is driven no further. -/
def endCutFrame (s : State) : State :=
  match s.line.shift with
  | none => { s with line := byteOver true s.line }
  | some d =>
    let t := endOwnByte (d.present s.time s.rate) { s with line := readOwn s.time s.rate s.line }
    { t with line := { t.line with shift := none } }

/-- R65, R66, R79, R181: the byte on the line has ended. -/
def endByte (s : State) : State :=
  match s.line.activity with
  | .byte data stop => endOtherByte data stop s
  | .own => if s.lastOwnByte then endCutFrame s else s
  | .ownLast data => endOwnByte data s
  | .mark => s
  | .busy => s

/-- An arrival that comes after the end of the byte on the line. While the node drives a frame, it sees no start bit of
another station and no quiet, and the arrival changes nothing (DESIGN CHOICE, log 12). -/
def afterByte (f : State → State) (s : State) : State :=
  let t := endByte s
  if t.line.activity = .own then t else f t

/-! ## Meanings -/

/-- FOREIGN_START_BIT (R65, R66, R75). -/
def execForeignStartBit (start : StartBit) (s : State) : Host.Outcome State Fault Refusal :=
  .next (if s.handedOver then afterByte (takeStartBit start) s else s)

/-- FRAME_BROKEN_OFF (R66). There is nothing to break off while the receiver hunts. -/
def execFrameBrokenOff (s : State) : Host.Outcome State Fault Refusal :=
  .next
    (if s.handedOver then
      afterByte
        (fun t =>
          let u := breakOffAt 12 t
          { u with line := judgeGap u.station u.line }) s
    else s)

/-- GAP_EXPIRY (R74). -/
def execGapExpiry (s : State) : Host.Outcome State Fault Refusal :=
  .next (afterByte expireGap s)

/-- STUCK_EXIT (R79, R80). -/
def execStuckExit (s : State) : Host.Outcome State Fault Refusal :=
  .next (if s.handedOver then afterByte exitStuck s else s)

end Sys2Proof.Machine
end

