-- ==== Sys2Proof/Machine/Reset.lean ====
section
/-! DEFINITION. A reset (R173): every block as its own chapter resets it, and what a cut-off operation leaves in the
two non-volatile memories (R172, R188). -/

namespace Sys2Proof.Machine

/-- R172: what a reset leaves of the array when it cuts off a page program or an erase. -/
def cutLogOperation (n : Nat) (g : LogSystem) : LogSystem :=
  match g.store.state, g.store.position with
  | .programming, some (b, p) => leaveProgram (Config.cutProgramByte n) (Config.cutProgramMark n) b p g
  | .erasing, some (b, _) => leaveErase (Config.cutEraseByte n) (Config.cutEraseCount n) b g
  | _, _ => g

/-- A.5: the four data bytes of a WRITE_CONFIG, from its parameters. -/
def configData (params : List Byte) : List Byte :=
  [paramByte params 2, paramByte params 3, paramByte params 4, paramByte params 5]

/-- R188: what a reset leaves of the configuration memory when it cuts off a WRITE_CONFIG. -/
def cutConfigWrite (n : Nat) (port : Port) (m : Memory) : Memory :=
  match port with
  | .executing command params .configMemory =>
    if command = 0x0B then
      Memory.writeSome (Config.cutConfigByte n) 0 (paramOffset params) (configData params) m
    else m
  | _ => m

/-- R185: a raw level of K1 that has not yet stood for 20 ms begins its 20 ms anew with the new time base. -/
def restartHold (hold : Option Instant) : Option Instant :=
  match hold with
  | none => none
  | some _ => some 20

/-- R173: a reset of a kind begins out of any other start-up state: every block takes its own reset (R21, R30, R42,
R62, R85, R109, R131, R145, R157, R172, R190). The raw contact levels, the two non-volatile memories and the commands
that wait are kept. -/
def beginReset (kind : ResetKind) (s : State) : State :=
  { State.reset with
    startup := Startup.reset kind
    inputs := { Inputs.reset with raw := s.inputs.raw, k1Hold := restartHold s.inputs.k1Hold }
    log :=
      { events := EventQueue.reset, store := LogStore.reset
        headers := (cutLogOperation s.freeCount s.log).headers
        array := (cutLogOperation s.freeCount s.log).array }
    configMemory := cutConfigWrite s.freeCount s.service.port s.configMemory
    freeCount := s.freeCount + 1
    pending := s.pending }

/-- R173: a reset of a kind begins while RESETTING stands: only POWER changes the cause. -/
def prolongReset (kind : ResetKind) (s : State) : State :=
  if kind = .power then { s with startup := { s.startup with cause := .power } } else s

/-- R173: a reset begins. -/
def takeReset (kind : ResetKind) (s : State) : State :=
  if s.startup.state = .resetting then prolongReset kind s else beginReset kind s

/-! ## Meanings -/

/-- RESET_BEGIN (R173). -/
def execResetBegin (kind : ResetKind) (s : State) : Host.Outcome State Fault Refusal :=
  .next (takeReset kind s)

end Sys2Proof.Machine
end

