-- ==== Sys2Proof/Machine/SparkChannels.lean ====
section
/-! DEFINITION. The spark channel unit (section 1): SAMPLE and GLOW_DEADLINE_EXPIRY. -/

namespace Sys2Proof.Machine

/-! ## Baseline and levels (R5, R6) -/

/-- Section 1.2: the baseline count; 0 while the baseline is absent. -/
def Channel.baselineCount (c : Channel) : Nat := c.baseline.getD 0 / 64

/-- R5: a baseline update: b moves toward 64x by the quotient truncated toward zero. -/
def updateBaseline (shift x b : Nat) : Nat :=
  ((b : Int) + Int.tdiv (64 * (x : Int) - (b : Int)) (2 ^ shift : Nat)).toNat

/-- R6: the trip level. -/
def tripLevel (k : ChannelConfig) (c : Channel) : Nat := c.baselineCount + k.tripOffset

/-- R6: the re-arm level, at least 1. -/
def rearmLevel (k : ChannelConfig) (c : Channel) : Nat := max 1 (tripLevel k c - k.hysteresis)

/-! ## One sample at one channel (R5 to R17) -/

/-- What a sample or an expiry at a channel leads to outside its record: nothing, a CHANNEL event, or a detection. -/
inductive ChannelNote where
  | nothing | changed | detected
deriving DecidableEq, Repr

/-- R15: the fault tests on a baseline count, in table order. -/
def faultTests (k : ChannelConfig) (a : Nat) (st : ChannelState) : ChannelState :=
  if k.ceiling < a then .faultAmbient
  else if a < k.darkFloor then .faultDark
  else if st = .faultAmbient ∧ a + 8 ≤ k.ceiling then .armed
  else if st = .faultDark ∧ k.darkFloor + 8 ≤ a then .armed
  else st

/-- R10: a pulse qualifies: QUALIFIED, and one more detection in the tally. -/
def qualify (c : Channel) : Channel :=
  { c with state := .qualified, detections := min (c.detections + 1) 65535 }

/-- R9, R12, R14: a pulse or a glow ends: ARMED, with run, pulse start and glow deadline discarded. -/
def endPulse (c : Channel) : Channel :=
  { c with state := .armed, run := none, pulseStart := none, glowDeadline := none }

/-- The peak raised to a sample. -/
def raisePeak (x : Nat) (c : Channel) : Channel := { c with peak := some (max (c.peak.getD 0) x) }

/-- R8: a sample at trip in ARMED begins a pulse, which qualifies at once where the qualify count is 1. -/
def beginPulse (k : ChannelConfig) (now : Instant) (x : Nat) (c : Channel) : Channel × ChannelNote :=
  let p :=
    { c with
      state := .pulse, run := some 1, peak := some x, pulseStart := some now,
      glowDeadline := some (later now k.glowLimit) }
  if k.qualifyCount = 1 then (qualify p, .detected) else (p, .nothing)

/-- R7, R8, R15, R17: a sample taken in a state whose baseline tracks. -/
def trackSample (k : ChannelConfig) (now : Instant) (x b : Nat) (c : Channel) : Channel × ChannelNote :=
  let u := { c with baseline := some (updateBaseline k.shift x b), last := some x }
  let st := faultTests k u.baselineCount c.state
  if st ≠ c.state then ({ u with state := st, settle := none }, .changed)
  else if c.state = .settling then
    let n := c.settle.getD 0 - 1
    if n = 0 then ({ u with state := .armed, settle := none }, .changed)
    else ({ u with settle := some n }, .nothing)
  else if c.state = .armed ∧ tripLevel k u ≤ x then beginPulse k now x u
  else (u, .nothing)

/-- R9: a sample taken in PULSE, judged against the frozen levels. -/
def pulseSample (k : ChannelConfig) (x : Nat) (c : Channel) : Channel × ChannelNote :=
  let u := { c with last := some x }
  if tripLevel k c ≤ x then
    let n := c.run.getD 0 + 1
    let p := raisePeak x { u with run := some n }
    if n = k.qualifyCount then (qualify p, .detected) else (p, .nothing)
  else if x < rearmLevel k c then
    ({ endPulse u with shortPulses := min (c.shortPulses + 1) 65535 }, .nothing)
  else (u, .nothing)

/-- R12: a sample taken in QUALIFIED. -/
def qualifiedSample (k : ChannelConfig) (x : Nat) (c : Channel) : Channel × ChannelNote :=
  let u := raisePeak x { c with last := some x }
  if x < rearmLevel k c then (endPulse u, .nothing) else (u, .nothing)

/-- R14: a sample taken in GLOW. -/
def glowSample (k : ChannelConfig) (x : Nat) (c : Channel) : Channel × ChannelNote :=
  let u := raisePeak x { c with last := some x }
  if x < rearmLevel k c then (endPulse u, .changed) else (u, .nothing)

/-- Section 1.6: one sample at one channel record. -/
def channelSample (k : ChannelConfig) (now : Instant) (x : Nat) (c : Channel) : Channel × ChannelNote :=
  match c.state with
  | .off => (c, .nothing)
  | .pulse => pulseSample k x c
  | .qualified => qualifiedSample k x c
  | .glow => glowSample k x c
  | .settling | .armed | .faultAmbient | .faultDark =>
    match c.baseline with
    | none => ({ c with baseline := some (64 * x), settle := some (2 ^ k.shift), last := some x }, .nothing)
    | some b => trackSample k now x b c

/-! ## What leaves the channel (R11, R18, R19) -/

/-- R18: the GLOW condition as the channels give it. -/
def State.glowing (s : State) : Bool := s.channels.any (fun c => decide (c.state = .glow))

/-- R18: the two conditions are reported to the zone unit, and then the channel fault to the fault summary; the manual
leaves this order open (DESIGN CHOICE, log 8). -/
def reportChannels (s : State) : State :=
  let t := reportConditions
    { s.zones.conditions with glow := s.glowing, channelFault := s.channelFault } s
  reportFault .channelFault t.channelFault t

/-- R19: a CHANNEL event: the state entered and the baseline count. -/
def postChannel (ch : Fin 4) (s : State) : State :=
  let c := s.channels.get ch
  post .channel ch.val (channelStateCode c.state) c.baselineCount 0 s

/-- R11, R19: a detection is posted as SPARK and, in operation, handed to the predictor, the line interface and the
zone unit, in that order (DESIGN CHOICE, log 8). -/
def detection (ch : Fin 4) (s : State) : State :=
  let c := s.channels.get ch
  let peak := c.peak.getD 0
  let t := post .spark ch.val peak (tripLevel (s.cfg.channels.get ch) c) 0 s
  if s.operating then
    ringDetection (handDetection ch s.time peak (takeDetection s.station ch.val s.time s.time t))
  else t

/-- R3 to R19: a sample of intensity `x` arrives at a channel. -/
def takeSample (ch : Fin 4) (x : Nat) (s : State) : State :=
  let r := channelSample (s.cfg.channels.get ch) s.time x (s.channels.get ch)
  let t := { s with channels := s.channels.set ch r.1 }
  match r.2 with
  | .nothing => t
  | .changed => reportChannels (postChannel ch t)
  | .detected => detection ch t

/-- R13: whether the glow deadline of a channel is due in PULSE or QUALIFIED. -/
def glowDue (ch : Fin 4) (s : State) : Bool :=
  let c := s.channels.get ch
  due s.time c.glowDeadline && (decide (c.state = .pulse) || decide (c.state = .qualified))

/-- R13: the channel enters GLOW. -/
def enterGlow (ch : Fin 4) (s : State) : State :=
  reportChannels (postChannel ch
    { s with channels := s.channels.set ch { s.channels.get ch with state := .glow, glowDeadline := none } })

/-! ## Meanings -/

/-- SAMPLE (R3 to R12, R14 to R17). A channel that is OFF takes no sample. -/
def execSample (ch : Fin 4) (x : BitVec 10) (s : State) : Host.Outcome State Fault Refusal :=
  .next (takeSample ch x.toNat s)

/-- GLOW_DEADLINE_EXPIRY (R13). -/
def execGlowDeadlineExpiry (ch : Fin 4) (s : State) : Host.Outcome State Fault Refusal :=
  .next (if glowDue ch s then enterGlow ch s else s)

end Sys2Proof.Machine
end

