-- ==== Sys2Proof/Machine/ServicePort.lean ====
section
/-! DEFINITION. The service port (section 11): the exchange area, the taking, judging and completing of commands, and
the replies (R193). -/

namespace Sys2Proof.Machine

/-! ## The exchange area (R183) -/

/-- R183: one byte of a write transaction is applied at an offset. -/
def writeAreaByte (o : Nat) (b : Byte) (v : Service) : Service :=
  if o = 0 then { v with command := b }
  else if o = 1 then { v with status := 0 }
  else if o < 10 then { v with params := v.params.set (o - 2) b }
  else v

/-- R183: the bytes of a write transaction are applied from an offset, which advances and wraps. -/
def writeArea (o : Nat) (bs : List Byte) (v : Service) : Service :=
  match bs with
  | [] => { v with offset := o % 32 }
  | b :: rest => writeArea (o % 32 + 1) rest (writeAreaByte (o % 32) b v)

/-- The 32 bytes of the exchange area. -/
def areaBytes (v : Service) : List Byte := [v.command, v.status] ++ v.params ++ v.reply

/-- R183: what a read transaction of `n` bytes returns; it changes nothing. The table has no row for it (log 26). -/
def readArea (n : Nat) (v : Service) : List Byte :=
  (List.range n).map (fun i => (areaBytes v).getD ((v.offset + i) % 32) 0)

/-! ## Completing a command (R185) -/

/-- The status values of A.5. -/
def statusOk : Byte := 1
/-- A.5. -/
def statusBadCommand : Byte := 2
/-- A.5. -/
def statusBadParam : Byte := 3
/-- A.5. -/
def statusKeyRequired : Byte := 4

/-- R185: the reply bytes, with those that the command does not use at 0. -/
def padReply (bs : List Byte) : List Byte := bs.take 22 ++ List.replicate (22 - bs.length) 0

/-- R185: a command completes: the reply, then the status, and the port is IDLE. -/
def complete (status : Byte) (reply : List Byte) (s : State) : State :=
  { s with service := { s.service with reply := padReply reply, status := status, port := .idle } }

/-- The port enters EXECUTING and waits. -/
def holdCommand (command : Byte) (params : List Byte) (wait : PortWait) (s : State) : State :=
  { s with service := { s.service with port := .executing command params wait } }

/-! ## Replies of the reading commands (R186, R193) -/

/-- The code of a state that may be absent, in one byte. -/
def replyCode {α : Type} (code : α → Nat) (x : Option α) : List Byte := reply1 (x.map code)

/-- R193: the time remaining to a deadline, in ms and two bytes. -/
def replyRemaining (now : Instant) (d : Option Instant) : List Byte :=
  reply2 (d.map (fun t => sat16 (remaining now t)))

/-- A vote in two bytes: its level and its reason. -/
def replyVote (v : Option Vote) : List Byte :=
  replyCode levelCode (v.map Vote.level) ++ replyCode reasonCode (v.map Vote.reason)

/-- An instant that may be absent, in four bytes. -/
def replyInstant (t : Option Instant) : List Byte := reply4 (t.map (fun x => x.toNat))

/-- R182: part 0 of the node status: the start-up record. -/
def replyStartup (s : State) : List Byte :=
  [BitVec.ofNat 8 (startCode s.startup.state)] ++ replyCode stageCode s.startup.stage
    ++ replyCode failureCode s.startup.failure ++ [BitVec.ofNat 8 (resetCode s.startup.cause)]
    ++ reply1 s.startup.station ++ reply1 s.startup.rate ++ reply1 s.startup.version
    ++ reply2 s.startup.warnings

/-- R108, R29: part 1: the three votes, the ring entry count, velocity and flow status. -/
def replyVotes (s : State) : List Byte :=
  replyVote (some s.zones.own) ++ replyVote (some s.zones.momentary) ++ replyVote s.zones.latched
    ++ bytes2 s.zones.ring.length ++ bytes2 s.flow.velocity ++ [BitVec.ofNat 8 (flowCode s.flow.status)]

/-- R130: part 2: the extraction sequencer. -/
def replySequencer (s : State) : List Byte :=
  let q := s.sequencer
  [BitVec.ofNat 8 (seqCode q.state)] ++ replyCode haltedCode q.haltedCause
    ++ [replyBits [q.stepFault, q.feedHold, q.demands.fst, q.demands.snd]]
    ++ [BitVec.ofNat 8 (keyCode q.key)]
    ++ replyRemaining s.time q.stepTimer ++ replyRemaining s.time q.unlockDeadline

/-- R193: a two-valued level in its own byte: 1 energized or active (DEDUCED, log 18). -/
def replyLevel (b : Bool) : List Byte := [if b then 1 else 0]

/-- R144: one door of part 3, its levels a byte each and its two yes/no fields in one (R193). Section 7.1 makes fire
standing absent nowhere: for a door in OFF, which has no zone views, the model gives it as not standing, with bit 0 (DESIGN
CHOICE, log 37). -/
def replyDoor (d : Fin 2) (s : State) : List Byte :=
  let x := s.doors.get d
  [BitVec.ofNat 8 (doorCode x.state)] ++ replyLevel x.holder ++ [replyBits [x.fireStanding, x.demand]]
    ++ replyLevel (s.level (dcInput d)) ++ replyLevel (s.level (ccInput d))
    ++ replyRemaining s.time
      (match x.clearDeadline with
       | some t => some t
       | none => x.travelDeadline)

/-- R193: the seconds remaining to a resound deadline. -/
def replyResound (now : Instant) (d : Option Instant) : List Byte :=
  reply2 (d.map (fun t => sat16 (remaining now t / 1000)))

/-- R154: one siren of part 4. -/
def replySiren (i : Fin 2) (s : State) : List Byte :=
  let x := s.sirens.sirens.get i
  let off := x.views.isEmpty
  [BitVec.ofNat 8 (if off then 0 else 1)]
    ++ replyCode patternCode (if off then none else some x.granted)
    ++ [BitVec.ofNat 8 (patternCode x.sounding)] ++ replyCode phaseCode x.phase ++ reply2 x.cycles
    ++ [replyBits [off || x.pendingRise, x.silenced.isSome]] ++ replyCode levelCode x.silenced
    ++ replyResound s.time x.resoundDeadline

/-- R154: part 4: both sirens, the fault summary and the relay level. -/
def replySirens (s : State) : List Byte :=
  replySiren 0 s ++ replySiren 1 s ++ bytes2 (faultBits s.sirens.summary s.sirens.relay)

/-- R84: part 5: the line interface. -/
def replyLine (s : State) : List Byte :=
  let l := s.line
  [BitVec.ofNat 8 (lineStateCode l.state), replyBits [l.degraded, l.holding.isSome || l.shift.isSome]]
    ++ reply1 s.startup.rate ++ reply1 s.startup.station ++ [BitVec.ofNat 8 l.queue.length]
    ++ l.queue.map (fun f => BitVec.ofNat 8 (kindByte f.kind)) ++ [BitVec.ofNat 8 l.errors.length]
    ++ bytes2 l.errorTally ++ bytes2 l.collisionTally ++ bytes2 l.sentTally ++ bytes2 l.passedTally

/-- R186: the reply of NODE_STATUS for a part. -/
def replyStatus (part : Nat) (s : State) : List Byte :=
  if part = 0 then replyStartup s
  else if part = 1 then replyVotes s
  else if part = 2 then replySequencer s
  else if part = 3 then replyDoor 0 s ++ replyDoor 1 s
  else if part = 4 then replySirens s
  else replyLine s

/-- R108: the reply of READ_PRESENCE. -/
def replyPresence (p : Peer) : List Byte :=
  [BitVec.ofNat 8 (peerCode p.state)] ++ reply1 p.homeZone ++ replyVote p.vote
    ++ reply1 (p.extraction.map (fun b => b.toNat)) ++ reply2 p.velocity ++ replyCode flowCode p.flow
    ++ (match p.flags with
        | none => [0xFF]
        | some f => [replyBits [f.channelFault, f.lineDegraded, f.valveFault, f.stepFault]])
    ++ replyInstant p.lastHeard ++ replyInstant p.silence

/-- R108: the reply of READ_ZONE. -/
def replyZone (z : Zone) : List Byte :=
  [BitVec.ofNat 8 z.zone] ++ bytes2 z.nWatch ++ bytes2 z.nHalt ++ bytes2 z.nFire
    ++ [BitVec.ofNat 8 z.members, BitVec.ofNat 8 z.quorum, BitVec.ofNat 8 (levelCode z.voteLevel),
        BitVec.ofNat 8 (levelCode z.latched), BitVec.ofNat 8 (levelCode z.view)]
    ++ replyInstant z.fireStart ++ [replyBits [z.confirmed]]

/-- R20: the reply of READ_CHANNEL. Section 1.1 does not say what the trip and re-arm levels are while the baseline is
absent: the model gives them as absent (DESIGN CHOICE, log 36), and so it gives settle remaining before the seeding sample
(DESIGN CHOICE, log 39). -/
def replyChannel (k : ChannelConfig) (c : Channel) : List Byte :=
  let level (n : Nat) : Option Nat := c.baseline.map (fun _ => n)
  [BitVec.ofNat 8 (channelStateCode c.state)] ++ reply2 (level c.baselineCount)
    ++ reply2 (level (tripLevel k c)) ++ reply2 (level (rearmLevel k c)) ++ reply2 c.last ++ reply2 c.peak
    ++ reply1 c.run ++ reply2 c.settle ++ replyInstant c.pulseStart ++ bytes2 c.detections
    ++ bytes2 c.shortPulses

/-- R61: the head window of a READ_VALVE reply. -/
def replyWindow (w : Option Window) : List Byte :=
  replyInstant (w.map Window.openAt) ++ replyInstant (w.map Window.closeAt)
    ++ replyCode windowKindCode (w.map Window.kind) ++ reply2 (w.map Window.merged)
    ++ reply1 (w.map Window.origin)
    ++ (match w with
        | none => [0xFF]
        | some x => [replyBits [x.begun]])

/-- R61: the reply of READ_VALVE. -/
def replyValve (v : Valve) (u : Valves) : List Byte :=
  [BitVec.ofNat 8 (if v.opened then 1 else 0), replyBits [v.noFlow, v.leak],
   BitVec.ofNat 8 v.windows.length] ++ replyWindow v.windows.head?
    ++ replyCode comparatorCode u.comparator ++ reply2 u.lastWater

/-- R171: the reply of READ_LOG_POSITION. -/
def replyLogPosition (g : LogSystem) : List Byte :=
  [BitVec.ofNat 8 (logStateCode g.store.state)]
    ++ reply1 (g.store.position.map (fun x => x.1.val)) ++ reply1 (g.store.position.map (fun x => x.2.val))
    ++ [BitVec.ofNat 8 g.store.buffer.length, BitVec.ofNat 8 g.store.programmed,
        replyBits [g.store.flushPending]]
    ++ bytes2 g.events.queue.length ++ bytes2 g.events.lost
    ++ [BitVec.ofNat 8 g.store.protectedCount, BitVec.ofNat 8 g.store.retiredCount]
    ++ bytes4 g.store.nextSequence

/-! ## READ_LOG (R171, R187) -/

/-- The number of a block or page from a parameter byte. -/
def fin16 (b : Byte) : Fin 16 := ⟨b.toNat % 16, Nat.mod_lt _ (by decide)⟩

/-- R187, R193: a READ_LOG reply: the record, the source with the two marks, the sequence and the program count. -/
def replyRecord (record : List Byte) (source : Nat) (h : BlockHeader) (p : Fin 16) : List Byte :=
  record
    ++ [BitVec.ofNat 8 (source + (if h.isProtected then 4 else 0) + (if h.retired then 8 else 0))]
    ++ reply4 h.sequence ++ [BitVec.ofNat 8 h.counts[p]]

/-- R171: a record of the page at the write position, served from the buffer. -/
def bufferReply (b p : Fin 16) (r : Nat) (g : LogSystem) : List Byte :=
  match g.store.buffer[r]? with
  | none => replyRecord (List.replicate 16 0) 2 g.headers[b] p
  | some x => replyRecord (recordBytes x) 0 g.headers[b] p

/-- R171: a record of another page, read from the array. -/
def arrayReply (b p : Fin 16) (r : Nat) (g : LogSystem) : List Byte :=
  replyRecord (Memory.readBytes g.array (pageAddress b p + 16 * r) 16) 1 g.headers[b] p

/-- R171: whether the array is busy with a program or an erase. -/
def LogStore.busy (l : LogStore) : Bool := decide (l.state = .programming) || decide (l.state = .erasing)

/-- R171, R187: READ_LOG is served, or held while a program or an erase runs. -/
def serveLog (params : List Byte) (s : State) : State :=
  let b := fin16 (paramByte params 0)
  let p := fin16 (paramByte params 1)
  let r := (paramByte params 2).toNat
  if s.log.store.position = some (b, p) then complete statusOk (bufferReply b p r s.log) s
  else if s.log.store.busy then holdCommand 0x07 params .logOperation s
  else complete statusOk (arrayReply b p r s.log) s

/-- R171, R187: a held READ_LOG completes with the record as the log store's completion left it. -/
def serveHeldLog (s : State) : State :=
  match s.service.port with
  | .executing _ params .logOperation =>
    complete statusOk
      (arrayReply (fin16 (paramByte params 0)) (fin16 (paramByte params 1)) (paramByte params 2).toNat s.log) s
  | _ => s

/-! ## The commands (R186 to R189) -/

/-- R169, R187: CLEAR_PROTECTION of a block. A block that is both retired and not protected meets two outcomes of R187,
which gives neither precedence; the model answers RETIRED (DESIGN CHOICE, log 41). -/
def clearProtection (b : Fin 16) (s : State) : State :=
  let e := s.log.store.table[b]
  if e.retired then complete statusOk [1] s
  else if !e.isProtected then complete statusOk [2] s
  else
    let store := { s.log.store with table := s.log.store.table.set b { e with isProtected := false } }
    let t := post .protectCleared b.val (e.sequence.getD 65535 % 65536) 0 0
      { s with log := { s.log with store := store } }
    complete statusOk [0] (if t.log.store.state = .full then searchFrom b t else t)

/-- R163, R187: FLUSH_LOG. -/
def flushByCommand (s : State) : State :=
  complete statusOk [BitVec.ofNat 8 (requestFlush s.log).2] { s with log := (requestFlush s.log).1 }

/-- R188: a configuration command makes its request to the memory, or is held while the loader reads. -/
def requestConfig (command : Byte) (params : List Byte) (s : State) : State :=
  if s.startup.stage = some .image then holdCommand command params .imageRead s
  else
    holdCommand command params .configMemory
      { s with startup := { s.startup with memoryDeadline := some (later s.time 50) } }

/-- R185: K1 as the port judges it: by its debounced level, or, before the hand-over, by its raw level held for 20
ms. -/
def State.portKey (s : State) : Bool :=
  if s.handedOver then s.level .k1
  else s.rawLevel .k1 && (decide (s.inputs.k1Hold = none) || due s.time s.inputs.k1Hold)

/-- R185, A.5: whether a code names a command. -/
def knownCommand (c : Byte) : Bool := decide (1 ≤ c.toNat) && decide (c.toNat ≤ 12)

/-- R185: the commands that need K1. -/
def needsKey (c : Byte) : Bool := decide (c = 0x09) || decide (c = 0x0B) || decide (c = 0x0C)

/-- R185 to R189: whether each parameter lies in the range its command states. -/
def paramsGood (c : Byte) (params : List Byte) (s : State) : Bool :=
  let n := (paramByte params 0).toNat
  match c.toNat with
  | 1 => decide (n ≤ 5)
  | 2 => decide (1 ≤ n) && decide (n ≤ 31) && decide (n ≠ s.station)
  | 3 => decide (1 ≤ n) && decide (n ≤ 15) && (s.zoneRecord n).isSome
  | 4 => decide (n ≤ 3)
  | 5 => decide (n ≤ 1)
  | 7 => decide (n ≤ 15) && decide ((paramByte params 1).toNat ≤ 15) && decide ((paramByte params 2).toNat ≤ 31)
  | 9 => decide (n ≤ 15)
  | 10 => decide (paramOffset params ≤ 496)
  | 11 => decide (paramOffset params ≤ 508) && decide (paramOffset params % 4 = 0)
  | 12 => decide (n = 0xA5)
  | _ => true

/-- R186 to R189: a command that has passed its tests is carried out. -/
def carryOut (c : Byte) (params : List Byte) (s : State) : State :=
  let n := (paramByte params 0).toNat
  match c.toNat with
  | 1 => complete statusOk (replyStatus n s) s
  | 2 => complete statusOk (replyPresence s.peers[stationIndex (paramByte params 0)]) s
  | 3 =>
    match s.zoneRecord n with
    | none => complete statusBadParam [] s
    | some z => complete statusOk (replyZone z) s
  | 4 =>
    let ch : Fin 4 := ⟨n % 4, Nat.mod_lt _ (by decide)⟩
    complete statusOk (replyChannel (s.cfg.channels.get ch) (s.channels.get ch)) s
  | 5 => complete statusOk (replyValve (s.valves.valves.get (if n = 0 then 0 else 1)) s.valves) s
  | 6 => complete statusOk (replyLogPosition s.log) s
  | 7 => serveLog params s
  | 8 => flushByCommand s
  | 9 => clearProtection (fin16 (paramByte params 0)) s
  | 10 => requestConfig c params s
  | 11 => requestConfig c params s
  | _ => takeReset .service s

/-- R185: a taken command is judged, and carried out where no test fails. -/
def judgeCommand (c : Byte) (params : List Byte) (s : State) : State :=
  if !knownCommand c then complete statusBadCommand [] s
  else if needsKey c && !s.portKey then complete statusKeyRequired [] s
  else if !paramsGood c params s then complete statusBadParam [] s
  else carryOut c params s

/-- R184: a command is taken when the port is IDLE, the command byte is not 0 and the status is 0. -/
def tryTake (s : State) : State :=
  if s.service.port = .idle ∧ s.service.command ≠ 0 ∧ s.service.status = 0 then
    judgeCommand s.service.command s.service.params
      { s with service := { s.service with command := 0 } }
  else s

/-- R183: whether the port acknowledges its address. -/
def State.portAwake (s : State) : Bool := decide (s.startup.state ≠ .resetting)

/-- R183, R184: a write transaction is applied, and a command may be taken. -/
def writeTransaction (bytes : List Byte) (s : State) : State :=
  match bytes with
  | [] => s
  | o :: rest =>
    if s.portAwake then tryTake { s with service := writeArea o.toNat rest s.service } else s

/-- R184: a tool gives a command: its code and its parameters, those not named being 0, are stored in the area, whose
status stands (log 25). -/
def giveCommand (c : Byte) (params : List Byte) (s : State) : State :=
  if s.portAwake then
    tryTake
      { s with service :=
          { s.service with command := c, params := params ++ List.replicate (8 - params.length) 0 } }
  else s

/-! ## The memory's answer (R175, R188) -/

/-- R188: the memory answers a READ_CONFIG or a WRITE_CONFIG in time. -/
def acceptAnswer (readBack : BitVec 32) (s : State) : State :=
  match s.service.port with
  | .executing c params .configMemory =>
    let t := { s with startup := { s.startup with memoryDeadline := none } }
    if c = 0x0B then
      let back := bytes4 readBack.toNat
      complete statusOk [if back = configData params then 1 else 2]
        { t with configMemory := Memory.writeBytes (paramOffset params) back t.configMemory }
    else complete statusOk (0 :: Memory.readBytes t.configMemory (paramOffset params) 16) t
  | _ => s

/-- R188: the memory has not answered the port in time; what a write has left in the memory is free. -/
def configUnanswered (s : State) : State :=
  match s.service.port with
  | .executing c params .configMemory =>
    let t := { s with startup := { s.startup with memoryDeadline := none } }
    if c = 0x0B then
      complete statusOk [2]
        { t with
          configMemory := Memory.writeBytes (paramOffset params)
            ([0, 1, 2, 3].map (Config.unansweredConfigByte t.freeCount)) t.configMemory
          freeCount := t.freeCount + 1 }
    else complete statusOk [2] t
  | _ => s

/-- R175: whether the instant by which the memory must answer has passed. -/
def State.answerLate (s : State) : Bool :=
  match s.startup.memoryDeadline with
  | none => false
  | some d => before d s.time

/-- R175, R188: the memory answers the port; an answer after its 50 ms is none. -/
def answerConfig (readBack : BitVec 32) (s : State) : State :=
  if s.answerLate then configUnanswered s else acceptAnswer readBack s

/-- R188: the loader's read has ended; a configuration command held for it makes its request. -/
def releaseConfig (s : State) : State :=
  match s.service.port with
  | .executing c params .imageRead => requestConfig c params s
  | _ => s

/-! ## Meanings -/

/-- SERVICE_AREA_WRITE (R183, R184). -/
def execServiceAreaWrite (bytes : List Byte) (s : State) : Host.Outcome State Fault Refusal :=
  .next (writeTransaction bytes s)

/-- STATUS_CLEAR (R183, R184): a write of one byte to offset 1, whatever its value. -/
def execStatusClear (s : State) : Host.Outcome State Fault Refusal := .next (writeTransaction [1, 0] s)

/-- NODE_STATUS (R186). -/
def execNodeStatus (part : Byte) (s : State) : Host.Outcome State Fault Refusal :=
  .next (giveCommand 0x01 [part] s)

/-- READ_PRESENCE (R108, R186). -/
def execReadPresence (station : Byte) (s : State) : Host.Outcome State Fault Refusal :=
  .next (giveCommand 0x02 [station] s)

/-- READ_ZONE (R108, R186). -/
def execReadZone (zone : Byte) (s : State) : Host.Outcome State Fault Refusal :=
  .next (giveCommand 0x03 [zone] s)

/-- READ_CHANNEL (R20, R186). -/
def execReadChannel (channel : Byte) (s : State) : Host.Outcome State Fault Refusal :=
  .next (giveCommand 0x04 [channel] s)

/-- READ_VALVE (R61, R186). -/
def execReadValve (valve : Byte) (s : State) : Host.Outcome State Fault Refusal :=
  .next (giveCommand 0x05 [valve] s)

/-- READ_LOG_POSITION (R171, R186). -/
def execReadLogPosition (s : State) : Host.Outcome State Fault Refusal := .next (giveCommand 0x06 [] s)

/-- READ_LOG (R171, R187). -/
def execReadLog (block page record : Byte) (s : State) : Host.Outcome State Fault Refusal :=
  .next (giveCommand 0x07 [block, page, record] s)

/-- FLUSH_LOG (R163, R187). -/
def execFlushLog (s : State) : Host.Outcome State Fault Refusal := .next (giveCommand 0x08 [] s)

/-- CLEAR_PROTECTION (R169, R185, R187). -/
def execClearProtection (block : Byte) (s : State) : Host.Outcome State Fault Refusal :=
  .next (giveCommand 0x09 [block] s)

/-- READ_CONFIG (R188). -/
def execReadConfig (offset : Half) (s : State) : Host.Outcome State Fault Refusal :=
  .next (giveCommand 0x0A (bytes2 offset.toNat) s)

/-- WRITE_CONFIG (R185, R188). -/
def execWriteConfig (offset : Half) (data : BitVec 32) (s : State) : Host.Outcome State Fault Refusal :=
  .next (giveCommand 0x0B (bytes2 offset.toNat ++ bytes4 data.toNat) s)

/-- CONFIG_MEMORY_ANSWER (R188). -/
def execConfigMemoryAnswer (readBack : BitVec 32) (s : State) : Host.Outcome State Fault Refusal :=
  .next (answerConfig readBack s)

/-- NODE_RESET (R173, R189). -/
def execNodeReset (confirmation : Byte) (s : State) : Host.Outcome State Fault Refusal :=
  .next (giveCommand 0x0C [confirmation] s)

end Sys2Proof.Machine
end

