-- ==== Sys2Proof/Machine/EvidenceLog.lean ====
section
/-! DEFINITION. The log store's completions (section 9): PAGE_PROGRAM_COMPLETE and ERASE_COMPLETE. -/

namespace Sys2Proof.Machine

/-- What the event queue fills in for a record it places now (R158, R160). -/
def State.stamp (s : State) : Record := s.record .overflow 0 0 0 0

/-- R162, R163: the log store returns to IDLE. -/
def idleLog (whole : Bool) (s : State) : State := { s with log := returnToIdle s.stamp whole s.log }

/-- R164: closing a page empties the buffer. -/
def emptyBuffer (g : LogSystem) : LogSystem := { g with store := { g.store with buffer := [], programmed := 0 } }

/-- R164: whether the page closes: four programs, thirty-two records, or a block that has just become protected. -/
def pageCloses (b p : Fin 16) (fire : Bool) (g : LogSystem) : Bool :=
  decide (4 ≤ g.headers[b].counts[p]) || decide (32 ≤ g.store.buffer.length) || fire

/-- R165: the write position advances from a page that has closed. -/
def advance (b p : Fin 16) (s : State) : State :=
  if s.log.store.table[b].usable ∧ p.val < 15 then
    idleLog false { s with log := { s.log with store := { s.log.store with position := some (b, p + 1) } } }
  else searchFrom b s

/-- R164: a page program has completed with success. -/
def programDone (b p : Fin 16) (s : State) : State :=
  let r := commitProgram b p s.log
  let t := serveHeldLog { s with log := r.1 }
  if pageCloses b p r.2 t.log then advance b p { t with log := emptyBuffer t.log } else idleLog false t

/-- R167, R168: a page program has failed: its block is retired, every record of the buffer counts as unprogrammed,
and the search goes on. -/
def programFailed (b p : Fin 16) (s : State) : State :=
  let n := s.freeCount
  let t := retire b 0
    { s with log := leaveProgram (Config.failedProgramByte n) (Config.cutProgramMark n) b p s.log, freeCount := n + 1 }
  searchFrom b
    (serveHeldLog { t with log := { t.log with store := { t.log.store with programmed := 0 } } })

/-- R166: an erase has completed with success. -/
def eraseDone (b : Fin 16) (s : State) : State :=
  let whole := decide (s.log.store.unprogrammed ≠ [])
  idleLog whole (serveHeldLog { s with log := commitErase b s.log })

/-- R166, R168: an erase has failed: its block is retired and the search goes on. -/
def eraseFailed (b : Fin 16) (s : State) : State :=
  let n := s.freeCount
  searchFrom b
    (serveHeldLog
      (retire b 1
        { s with
          log := leaveErase (Config.cutEraseByte n) (Config.cutEraseCount n) b s.log, freeCount := n + 1 }))

/-! ## Meanings -/

/-- PAGE_PROGRAM_COMPLETE (R164 to R168). Nothing completes outside PROGRAMMING. -/
def execPageProgramComplete (success : Bool) (s : State) : Host.Outcome State Fault Refusal :=
  .next
    (match s.log.store.state, s.log.store.position with
     | .programming, some (b, p) => if success then programDone b p s else programFailed b p s
     | _, _ => s)

/-- ERASE_COMPLETE (R165 to R168). Nothing completes outside ERASING. -/
def execEraseComplete (success : Bool) (s : State) : Host.Outcome State Fault Refusal :=
  .next
    (match s.log.store.state, s.log.store.position with
     | .erasing, some (b, _) => if success then eraseDone b s else eraseFailed b s
     | _, _ => s)

end Sys2Proof.Machine
end

