-- ==== Sys2Proof/Machine/StartUp.lean ====
section
/-! DEFINITION. The configuration loader (section 10): identity, image, hand-over, self-test, scan and the notice of
OPERATING. RESET_BEGIN stands in `Reset`. -/

namespace Sys2Proof.Machine

/-! ## Failure (R181) -/

/-- R181: start-up becomes STARTUP_FAILED for a reason; the line interface empties its queue, and a frame being driven
is driven to the end of its present byte and no further. -/
def failStart (reason : Failure) (s : State) : State :=
  { s with
    startup :=
      { s.startup with
        state := .failed, stage := none, failure := some reason, echoDeadline := none, frameHeard := none }
    line := { s.line with queue := [], holding := none } }

/-! ## Identity (R174) -/

/-- R174: RESETTING has ended: the time base starts, the switches are read and the RESET event is posted. -/
def beginStart (station rate : Nat) (s : State) : State :=
  let t :=
    { s with
      time := 0
      startup :=
        { s.startup with
          state := .starting, stage := some .switches, station := some station, rate := some rate
          warnings := some 0 } }
  let u := post .reset 0 (resetCode s.startup.cause) (rate * 256 + station) 0 t
  if station = 0 then failStart .noStation u
  else
    { u with startup :=
        { u.startup with stage := some .image, memoryDeadline := some (later u.time 50) } }

/-! ## Clamping and the hand-over (R31, R97, R132, R146, R176, R177) -/

/-- R176: a CONFIG_WARN event, which raises the warning count. -/
def warn (subject value1 value2 : Nat) (s : State) : State :=
  let t := post .configWarn subject value1 (value2 % 65536) 0 s
  { t with startup := { t.startup with warnings := some (min (t.startup.warnings.getD 0 + 1) 255) } }

/-- The warnings of one check, in order. -/
def warnAll (subject : Nat) (ws : List (Nat × Nat)) (s : State) : State :=
  ws.foldl (fun t w => warn subject w.1 w.2 t) s

/-- R31: an entry of the watch list; a velocity source naming the own station is held as own. -/
def watchEntry (station : Nat) (w : WatchConfig) : WatchEntry :=
  { origin := w.origin, channels := w.channels, length := w.length
    source := if w.source = station then 0 else w.source, valves := w.valves, silent := false }

/-- R31: whether an entry already placed makes a later one a duplicate. -/
def clashes (e f : WatchEntry) : Bool :=
  decide (e.origin = f.origin) && decide (e.channels &&& f.channels ≠ 0) && decide (e.valves &&& f.valves ≠ 0)

/-- R31: the watch list is built from position `i` on; entries are kept with their positions, and the warnings with
the values of their events. Where a duplicate clashes with several earlier entries, the manual does not say which
position its warning names; the model names the lowest (DESIGN CHOICE, log 40). -/
def buildWatch (station i : Nat) (ws : List WatchConfig) (placed : List (Nat × WatchEntry)) :
    List (Nat × WatchEntry) × List (Nat × Nat) :=
  match ws with
  | [] => (placed, [])
  | w :: rest =>
    if w.origin = 0 then buildWatch station (i + 1) rest placed
    else if w.channels = 0 ∨ w.valves = 0 then
      let r := buildWatch station (i + 1) rest placed
      (r.1, (i, 65535) :: r.2)
    else
      match placed.find? (fun e => clashes e.2 (watchEntry station w)) with
      | some e =>
        let r := buildWatch station (i + 1) rest placed
        (r.1, (i, e.1) :: r.2)
      | none => buildWatch station (i + 1) rest (placed ++ [(i, watchEntry station w)])

/-- R97: a zone record with its start values. -/
def startZone (z : Nat) : Zone :=
  { zone := z, nWatch := 0, nHalt := 0, nFire := 0, members := 0, quorum := 1, voteLevel := .clear
    latched := .clear, view := .clear, fireStart := none, fireDeadline := none, confirmed := false }

/-- R97: the zone table is built from position `i` of the tracked zone list on. -/
def buildZones (i : Nat) (zs : List Nat) (placed : List Nat) : List Nat × List (Nat × Nat) :=
  match zs with
  | [] => (placed, [])
  | z :: rest =>
    if z = 0 then buildZones (i + 1) rest placed
    else if z ∈ placed then
      let r := buildZones (i + 1) rest placed
      (r.1, (i, z) :: r.2)
    else buildZones (i + 1) rest (placed ++ [z])

/-- R132: the zones the image names for a door, each once. -/
def namedZones (c : DoorConfig) : List Nat :=
  (if c.zone1 = 0 then [] else [c.zone1])
    ++ (if c.zone2 = 0 ∨ c.zone2 = c.zone1 then [] else [c.zone2])

/-- R146: the zones the image names for a siren. -/
def namedSirenZones (c : SirenConfig) : List Nat :=
  [1, 2, 3, 4, 5, 6, 7, 8, 9, 10, 11, 12, 13, 14, 15].filter (fun z => c.zones.getLsbD z)

/-- R132, R146: the named zones that the zone table holds. -/
def keptZones (table named : List Nat) : List Nat := named.filter (fun z => decide (z ∈ table))

/-- R132, R146: the warnings of the named zones that the zone table does not hold. -/
def droppedZones (value1 : Nat) (table named : List Nat) : List (Nat × Nat) :=
  (named.filter (fun z => decide (z ∉ table))).map (fun z => (value1, z))

/-- Views that start at CLEAR. -/
def clearViews (zs : List Nat) : List (Nat × Level) := zs.map (fun z => (z, .clear))

/-- R21: a channel at the hand-over. The manual gives settle remaining no value in SETTLING before the seeding sample
(R7); the model holds it absent there (DESIGN CHOICE, log 39). -/
def startChannel (k : ChannelConfig) : Channel :=
  if k.enabled then { Channel.reset with state := .settling } else Channel.reset

/-- R56, R62: a valve at the hand-over: a leak deadline runs where its flow switch is active. -/
def startValve (now : Instant) (k : ValveConfig) (fs : Bool) : Valve :=
  { Valve.reset with leakDeadline := if fs then some (later now k.flowConfirm) else none }

/-- R146: a siren at the hand-over. -/
def startSiren (zs : List Nat) : Siren := { Siren.reset with views := clearViews zs }

/-- The numbers of the zones in the zone table. -/
def State.zoneNumbers (s : State) : List Nat := s.zones.zones.map Zone.zone

/-- R132: the zone set of a door, from the configuration set and the zone table. -/
def State.doorZones (s : State) (d : Fin 2) : List Nat :=
  keptZones s.zoneNumbers (namedZones (s.cfg.doors.get d))

/-- R177: the hand-over of a configuration set: every block takes its values. The CONFIG_WARN events of the watch list
are posted before those of the zone table, then those of the doors and of the sirens; the manual leaves this order open
(DESIGN CHOICE, log 33). -/
def handOverSet (c : ConfigSet) (s : State) : State :=
  let watch := buildWatch s.station 0 c.watch []
  let zones := buildZones 0 c.tracked [c.homeZone]
  let t :=
    { s with
      config := some c
      inputs :=
        { s.inputs with level := s.inputs.raw, deadline := Vector.replicate 16 none }
      channels :=
        ⟨startChannel c.channels.c0, startChannel c.channels.c1, startChannel c.channels.c2,
         startChannel c.channels.c3⟩
      watch := watch.1.map (fun e => e.2)
      valves :=
        { valves :=
            ⟨startValve s.time c.valves.fst (s.rawLevel .fs0), startValve s.time c.valves.snd (s.rawLevel .fs1)⟩
          comparator := some .normal, lastWater := none }
      zones := { s.zones with zones := zones.1.map startZone }
      sirens :=
        { s.sirens with sirens :=
            ⟨startSiren (keptZones zones.1 (namedSirenZones c.sirens.fst)),
             startSiren (keptZones zones.1 (namedSirenZones c.sirens.snd))⟩ }
      startup := { s.startup with stage := some .selfTest } }
  let u := warnAll 3 zones.2 (warnAll 2 watch.2 t)
  let v := warnAll 4
    (droppedZones 0 zones.1 (namedZones c.doors.fst) ++ droppedZones 1 zones.1 (namedZones c.doors.snd)
      ++ droppedZones 2 zones.1 (namedSirenZones c.sirens.fst)
      ++ droppedZones 3 zones.1 (namedSirenZones c.sirens.snd)) u
  { v with log := { v.log with events := { v.log.events with mode := c.overflowMode } } }

/-- R175: the read of the image has ended: it is judged, and an accepted image is clamped and handed over. -/
def judgeImage (s : State) : State :=
  let image := Memory.readBytes s.configMemory 0 512
  let t :=
    { s with startup :=
        { s.startup with version := some (imageByte image 0), memoryDeadline := none } }
  if imageAccepted image then
    handOverSet (readConfigSet image).value (warnAll 1 (readConfigSet image).warnings t)
  else failStart .configBad t

/-! ## Self-test (R178, R179) -/

/-- R179: the line-echo test begins. -/
def beginEcho (s : State) : State :=
  placePresence
    { s with startup :=
        { s.startup with echoDeadline := some (later s.time 1000), frameHeard := some false } }

/-- R179: the echo deadline has expired. -/
def expireEcho (s : State) : State :=
  if s.startup.frameHeard = some true then passEcho s else failStart .selfTest s

/-! ## The scan (R170) -/

/-- R170: the higher of two blocks by sequence number; of two equal numbers the first found stands. -/
def higherBlock (hs : Vector BlockHeader 16) (best : Option (Fin 16)) (b : Fin 16) : Option (Fin 16) :=
  match hs[b].sequence with
  | none => best
  | some n =>
    match best with
    | none => some b
    | some k => if hs[k].sequence.getD 0 < n then some b else some k

/-- The sixteen block or page numbers in order. -/
def allNumbers : List (Fin 16) := [0, 1, 2, 3, 4, 5, 6, 7, 8, 9, 10, 11, 12, 13, 14, 15]

/-- R170: the block with the highest sequence number, if any block has one. -/
def highestBlock (hs : Vector BlockHeader 16) : Option (Fin 16) := allNumbers.foldl (higherBlock hs) none

/-- R170: the first page of a block with program count 0. -/
def freshPage (h : BlockHeader) : Option (Fin 16) := allNumbers.find? (fun p => decide (h.counts[p] = 0))

/-- R170: the block table as the scan rebuilds it. -/
def scanTable (hs : Vector BlockHeader 16) : Vector BlockEntry 16 :=
  hs.map (fun h => { sequence := h.sequence, isProtected := h.isProtected, retired := h.retired })

/-- R170: the log store's scan: the block table, next sequence and the write position. The log store stands in IDLE
where a page was found, and otherwise in ERASING or FULL. -/
def scanLog (g : LogSystem) : LogSystem :=
  let best := highestBlock g.headers
  let next := match best with
    | none => 0
    | some b => g.headers[b].sequence.getD 0 + 1
  let h :=
    { g with store :=
        { g.store with table := scanTable g.headers, buffer := [], programmed := 0, nextSequence := next } }
  let search (b : Fin 16) : LogSystem :=
    match nextUsable h.store b with
    | none => enterFull h
    | some k => startErase k h
  match best with
  | none => search 15
  | some b =>
    match freshPage g.headers[b] with
    | none => search b
    | some p =>
      if h.store.table[b].usable then { h with store := { h.store with state := .idle, position := some (b, p) } }
      else search b

/-! ## The notice of OPERATING (R180) -/

/-- R170: the log store takes waiting records where the scan has left it IDLE. -/
def startLog (s : State) : State :=
  let t := { s with log := scanLog s.log }
  if t.log.store.state = .idle then idleLog false t else t

/-- R155: each owner reports the members of the fault summary it then holds, in the order of the member codes, which the
manual leaves open (DESIGN CHOICE, log 8). -/
def reportMembers (s : State) : State :=
  let a := reportFault .channelFault s.channelFault s
  let b := reportFault .flowLost (decide (s.flow.status = .lost)) a
  let c := reportFault .noFlow (s.valves.valves.any Valve.noFlow) b
  let d := reportFault .leak (s.valves.valves.any Valve.leak) c
  let e := reportFault .degraded s.line.degraded d
  let f := reportFault .listenOnly (decide (s.line.state = .listenOnly)) e
  let g := reportFault .stuck (decide (s.line.state = .stuck)) f
  let h := reportFault .logFull (decide (s.log.store.state = .full)) g
  reportFault .logDegraded (decide (4 ≤ s.log.store.retiredCount)) h

/-- R156: the siren unit takes the notice of OPERATING. -/
def startRelay (s : State) : State :=
  if s.sirens.summary.isEmpty then
    post .fault 0 11 0 (flagRelay true) { s with sirens := { s.sirens with relay := true } }
  else s

/-- R121: the key state is judged. -/
def startKey (s : State) : State := if s.level .k1 then setKey .spent none s else s

/-- R135: a configured door takes its start state. -/
def startDoor (d : Fin 2) (s : State) : State :=
  let zs := s.doorZones d
  if zs = [] then s
  else
    setDoor d (if s.level (dcInput d) then .armed else .held) 0
      { s with doors := s.doors.set d { s.doors.get d with views := clearViews zs } }

/-- R93, R109: the conditions as the other blocks report them at OPERATING. -/
def startConditions (s : State) : Conditions :=
  { glow := s.glowing, channelFault := s.channelFault, flowLost := decide (s.flow.status = .lost)
    originSilent := s.originSilent, noFlow := s.valves.valves.any Valve.noFlow
    leak := s.valves.valves.any Valve.leak, missed := s.valves.valves.any (fun v => v.missHold.isSome)
    waterLow := s.waterGrade, lineDegraded := s.line.degraded }

/-- R109: the zone unit takes up its work: conditions, DEGRADED, the momentary vote and every tracked zone. The manual
leaves the order of the zones open, on which a siren in HOLD depends (R157); here the home zone comes first where the own
vote has changed, and then the zones in table order (DESIGN CHOICE, log 44). -/
def startZoneUnit (s : State) : State :=
  recountAllZones
    (recountOwn
      { s with zones := { s.zones with conditions := startConditions s, degraded := s.line.degraded } })

/-- R73: the line interface places a PRESENCE and sets the presence deadline. -/
def startPresence (s : State) : State :=
  placePresence { s with line := { s.line with presenceDeadline := some (later s.time s.cfg.presencePeriod) } }

/-- R180: the scan has completed: start-up becomes OPERATING, and every block takes up its work, in an order the
manual leaves open (DESIGN CHOICE, log 8), but that the line interface places its PRESENCE before it takes a VOTE from
the zone unit (R85). -/
def becomeOperating (s : State) : State :=
  let t := { s with startup := { s.startup with state := .operating, stage := none } }
  startZoneUnit (startPresence (startDoor 1 (startDoor 0 (startKey (startRelay (reportMembers (startLog t)))))))

/-! ## Meanings -/

/-- RESETTING_END (R173, R174). -/
def execResettingEnd (station : BitVec 5) (rate : BitVec 2) (s : State) : Host.Outcome State Fault Refusal :=
  .next (if s.startup.state = .resetting then beginStart station.toNat rate.toNat s else s)

/-- IMAGE_READ_END (R175 to R177). -/
def execImageReadEnd (s : State) : Host.Outcome State Fault Refusal :=
  .next (if s.startup.stage = some .image then releaseConfig (judgeImage s) else s)

/-- MEMORY_ANSWER_TIMEOUT (R175, R188). -/
def execMemoryAnswerTimeout (s : State) : Host.Outcome State Fault Refusal :=
  .next
    (if due s.time s.startup.memoryDeadline then
      if s.startup.stage = some .image then
        releaseConfig
          (failStart .configBad { s with startup := { s.startup with memoryDeadline := none } })
      else configUnanswered s
    else s)

/-- OUTPUT_READBACK (R178, R179). -/
def execOutputReadback (storeGood : Bool) (sense : BitVec 11) (s : State) : Host.Outcome State Fault Refusal :=
  .next
    (if s.startup.stage = some .selfTest ∧ s.startup.echoDeadline = none then
      if storeGood ∧ sense = 0 then beginEcho s else failStart .selfTest s
    else s)

/-- ECHO_DEADLINE_EXPIRY (R179). -/
def execEchoDeadlineExpiry (s : State) : Host.Outcome State Fault Refusal :=
  .next (if due s.time s.startup.echoDeadline then expireEcho s else s)

/-- LOG_SCAN_COMPLETE (R170, R180). -/
def execLogScanComplete (s : State) : Host.Outcome State Fault Refusal :=
  .next (if s.startup.stage = some .scan then becomeOperating s else s)

end Sys2Proof.Machine
end

