-- ==== Sys2Proof/Machine/Clock.lean ====
section
/-! DEFINITION. What the node's own deadlines and counts bring, and the passing of one millisecond (R1, R65;
DESIGN CHOICE, log 1). -/

namespace Sys2Proof.Machine

/-! ## The expiries that are due (log 1) -/

/-- The command that a change of the debounced level of an input is. -/
def contactCommand (i : Input) (active : Bool) : Instr :=
  match i with
  | .fh0 => .fhChange 0 active
  | .fh1 => .fhChange 1 active
  | .fs0 => .fsChange 0 active
  | .fs1 => .fsChange 1 active
  | .k1 => .k1Change active
  | .k2 => if active then .k2Press else .k2Release
  | .sil => .silChange active
  | .fsc => .confirmInputChange .fsc active
  | .gv => .confirmInputChange .gv active
  | .gn => .confirmInputChange .gn active
  | .dmc => .confirmInputChange .dmc active
  | .dmo => .confirmInputChange .dmo active
  | .dc0 => .dcChange 0 active
  | .dc1 => .dcChange 1 active
  | .cc0 => .ccChange 0 active
  | .cc1 => .ccChange 1 active

/-- R2: the changes of debounced level whose debounce period is over. -/
def dueContacts (s : State) : List (Bool × Instr) :=
  allInputs.map (fun i =>
    (due s.time s.inputs.deadline[inputIndex i] && (s.level i != s.rawLevel i), contactCommand i (s.rawLevel i)))

/-- The expiries of the spark channels, the flow unit, the valves and the key sequence. -/
def dueField (s : State) : List (Bool × Instr) :=
  [ (glowDue 0 s, .glowDeadlineExpiry 0), (glowDue 1 s, .glowDeadlineExpiry 1),
    (glowDue 2 s, .glowDeadlineExpiry 2), (glowDue 3 s, .glowDeadlineExpiry 3),
    (holdDue s, .holdDeadlineExpiry),
    (s.operating && openDue 0 s, .openExpiry 0), (s.operating && openDue 1 s, .openExpiry 1),
    (closeDue 0 s, .closeExpiry 0), (closeDue 1 s, .closeExpiry 1),
    (due s.time s.valves.valves.fst.missHold, .missHoldExpiry 0),
    (due s.time s.valves.valves.snd.missHold, .missHoldExpiry 1),
    (due s.time s.valves.valves.fst.flowConfirm, .flowConfirmExpiry 0),
    (due s.time s.valves.valves.snd.flowConfirm, .flowConfirmExpiry 1),
    (due s.time s.valves.valves.fst.leakDeadline, .leakDeadlineExpiry 0),
    (due s.time s.valves.valves.snd.leakDeadline, .leakDeadlineExpiry 1),
    (unlockDue s, .unlockDeadlineExpiry) ]

/-- R66: the quiet count breaks off a partial frame. -/
def brokenOffDue (s : State) : Bool :=
  s.handedOver && s.line.counting && decide (s.line.receiver ≠ .hunting) && decide (12 ≤ s.line.quiet)

/-- R188: the configuration memory has not answered a request of the service port in its 50 ms. At stage IMAGE the
time-out comes as a command (log 7). -/
def memoryDue (s : State) : Bool :=
  due s.time s.startup.memoryDeadline &&
    match s.service.port with
    | .executing _ _ .configMemory => true
    | _ => false

/-- R79, R80: the quiet count has reached 142 with a stuck watch set or the line STUCK. -/
def stuckExitDue (s : State) : Bool :=
  s.handedOver && s.line.counting && decide (142 ≤ s.line.quiet)
    && (s.line.stuckWatch.isSome || decide (s.line.state = .stuck))

/-- R74: the quiet count has reached the gap of the head frame. -/
def gapDue (s : State) : Bool := mayHold s.line && gapReached s.station s.line

/-- The arrivals that the quiet count, the bit clock and the deadlines of the line interface bring. -/
def dueLine (s : State) : List (Bool × Instr) :=
  [ (brokenOffDue s, .frameBrokenOff),
    (stuckExitDue s, .stuckExit),
    (gapDue s, .gapExpiry),
    (s.line.holding.isSome, .frameDriveStart),
    (due s.time s.line.stuckWatch, .stuckWatchExpiry),
    (due s.time s.line.degradedDeadline, .degradedDeadlineExpiry),
    (due s.time s.line.presenceDeadline, .presenceDeadlineExpiry) ]

/-- The numbers of the presence entries. -/
def stationNumbers : List (Fin 32) :=
  [1, 2, 3, 4, 5, 6, 7, 8, 9, 10, 11, 12, 13, 14, 15, 16, 17, 18, 19, 20, 21, 22, 23, 24, 25, 26, 27, 28, 29,
   30, 31]

/-- R88: the silence deadlines. -/
def dueSilences (s : State) : List (Bool × Instr) :=
  stationNumbers.map (fun n =>
    (due s.time s.peers[n].silence && decide (s.peers[n].state = .live), .silenceDeadlineExpiry n))

/-- R101: the fire-pending deadlines, in table order. -/
def dueZones (s : State) : List (Bool × Instr) :=
  s.zones.zones.map (fun z => (s.operating && due s.time z.fireDeadline, .firePendingExpiry z.zone))

/-- The expiries of the zone unit, the extraction sequencer, the doors and the sirens. -/
def duePlant (s : State) : List (Bool × Instr) :=
  [ (s.operating && due s.time s.zones.ringDeadline, .ringDeadlineExpiry),
    (agingDue s, .haltedAtAged),
    (s.operating && due s.time s.sequencer.stepTimer, .stepTimerExpiry),
    (s.operating && due s.time s.doors.fst.clearDeadline, .clearDeadlineExpiry 0),
    (s.operating && due s.time s.doors.snd.clearDeadline, .clearDeadlineExpiry 1),
    (s.operating && due s.time s.doors.fst.travelDeadline, .travelDeadlineExpiry 0),
    (s.operating && due s.time s.doors.snd.travelDeadline, .travelDeadlineExpiry 1),
    (s.operating && due s.time s.sirens.sirens.fst.phaseDeadline, .phaseDeadlineExpiry 0),
    (s.operating && due s.time s.sirens.sirens.snd.phaseDeadline, .phaseDeadlineExpiry 1),
    (s.operating && due s.time s.sirens.sirens.fst.cycleDeadline, .cycleDeadlineExpiry 0),
    (s.operating && due s.time s.sirens.sirens.snd.cycleDeadline, .cycleDeadlineExpiry 1),
    (s.operating && due s.time s.sirens.sirens.fst.resoundDeadline, .resoundDeadlineExpiry 0),
    (s.operating && due s.time s.sirens.sirens.snd.resoundDeadline, .resoundDeadlineExpiry 1) ]

/-- The first arrival that the node's own deadlines and counts bring now, in a fixed order (DESIGN CHOICE, log 1). -/
def dueCommand (s : State) : Option Instr :=
  (((memoryDue s, Instr.memoryAnswerTimeout) :: (due s.time s.startup.echoDeadline, Instr.echoDeadlineExpiry)
      :: (dueContacts s ++ dueField s ++ dueLine s ++ dueSilences s ++ dueZones s ++ duePlant s)).find?
    (fun x => x.1)).map (fun x => x.2)

/-! ## One millisecond (R1, R65) -/

/-- R185: the 20 ms of K1's raw level, absent once they are over. -/
def passHold (now : Instant) (hold : Option Instant) : Option Instant := if due now hold then none else hold

/-- R65, R79: the quiet count a millisecond later, with what it brings to the stuck watch: the microseconds of a bit time
that has begun count on. -/
def countOn (rate : Nat) (l : Line) : Line :=
  { setQuiet (l.quiet + (l.quietPart + 1000) / bitTime rate) l with
    quietPart := (l.quietPart + 1000) % bitTime rate }

/-- R65, R66: the line a millisecond later, at `now`: the quiet count runs at mark, and the bytes driven meanwhile have been
read back. -/
def passLine (now : Instant) (rate : Nat) (l : Line) : Line :=
  if l.counting then countOn rate l else readOwn now rate l

/-- R1, R65: one millisecond passes; in RESETTING the time base is stopped. -/
def passMillisecond (s : State) : State :=
  if s.startup.state = .resetting then s
  else
    { s with
      time := s.time + 1
      inputs := { s.inputs with k1Hold := passHold (s.time + 1) s.inputs.k1Hold }
      line := if s.handedOver then passLine (s.time + 1) s.rate s.line else s.line }

end Sys2Proof.Machine
end

