-- ==== Sys2Proof/Machine/Dispatch.lean ====
section
/-! DEFINITION. The dispatch: one arm per command, in the order of spec/opcode_table.json. -/

namespace Sys2Proof.Machine

def exec (i : Instr) (s : State) : Host.Outcome State Fault Refusal :=
  match i with
  | .resetBegin kind => Sys2Proof.Machine.execResetBegin kind s
  | .resettingEnd station rate => Sys2Proof.Machine.execResettingEnd station rate s
  | .imageReadEnd => Sys2Proof.Machine.execImageReadEnd s
  | .memoryAnswerTimeout => Sys2Proof.Machine.execMemoryAnswerTimeout s
  | .outputReadback storeGood sense => Sys2Proof.Machine.execOutputReadback storeGood sense s
  | .echoDeadlineExpiry => Sys2Proof.Machine.execEchoDeadlineExpiry s
  | .logScanComplete => Sys2Proof.Machine.execLogScanComplete s
  | .rawInputChange n active => Sys2Proof.Machine.execRawInputChange n active s
  | .sample ch x => Sys2Proof.Machine.execSample ch x s
  | .glowDeadlineExpiry ch => Sys2Proof.Machine.execGlowDeadlineExpiry ch s
  | .pressureSample count sensorFault => Sys2Proof.Machine.execPressureSample count sensorFault s
  | .holdDeadlineExpiry => Sys2Proof.Machine.execHoldDeadlineExpiry s
  | .openExpiry v => Sys2Proof.Machine.execOpenExpiry v s
  | .closeExpiry v => Sys2Proof.Machine.execCloseExpiry v s
  | .missHoldExpiry v => Sys2Proof.Machine.execMissHoldExpiry v s
  | .flowConfirmExpiry v => Sys2Proof.Machine.execFlowConfirmExpiry v s
  | .leakDeadlineExpiry v => Sys2Proof.Machine.execLeakDeadlineExpiry v s
  | .waterSample p => Sys2Proof.Machine.execWaterSample p s
  | .fsChange v active => Sys2Proof.Machine.execFsChange v active s
  | .fhChange n active => Sys2Proof.Machine.execFhChange n active s
  | .confirmInputChange n active => Sys2Proof.Machine.execConfirmInputChange n active s
  | .k1Change active => Sys2Proof.Machine.execK1Change active s
  | .k2Press => Sys2Proof.Machine.execK2Press s
  | .unlockDeadlineExpiry => Sys2Proof.Machine.execUnlockDeadlineExpiry s
  | .dcChange d active => Sys2Proof.Machine.execDcChange d active s
  | .ccChange d active => Sys2Proof.Machine.execCcChange d active s
  | .silChange active => Sys2Proof.Machine.execSilChange active s
  | .frameError => Sys2Proof.Machine.execFrameError s
  | .byteError => Sys2Proof.Machine.execByteError s
  | .frameBrokenOff => Sys2Proof.Machine.execFrameBrokenOff s
  | .detectReceived source channel count age span peak => Sys2Proof.Machine.execDetectReceived source channel count age span peak s
  | .voteReceived source zone level reason => Sys2Proof.Machine.execVoteReceived source zone level reason s
  | .presenceReceived source homeZone level reason extraction velocity status => Sys2Proof.Machine.execPresenceReceived source homeZone level reason extraction velocity status s
  | .restartReceived source zone => Sys2Proof.Machine.execRestartReceived source zone s
  | .ownEcho => Sys2Proof.Machine.execOwnEcho s
  | .duplicateStationFrame kind => Sys2Proof.Machine.execDuplicateStationFrame kind s
  | .gapExpiry => Sys2Proof.Machine.execGapExpiry s
  | .frameDriveStart => Sys2Proof.Machine.execFrameDriveStart s
  | .foreignStartBit start => Sys2Proof.Machine.execForeignStartBit start s
  | .collision read => Sys2Proof.Machine.execCollision read s
  | .stuckWatchExpiry => Sys2Proof.Machine.execStuckWatchExpiry s
  | .stuckExit => Sys2Proof.Machine.execStuckExit s
  | .degradedDeadlineExpiry => Sys2Proof.Machine.execDegradedDeadlineExpiry s
  | .presenceDeadlineExpiry => Sys2Proof.Machine.execPresenceDeadlineExpiry s
  | .silenceDeadlineExpiry station => Sys2Proof.Machine.execSilenceDeadlineExpiry station s
  | .ringDeadlineExpiry => Sys2Proof.Machine.execRingDeadlineExpiry s
  | .haltedAtAged => Sys2Proof.Machine.execHaltedAtAged s
  | .firePendingExpiry zone => Sys2Proof.Machine.execFirePendingExpiry zone s
  | .stepTimerExpiry => Sys2Proof.Machine.execStepTimerExpiry s
  | .clearDeadlineExpiry d => Sys2Proof.Machine.execClearDeadlineExpiry d s
  | .travelDeadlineExpiry d => Sys2Proof.Machine.execTravelDeadlineExpiry d s
  | .phaseDeadlineExpiry n => Sys2Proof.Machine.execPhaseDeadlineExpiry n s
  | .cycleDeadlineExpiry n => Sys2Proof.Machine.execCycleDeadlineExpiry n s
  | .resoundDeadlineExpiry n => Sys2Proof.Machine.execResoundDeadlineExpiry n s
  | .pageProgramComplete success => Sys2Proof.Machine.execPageProgramComplete success s
  | .eraseComplete success => Sys2Proof.Machine.execEraseComplete success s
  | .serviceAreaWrite bytes => Sys2Proof.Machine.execServiceAreaWrite bytes s
  | .statusClear => Sys2Proof.Machine.execStatusClear s
  | .nodeStatus part => Sys2Proof.Machine.execNodeStatus part s
  | .readPresence station => Sys2Proof.Machine.execReadPresence station s
  | .readZone zone => Sys2Proof.Machine.execReadZone zone s
  | .readChannel channel => Sys2Proof.Machine.execReadChannel channel s
  | .readValve valve => Sys2Proof.Machine.execReadValve valve s
  | .readLogPosition => Sys2Proof.Machine.execReadLogPosition s
  | .readLog block page record => Sys2Proof.Machine.execReadLog block page record s
  | .flushLog => Sys2Proof.Machine.execFlushLog s
  | .clearProtection block => Sys2Proof.Machine.execClearProtection block s
  | .readConfig offset => Sys2Proof.Machine.execReadConfig offset s
  | .writeConfig offset data => Sys2Proof.Machine.execWriteConfig offset data s
  | .configMemoryAnswer readBack => Sys2Proof.Machine.execConfigMemoryAnswer readBack s
  | .nodeReset confirmation => Sys2Proof.Machine.execNodeReset confirmation s
  | .k2Release => Sys2Proof.Machine.execK2Release s

end Sys2Proof.Machine
end

