-- ==== Sys2Proof/Machine/Step.lean ====
section
/-! DEFINITION. The step: the command at the front of the queue; on an empty queue, the expiry that is due, the end of
the byte on the line, or one millisecond of the time base (DESIGN CHOICE, log 1). -/

namespace Sys2Proof.Machine

/-- What the node does of itself while no command waits. -/
def idle (s : State) : Host.Outcome State Fault Refusal :=
  match dueCommand s with
  | some c => exec c s
  | none => .next (if s.byteEnds then endByte s else passMillisecond s)

/-! ## The step -/

/-- One step: the command at the front of the queue, or, where none waits, what the node does of itself. -/
def step (s : State) : Host.Outcome State Fault Refusal :=
  match s.pending with
  | [] => idle s
  | c :: rest => exec c { s with pending := rest }

/-- The command that a word spells, put at the front of the queue; the table gives no row any bits, so no word
spells one. -/
def State.withFetchWord (s : State) (nbits w : Nat) : State :=
  match decodeTableWord nbits w with
  | none => s
  | some c => { s with pending := c :: s.pending }

end Sys2Proof.Machine
end

