-- ==== Sys2Proof/Safety.lean ====
section
/-! DEFINITION. What counts as a safe state: the laws of the manual that hold between arrivals. -/

namespace Sys2Proof.Machine

/-! ## Start-up -/

/-- Section 10: the stage is present exactly in STARTING, and the echo deadline only at stage SELF_TEST. -/
abbrev StartupLaw (s : State) : Prop :=
  (s.startup.stage.isSome = true ↔ s.startup.state = .starting)
    ∧ (s.startup.echoDeadline.isSome = true → s.startup.stage = some .selfTest)

/-- Introduction, section 6.3: the eleven driven outputs, all de-energized. -/
abbrev AllOff (s : State) : Prop :=
  s.valves.valves.fst.opened = false ∧ s.valves.valves.snd.opened = false
    ∧ s.doors.fst.holder = false ∧ s.doors.snd.holder = false
    ∧ s.sequencer.outputs = ⟨false, false, false, false⟩
    ∧ s.sirens.sirens.fst.output = false ∧ s.sirens.sirens.snd.output = false
    ∧ s.sirens.relay = false

/-- R173, R180, R181: every output is de-energized outside OPERATING. -/
abbrev OutputsOffLaw (s : State) : Prop := StartupLaw s ∧ (s.operating = false → AllOff s)

/-! ## Memories -/

/-- Both non-volatile memories are in canonical form. -/
abbrev MemoryLaw (s : State) : Prop := Memory.wf s.configMemory ∧ Memory.wf s.log.array

/-- R159, R162: the event queue and the page buffer hold at most 32 records, and the programmed mark lies within the
buffer. -/
abbrev LogLaw (s : State) : Prop :=
  s.log.events.queue.length ≤ 32 ∧ s.log.store.buffer.length ≤ 32
    ∧ s.log.store.programmed ≤ s.log.store.buffer.length

/-! ## The outbound queue (R70) -/

/-- R70: a DETECT's count lies between 1 and 15. -/
def OutFrame.countGood : OutFrame → Bool
  | .detect _ n _ _ _ => decide (1 ≤ n) && decide (n ≤ 15)
  | .vote _ _ => true
  | .restart _ => true
  | .presence _ => true

/-- R70: no two queued frames share a slot, and every DETECT of the queue and the two stages has a count of 1 to
15. -/
abbrev SlotLaw (s : State) : Prop :=
  s.line.queue.Pairwise (fun f g => f.sameSlot g = false)
    ∧ (∀ f ∈ s.line.queue, f.countGood = true)
    ∧ (∀ f ∈ s.line.holding, f.countGood = true)
    ∧ (∀ d ∈ s.line.shift, d.frame.countGood = true)

/-- Whether a frame, if it is a RESTART, names a zone. -/
def OutFrame.restartNames (z : Nat) : OutFrame → Bool
  | .restart n => decide (n = z)
  | .detect _ _ _ _ _ => true
  | .vote _ _ => true
  | .presence _ => true

/-- Whether a frame is a RESTART. -/
def OutFrame.isRestart : OutFrame → Bool
  | .restart _ => true
  | .detect _ _ _ _ _ => false
  | .vote _ _ => false
  | .presence _ => false

/-- The frames of the queue and of the two stages. -/
def Line.frames (l : Line) : List OutFrame :=
  l.queue ++ l.holding.toList ++ (l.shift.map DrivenFrame.frame).toList

/-- R72: every RESTART of the queue and the two stages names the home zone; before the hand-over there is none. -/
abbrev RestartLaw (s : State) : Prop :=
  StartupLaw s
    ∧ ((s.startup.state = .resetting ∨ s.startup.stage = some .image) → ∀ f ∈ s.line.frames, f.isRestart = false)
    ∧ ∀ f ∈ s.line.frames, f.restartNames s.cfg.homeZone = true

/-- R73, R85, R181: the presence deadline is absent outside OPERATING, and STARTUP_FAILED holds no frame in the queue or
the holding stage, so it drives none. -/
abbrev FailedLineLaw (s : State) : Prop :=
  StartupLaw s ∧ (s.operating = false → s.line.presenceDeadline = none)
    ∧ (s.startup.state = .failed → s.line.queue = [] ∧ s.line.holding = none)

/-! ## The service port (R184) -/

/-- R184: no command waits at a port that is IDLE with status 0, since it is taken at once. -/
abbrev PortLaw (s : State) : Prop := s.service.port = .idle → s.service.status = 0 → s.service.command = 0

/-! ## Zones (R102) -/

/-- R102: for every tracked zone the view is at least the latched level. -/
abbrev LatchLaw (s : State) : Prop := ∀ z ∈ s.zones.zones, levelCode z.latched ≤ levelCode z.view

/-- Section 5.1: an entry has a silence deadline exactly while it is LIVE. -/
abbrev SilenceLaw (s : State) : Prop :=
  ∀ p ∈ s.peers.toList, p.silence.isSome = true ↔ p.state = .live

/-! ## Doors and feed (R129, R133, R143) -/

/-- R133: each door's holder is energized in HELD, CLEARING and ARMED, and in no other state. -/
abbrev HolderLaw (s : State) : Prop :=
  s.doors.fst.holder = holderLevel s.doors.fst.state ∧ s.doors.snd.holder = holderLevel s.doors.snd.state

/-- R143: a door's demand stands exactly while a feed-hold door is in one of the five standing states. -/
abbrev DemandLaw (s : State) : Prop :=
  s.doors.fst.demand = (s.cfg.doors.fst.feedHold && demandState s.doors.fst.state)
    ∧ s.doors.snd.demand = (s.cfg.doors.snd.feedHold && demandState s.doors.snd.state)
    ∧ s.sequencer.demands = ⟨s.doors.fst.demand, s.doors.snd.demand⟩

/-- R111: the four outputs stand as the table of section 6.2 gives for the sequencer state. -/
abbrev OutputTableLaw (s : State) : Prop :=
  s.sequencer.outputs = seqOutputs s.cfg.roles s.sequencer.state s.sequencer.feedHold

/-- R128, R129: the step timer runs only in the seven steps with a time limit, and the FEED_HOLD flag stands in
RUNNING exactly while FEED is in the role set and a demand stands. -/
abbrev FeedHoldLaw (s : State) : Prop :=
  (s.sequencer.stepTimer.isSome = true → s.sequencer.state ≠ .feedWait)
    ∧ s.sequencer.feedHold
      = (decide (s.sequencer.state = .running) && s.cfg.roles.feed && s.demandStands)

/-- Before OPERATING the sequencer stands HALTED and both doors are OFF (R131, R145). -/
abbrev RestLaw (s : State) : Prop :=
  s.operating = false → s.sequencer.state = .halted ∧ s.doors.fst.state = .off ∧ s.doors.snd.state = .off

/-- R129: the FEED law with all it rests on. -/
abbrev FeedLaw (s : State) : Prop :=
  StartupLaw s ∧ OutputTableLaw s ∧ FeedHoldLaw s ∧ DemandLaw s ∧ RestLaw s

/-! ## Sirens and the relay (R148, R156) -/

/-- R148: a siren's output is energized in STEADY and in the ON phase of PULSE, and in no other case. -/
abbrev Siren.outputLaw (x : Siren) : Prop :=
  x.output
      = (decide (x.sounding = .steady) || (decide (x.sounding = .pulse) && decide (x.phase = some .on)))
    ∧ (x.phaseDeadline.isSome = true → x.sounding = .pulse)

/-- R148, at both sirens. -/
abbrev SirenLaw (s : State) : Prop :=
  s.sirens.sirens.fst.outputLaw ∧ s.sirens.sirens.snd.outputLaw

/-- R156: the fault relay is energized while start-up is OPERATING and the fault summary is empty, and in no other
case. -/
abbrev RelayLaw (s : State) : Prop :=
  StartupLaw s ∧ s.sirens.relay = (s.operating && s.sirens.summary.isEmpty)

/-! ## Flow (R24) -/

/-- R24: the history holds at most eight counts, each that of a good sample. -/
abbrev HistoryLaw (s : State) : Prop := s.flow.history.length ≤ 8 ∧ ∀ c ∈ s.flow.history, c ≤ 4094

/-! ## The configuration set (R176) -/

/-- Section 1: a spark channel's values lie in their ranges, the dark floor at least 8 below the ceiling. -/
abbrev ChannelConfig.inRange (k : ChannelConfig) : Prop :=
  (8 ≤ k.tripOffset ∧ k.tripOffset ≤ 512) ∧ (2 ≤ k.hysteresis ∧ k.hysteresis ≤ 128)
    ∧ (1 ≤ k.qualifyCount ∧ k.qualifyCount ≤ 4) ∧ (6 ≤ k.shift ∧ k.shift ≤ 12)
    ∧ (20 ≤ k.glowLimit ∧ k.glowLimit ≤ 2000) ∧ (64 ≤ k.ceiling ∧ k.ceiling ≤ 1000)
    ∧ k.darkFloor ≤ 63 ∧ k.darkFloor + 8 ≤ k.ceiling

/-- Section 3: a valve's values lie in their ranges. -/
abbrev ValveConfig.inRange (k : ValveConfig) : Prop :=
  k.lead ≤ 500 ∧ (100 ≤ k.sprayHold ∧ k.sprayHold ≤ 5000) ∧ (100 ≤ k.flowConfirm ∧ k.flowConfirm ≤ 3000)
    ∧ (2 ≤ k.floodTime ∧ k.floodTime ≤ 60)

/-- Section 2.2: a watch position's values lie in their ranges. -/
abbrev WatchConfig.inRange (w : WatchConfig) : Prop :=
  w.origin ≤ 31 ∧ (1 ≤ w.length ∧ w.length ≤ 4000) ∧ w.source ≤ 31

/-- Section 7: a door's values lie in their ranges. -/
abbrev DoorConfig.inRange (k : DoorConfig) : Prop :=
  k.zone1 ≤ 15 ∧ k.zone2 ≤ 15 ∧ k.tClear ≤ 60 ∧ (2 ≤ k.tTravel ∧ k.tTravel ≤ 60)

/-- R176: every value of the configuration set lies in the range its chapter gives it. -/
abbrev ConfigSet.inRange (c : ConfigSet) : Prop :=
  (1 ≤ c.homeZone ∧ c.homeZone ≤ 15) ∧ (c.tracked.length = 7 ∧ ∀ z ∈ c.tracked, z ≤ 15)
    ∧ (1 ≤ c.fireQuorum ∧ c.fireQuorum ≤ 3) ∧ (250 ≤ c.presencePeriod ∧ c.presencePeriod ≤ 2000)
    ∧ (c.sampleInterval = 250 ∨ c.sampleInterval = 500 ∨ c.sampleInterval = 1000)
    ∧ (c.debounce = 0 ∨ (5 ≤ c.debounce ∧ c.debounce ≤ 100))
    ∧ (64 ≤ c.kv ∧ c.kv ≤ 512) ∧ (20 ≤ c.vMin ∧ c.vMin ≤ 300) ∧ c.uncertainty ≤ 50 ∧ c.mergeGap ≤ 500
    ∧ c.waterTrip ≤ 1023 ∧ (5 ≤ c.waterHysteresis ∧ c.waterHysteresis ≤ 200) ∧ c.confirmTime ≤ 120
    ∧ (1 ≤ c.window ∧ c.window ≤ 60) ∧ (2 ≤ c.nHalt ∧ c.nHalt ≤ 16) ∧ (1 ≤ c.nFire ∧ c.nFire ≤ 16)
    ∧ (10 ≤ c.clearTime ∧ c.clearTime ≤ 600) ∧ (1 ≤ c.unlockTime ∧ c.unlockTime ≤ 7)
    ∧ (1 ≤ c.tFeed ∧ c.tFeed ≤ 30) ∧ (200 ≤ c.tGate ∧ c.tGate ≤ 5000) ∧ c.runOn ≤ 120
    ∧ (5 ≤ c.tRundown ∧ c.tRundown ≤ 180) ∧ (1 ≤ c.tDamper ∧ c.tDamper ≤ 30)
    ∧ (2 ≤ c.tSpinup ∧ c.tSpinup ≤ 60) ∧ c.resound ≤ 30
    ∧ (∀ ch, (c.channels.get ch).inRange) ∧ (∀ v, (c.valves.get v).inRange)
    ∧ (c.watch.length = 8 ∧ ∀ w ∈ c.watch, w.inRange) ∧ (∀ d, (c.doors.get d).inRange)
    ∧ (∀ i, (c.sirens.get i).zones.getLsbD 0 = false)

/-! ## Frames

A frame says that a state differs from another at most in the parts it names. -/

/-- `u` with what the posting of events can change taken from `t`: the event queue, the page buffer and the log
store's state, a flush that waits, and the program counts of the headers. -/
def State.withLogOf (u t : State) : State :=
  { u with log :=
      { events := t.log.events
        store :=
          { u.log.store with
            state := t.log.store.state, buffer := t.log.store.buffer, flushPending := t.log.store.flushPending }
        headers := Vector.zipWith (fun h g => { h with counts := g.counts }) u.log.headers t.log.headers
        array := u.log.array } }

/-- `u` with what a fault report can change taken from `t`: the log, the fault summary and the relay. -/
def State.withFaultsOf (u t : State) : State :=
  { u.withLogOf t with sirens := { u.sirens with summary := t.sirens.summary, relay := t.sirens.relay } }

/-- `u` with what a change of vote or view can reach taken from `t`: the log, the outbound queue and the holding
stage, the zone unit, the sequencer, the doors and the sirens. -/
def State.withZonesOf (u t : State) : State :=
  { u.withLogOf t with
    line := { u.line with queue := t.line.queue, holding := t.line.holding }
    zones := t.zones, sequencer := t.sequencer, doors := t.doors, sirens := t.sirens }

/-- R172: what a reset may change of the log array. A program that it cuts off leaves every byte outside its records,
every other block's header and, in its own, all but the protected mark, which it can only set, and sets only for a FIRE
record. An erase that it cuts off leaves every byte outside its block, every other block's header and, in its own, all
but the program counts, each of which stands or falls to 0. Where nothing is cut off, the array stands. -/
abbrev ArrayCutOff (s t : State) : Prop :=
  (∀ b p, s.log.store.state = .programming → s.log.store.position = some (b, p) →
      (∀ a : Nat, (a < pageAddress b p + 16 * s.log.store.programmed
            ∨ pageAddress b p + 16 * s.log.store.programmed + 16 * s.log.store.unprogrammed.length ≤ a) →
          Memory.read t.log.array a = Memory.read s.log.array a)
        ∧ (∀ k : Fin 16, k ≠ b → t.log.headers[k] = s.log.headers[k])
        ∧ t.log.headers[b] = { s.log.headers[b] with isProtected := t.log.headers[b].isProtected }
        ∧ (s.log.headers[b].isProtected = true → t.log.headers[b].isProtected = true)
        ∧ (s.log.store.unprogrammed.any (fun r => decide (r.context = .fire)) = false →
            t.log.headers = s.log.headers))
    ∧ (∀ b p, s.log.store.state = .erasing → s.log.store.position = some (b, p) →
        (∀ a : Nat, (a < pageAddress b 0 ∨ pageAddress b 0 + 8192 ≤ a) →
            Memory.read t.log.array a = Memory.read s.log.array a)
          ∧ (∀ k : Fin 16, k ≠ b → t.log.headers[k] = s.log.headers[k])
          ∧ t.log.headers[b] = { s.log.headers[b] with counts := t.log.headers[b].counts }
          ∧ ∀ q : Fin 16, t.log.headers[b].counts[q] = s.log.headers[b].counts[q]
              ∨ t.log.headers[b].counts[q] = 0)
    ∧ ((s.log.store.position = none ∨ s.log.store.state ≠ .programming ∧ s.log.store.state ≠ .erasing) →
        t.log.headers = s.log.headers ∧ t.log.array = s.log.array)

/-- R173, R188: what a reset may change of the configuration memory: the four bytes of a WRITE_CONFIG that it cuts off.
Where none is cut off, the memory stands. -/
abbrev ConfigCutOff (s t : State) : Prop :=
  (∀ params, s.service.port = .executing 0x0B params .configMemory →
      ∀ a : Nat, (a < paramOffset params ∨ paramOffset params + 4 ≤ a) →
        Memory.read t.configMemory a = Memory.read s.configMemory a)
    ∧ ((∀ params, s.service.port ≠ .executing 0x0B params .configMemory) → t.configMemory = s.configMemory)

/-! ## Zone records (R98 to R100) -/

/-- R98: the number of a zone's voters whose level has at least the code `l`: the LIVE entries that name the zone, the
SILENT ones that name it with HALT or FIRE, and at the home zone the node itself. -/
def State.votersFrom (s : State) (z l : Nat) : Nat :=
  s.peers.toList.countP
      (fun p =>
        decide (p.homeZone = some z)
          && p.vote.any (fun v =>
            decide (l ≤ levelCode v.level)
              && (decide (p.state = .live) || decide (p.state = .silent) && decide (2 ≤ levelCode v.level))))
    + (if z = s.cfg.homeZone ∧ l ≤ levelCode s.zones.own.level then 1 else 0)

/-- R98 to R100, R102: a zone's record holds the counts, the members, the effective quorum and the vote level that the
state gives, and a view no lower than the vote level; `confirmed` says that the confirm path stands confirmed. -/
abbrev Zone.countedIn (s : State) (z : Nat) (confirmed : Bool) (u : Zone) : Prop :=
  u.nWatch = s.votersFrom z 1 ∧ u.nHalt = s.votersFrom z 2 ∧ u.nFire = s.votersFrom z 3
    ∧ u.members
      = s.peers.toList.countP (fun p => decide (p.state = .live) && decide (p.homeZone = some z))
        + (if z = s.cfg.homeZone then 1 else 0)
    ∧ u.quorum = (if s.zones.degraded = true then 1 else max 1 (min s.cfg.fireQuorum u.members))
    ∧ u.voteLevel
      = (if u.quorum ≤ u.nFire ∨ (1 ≤ u.nFire ∧ confirmed = true)
            ∨ (z = s.cfg.homeZone ∧ s.zones.own.level = .fire) then .fire
          else if 1 ≤ u.nHalt then .halt
          else if 1 ≤ u.nWatch then .watch
          else .clear)
    ∧ levelCode u.voteLevel ≤ levelCode u.view

/-! ## Records and frames that wait -/

/-- R161: the records taken and not yet programmed away with their page, and behind them those that wait. -/
def State.account (s : State) : List Record := s.log.store.buffer ++ s.log.events.queue

/-- R158, R159: the records `rs` have been posted on the way from `s` to `t`: where none has been lost and the queue
has room, they end the account. -/
abbrev Posts (rs : List Record) (s t : State) : Prop :=
  s.log.events.lost = 0 → s.log.events.queue.length + rs.length ≤ 32 → t.account = s.account ++ rs

/-- R158, R162: the record `r` is the first posted on the way from `s` to `t`: where the log store is IDLE with room and
nothing waits, it follows the records of the page buffer. -/
abbrev PostsFirst (r : Record) (s t : State) : Prop :=
  s.log.store.state = .idle → s.log.events.queue = [] → s.log.events.lost = 0 → s.log.store.buffer.length < 32 →
    t.log.store.buffer[s.log.store.buffer.length]? = some r

/-- R66: bytes taken so far that are a partial frame: the sync alone, or from the kind byte on fewer than its kind's
frame has. -/
abbrev Unfinished (bytes : List Byte) : Prop :=
  bytes = [0x5B]
    ∨ 2 ≤ bytes.length
      ∧ (bytes.getD 1 0 = 0x11 ∧ bytes.length < 13 ∨ bytes.getD 1 0 = 0x22 ∧ bytes.length < 8
          ∨ bytes.getD 1 0 = 0x23 ∧ bytes.length < 7 ∨ bytes.getD 1 0 = 0x34 ∧ bytes.length < 12)

/-- R78: the frame that a returning frame and the queued one of its slot become. -/
def OutFrame.mergedWith (queued : OutFrame) : OutFrame → OutFrame
  | .detect c n first last p =>
    match queued with
    | .detect _ m first' last' p' =>
      .detect c (min (n + m) 15) (if before first' first = true then first' else first)
        (if before last last' = true then last' else last) (max p p')
    | .vote _ _ => queued
    | .restart _ => queued
    | .presence _ => queued
  | .vote _ _ => queued
  | .restart _ => queued
  | .presence _ => queued

/-- R70, R78: a queue in class order after the return of the frame of a stage, if it holds one: at the head of its class,
merged with the queued frame of its slot. -/
def stageReturned (stage : Option OutFrame) (q : List OutFrame) : List OutFrame :=
  match stage with
  | none => q
  | some f =>
    q.filter (fun g => decide (g.cls < f.cls))
      ++ ((q.find? (fun g => f.sameSlot g)).map (fun g => OutFrame.mergedWith g f)).getD f
        :: q.filter (fun g => decide (f.cls ≤ g.cls) && !f.sameSlot g)

/-- R70, R74: a frame stands in the outbound queue or in the holding stage. -/
def Line.waits (l : Line) (f : OutFrame) : Bool := decide (f ∈ l.queue) || decide (l.holding = some f)

/-- The predicted window of one entry for one valve, opened at once where its time has come (R36 to R38). -/
def predictedWindow (s : State) (v : Fin 2) (e : WatchEntry) (start : Instant) (age span : Half)
    (velocity origin : Nat) (substituted : Bool) : Window :=
  { openAt :=
      if before s.time
          (openInstant (start - age.setWidth 32) (earlyBound (transitTime e.length velocity) s.cfg.uncertainty)
            (s.cfg.valves.get v).lead) = true then
        openInstant (start - age.setWidth 32) (earlyBound (transitTime e.length velocity) s.cfg.uncertainty)
          (s.cfg.valves.get v).lead
      else s.time
    closeAt :=
      closeInstant (start - age.setWidth 32 + span.setWidth 32)
        (lateBound (transitTime e.length velocity) s.cfg.uncertainty) (s.cfg.valves.get v).sprayHold
    kind := .predicted, merged := 1, origin := origin, substituted := substituted, begun := false }

/-! ## The quiet count (R66, R80) -/

/-- Whether a command is the end of a frame, or of a byte with an error, of another station. -/
def frameArrival : Instr → Bool
  | .frameError | .byteError | .detectReceived _ _ _ _ _ _ | .voteReceived _ _ _ _ | .presenceReceived _ _ _ _ _ _ _
  | .restartReceived _ _ | .duplicateStationFrame _ => true
  | .resetBegin _ | .resettingEnd _ _ | .imageReadEnd | .memoryAnswerTimeout | .outputReadback _ _
  | .echoDeadlineExpiry | .logScanComplete | .rawInputChange _ _ | .sample _ _ | .glowDeadlineExpiry _
  | .pressureSample _ _ | .holdDeadlineExpiry | .openExpiry _ | .closeExpiry _ | .missHoldExpiry _
  | .flowConfirmExpiry _ | .leakDeadlineExpiry _ | .waterSample _ | .fsChange _ _ | .fhChange _ _
  | .confirmInputChange _ _ | .k1Change _ | .k2Press | .unlockDeadlineExpiry | .dcChange _ _ | .ccChange _ _
  | .silChange _ | .frameBrokenOff | .ownEcho | .gapExpiry | .frameDriveStart | .foreignStartBit _ | .collision _
  | .stuckWatchExpiry | .stuckExit | .degradedDeadlineExpiry | .presenceDeadlineExpiry | .silenceDeadlineExpiry _
  | .ringDeadlineExpiry | .haltedAtAged | .firePendingExpiry _ | .stepTimerExpiry | .clearDeadlineExpiry _
  | .travelDeadlineExpiry _ | .phaseDeadlineExpiry _ | .cycleDeadlineExpiry _ | .resoundDeadlineExpiry _
  | .pageProgramComplete _ | .eraseComplete _ | .serviceAreaWrite _ | .statusClear | .nodeStatus _ | .readPresence _
  | .readZone _ | .readChannel _ | .readValve _ | .readLogPosition | .readLog _ _ _ | .flushLog | .clearProtection _
  | .readConfig _ | .writeConfig _ _ | .configMemoryAnswer _ | .nodeReset _ | .k2Release => false

/-- R66, R80: what the running quiet count has brought has been taken: from 12 on no partial frame stands, and from 142 on
the line is not STUCK. -/
abbrev QuietSettled (s : State) : Prop :=
  s.line.activity = .mark →
    (s.line.quiet < 12 ∨ s.line.receiver = .hunting) ∧ (s.line.quiet < 142 ∨ s.line.state ≠ .stuck)

/-! ## Levels and conditions -/

/-- R6: the trip level at a baseline `b`. -/
abbrev ChannelConfig.tripAt (k : ChannelConfig) (b : Nat) : Nat := b / 64 + k.tripOffset

/-- R6: the re-arm level at a baseline `b`. -/
abbrev ChannelConfig.rearmAt (k : ChannelConfig) (b : Nat) : Nat := max 1 (b / 64 + k.tripOffset - k.hysteresis)

/-- R5: one of the states in which the baseline tracks. -/
abbrev ChannelState.tracks (st : ChannelState) : Prop :=
  st = .settling ∨ st = .armed ∨ st = .faultAmbient ∨ st = .faultDark

/-- R5: one of the states in which the baseline is frozen. -/
abbrev ChannelState.frozen (st : ChannelState) : Prop := st = .pulse ∨ st = .qualified ∨ st = .glow

/-- R183, R184: the port answers, is IDLE and holds status 0, so that a command given is taken. -/
abbrev State.portReady (s : State) : Prop :=
  s.startup.state ≠ .resetting ∧ s.service.port = .idle ∧ s.service.status = 0

/-- R97: the home zone's record is the head of the zone table, and it is the home zone's only record. -/
abbrev HomeFirst (s : State) : Prop :=
  (s.zones.zones.map Zone.zone).head? = some s.cfg.homeZone ∧ (s.zones.zones.map Zone.zone).Nodup

/-- R104: some entry of the ring still lies within the clear time. -/
def State.recentDetection (s : State) : Bool :=
  s.zones.ring.any (fun r => before s.time (later r (s.cfg.clearTime * 1000)))

/-- R185, R193: the port has completed the command taken with a status and a reply of 22 bytes. -/
def Service.completed (v : Service) (params : List Byte) (status : Byte) (reply : List Byte) : Service :=
  { v with
    command := 0, params := params, status := status, port := .idle
    reply := reply.take 22 ++ List.replicate (22 - reply.length) 0 }

end Sys2Proof.Machine
end

