-- ==== Sys2Proof/Certificates/Slice0/Obligations.lean ====
section
/-! DEFINITION. The statements for the provers. A statement about a command says that `exec` answers a next state, what
that state holds, and, as an equation, all in which it may differ from the state before. -/

section
open Sys2Proof Sys2Proof.Machine

/-! ## The machine -/

/-- A step takes the command at the front of the queue and runs it on the state with the queue's rest. -/
def Obligations.StepRunsTheFrontCommand : Prop :=
  ∀ (c : Instr) (rest : List Instr) (s : State), step { s with pending := c :: rest } = exec c { s with pending := rest }

/-- The model's choice (log 1): with no command waiting, a step takes the expiry that is due; where none is due, the byte
on the line ends (R65, R66; logs 12, 20 and 43); where there is none, one millisecond of the time base passes (R1), with the
bit times it brings to the quiet count, whose begun bit time is kept in microseconds (R65; log 12), and to the stuck watch
(R79), or with the bytes that the node drives and reads back in it (R66; log 43), and in RESETTING nothing happens. A byte
that the receiver drops, and one that is not the last of its partial frame, begins the quiet count anew where the line rests
at mark. -/
def Obligations.IdleTakesTheDueExpiryOrOneMillisecond : Prop :=
  (∀ (s : State) (c : Instr), s.pending = [] → dueCommand s = some c → step s = exec c s)
    ∧ (∀ (s : State), s.pending = [] → dueCommand s = none → s.byteEnds = true → step s = .next (endByte s))
    ∧ (∀ (s : State) (data : Byte) (stop : StopBit), s.pending = [] → dueCommand s = none →
        s.line.activity = .byte data stop → s.line.receiver = .hunting →
        step s
          = .next
            { s with
              line :=
                { s.line with
                  quiet := 0, quietPart := 0
                  activity := if stop = .mark ∨ stop = .space then .mark else .busy } })
    ∧ (∀ (s : State) (start : Instant) (bytes : List Byte) (data : Byte) (stop : StopBit), s.pending = [] →
        dueCommand s = none → s.line.activity = .byte data stop → s.line.receiver = .taking start bytes →
        (stop = .mark ∨ stop = .followed) → Unfinished (bytes ++ [data]) →
        step s
          = .next
            { s with
              line :=
                { s.line with
                  quiet := 0, quietPart := 0, activity := if stop = .mark then .mark else .busy
                  receiver := .taking start (bytes ++ [data]) } })
    ∧ (∀ (s : State) (data : Byte), s.pending = [] → dueCommand s = none → s.line.activity = .ownLast data →
        s.line.receiver = .hunting →
        step s = .next { s with line := { s.line with quiet := 0, quietPart := 0, activity := .mark } })
    ∧ (∀ (s : State) (start : Instant) (bytes : List Byte) (data : Byte), s.pending = [] → dueCommand s = none →
        s.line.activity = .ownLast data → s.line.receiver = .taking start bytes → Unfinished (bytes ++ [data]) →
        step s
          = .next
            { s with
              line :=
                { s.line with
                  quiet := 0, quietPart := 0, activity := .mark
                  receiver := .taking start (bytes ++ [data]) } })
    ∧ (∀ (s : State), s.pending = [] → dueCommand s = none → s.byteEnds = false → s.startup.state = .resetting →
        step s = .next s)
    ∧ (∀ (s : State), s.pending = [] → dueCommand s = none → s.byteEnds = false → s.startup.state ≠ .resetting →
        ∃ t, step s = .next t
          ∧ (s.handedOver = true → s.line.activity = .mark →
              t.line.quiet = s.line.quiet + (s.line.quietPart + 1000) / bitTime s.rate
                ∧ t.line.quietPart = (s.line.quietPart + 1000) % bitTime s.rate
                ∧ t.line.stuckWatch = (if 142 ≤ t.line.quiet then none else s.line.stuckWatch)
                ∧ t.line.receiver = s.line.receiver)
          ∧ (s.handedOver = true → s.line.activity = .own → ∀ d ∈ s.line.shift,
              t.line = { s.line with receiver := t.line.receiver }
                ∧ (s.line.receiver = .hunting → t.line.receiver = .hunting)
                ∧ (∀ start bytes, s.line.receiver = .taking start bytes →
                    t.line.receiver
                      = .taking start
                        (d.bytes.take
                          (min (d.bytes.length - 1)
                            (elapsed (s.time + 1) d.drive * 1000 / (10 * bitTime s.rate))))))
          ∧ ((s.handedOver = false
                ∨ s.line.activity ≠ .mark ∧ (s.line.activity ≠ .own ∨ s.line.shift = none)) →
              t.line = s.line)
          ∧ t =
            { s with
              time := s.time + 1
              inputs := { s.inputs with k1Hold := t.inputs.k1Hold }
              line :=
                { s.line with
                  quiet := t.line.quiet, quietPart := t.line.quietPart, stuckWatch := t.line.stuckWatch
                  receiver := t.line.receiver } })

/-- Every command of the table answers a next state, and none changes the queue of the commands that wait. -/
def Obligations.EveryCommandAnswersAndKeepsTheQueue : Prop :=
  ∀ (c : Instr) (s : State), ∃ t, exec c s = .next t ∧ t.pending = s.pending

/-- The values that the manual states for reset (R21, R30, R42, R62, R85, R109, R131, R145, R157, R170, R172, R173,
R190), in the state right after the first reset has begun. That this first reset is a POWER reset is the model's choice
(log 2). -/
def Obligations.ResetHoldsTheStatedValues : Prop :=
  State.reset.startup.state = .resetting ∧ State.reset.startup.cause = .power ∧ State.reset.startup.stage = none
    ∧ State.reset.config = none ∧ AllOff State.reset
    ∧ (∀ ch, State.reset.channels.get ch
        = ⟨.off, none, none, none, none, none, none, none, 0, 0⟩)
    ∧ State.reset.flow = ⟨[], 0, .lost, none⟩ ∧ State.reset.watch = []
    ∧ (∀ v, State.reset.valves.valves.get v = ⟨false, [], false, false, none, none, none, none⟩)
    ∧ State.reset.valves.comparator = none ∧ State.reset.valves.lastWater = none
    ∧ State.reset.line.state = .listening ∧ State.reset.line.degraded = false
    ∧ State.reset.line.queue = [] ∧ State.reset.line.holding = none ∧ State.reset.line.shift = none
    ∧ State.reset.line.receiver = .hunting ∧ State.reset.line.errors = []
    ∧ State.reset.line.stuckWatch = none ∧ State.reset.line.degradedDeadline = none
    ∧ State.reset.line.presenceDeadline = none
    ∧ State.reset.line.errorTally = 0 ∧ State.reset.line.collisionTally = 0
    ∧ State.reset.line.sentTally = 0 ∧ State.reset.line.passedTally = 0
    ∧ (∀ n : Fin 32, State.reset.peers[n] = ⟨.never, none, none, none, none, none, none, none, none⟩)
    ∧ State.reset.zones.conditions = ⟨false, false, false, false, false, false, false, .off, false⟩
    ∧ State.reset.zones.degraded = false
    ∧ State.reset.zones.ring = [] ∧ State.reset.zones.ringDeadline = none ∧ State.reset.zones.haltedAt = none
    ∧ State.reset.zones.momentary = ⟨.clear, .none⟩ ∧ State.reset.zones.own = ⟨.clear, .none⟩
    ∧ State.reset.zones.latched = none ∧ State.reset.zones.zones = []
    ∧ State.reset.sequencer
      = ⟨.halted, some .nodeRestart, none, none, false, false, ⟨false, false⟩, .idle, none,
          ⟨false, false, false, false⟩⟩
    ∧ (∀ d, State.reset.doors.get d = ⟨.off, false, [], none, none, false⟩)
    ∧ (∀ i, State.reset.sirens.sirens.get i = ⟨[], .quiet, false, none, none, none, none, false, none, none⟩)
    ∧ State.reset.sirens.summary.size = 0
    ∧ State.reset.log.events = ⟨[], 0, .keepOldest⟩
    ∧ State.reset.log.store.state = .scanning ∧ State.reset.log.store.position = none
    ∧ State.reset.log.store.buffer = [] ∧ State.reset.log.store.programmed = 0
    ∧ State.reset.log.store.flushPending = false
    ∧ (∀ b : Fin 16, State.reset.log.store.table[b] = ⟨none, false, false⟩)
    ∧ State.reset.service = ⟨0, 0, List.replicate 8 0, List.replicate 22 0, 0, .idle⟩

/-- Every law of the invariants below holds right after reset. -/
def Obligations.LawsHoldAtReset : Prop :=
  MemoryLaw State.reset ∧ OutputsOffLaw State.reset ∧ HolderLaw State.reset ∧ FeedLaw State.reset
    ∧ SirenLaw State.reset ∧ RelayLaw State.reset ∧ SlotLaw State.reset ∧ LatchLaw State.reset
    ∧ LogLaw State.reset ∧ SilenceLaw State.reset ∧ HistoryLaw State.reset ∧ RestartLaw State.reset
    ∧ PortLaw State.reset ∧ FailedLineLaw State.reset

/-! ## Invariants of every step -/

/-- Both non-volatile memories keep their canonical form. -/
def Obligations.StepKeepsMemoriesCanonical : Prop :=
  ∀ s t : State, MemoryLaw s → step s = .next t → MemoryLaw t

/-- R173, R180, R181: every output is de-energized outside OPERATING. -/
def Obligations.StepKeepsOutputsOffOutsideOperating : Prop :=
  ∀ s t : State, OutputsOffLaw s → step s = .next t → OutputsOffLaw t

/-- R133 (section 7.1), first sentence: a holder is energized in HELD, CLEARING and ARMED, and de-energized in the other
states. -/
def Obligations.StepKeepsHoldersWithDoorStates : Prop :=
  ∀ s t : State, HolderLaw s → step s = .next t → HolderLaw t

/-- R111, R129, R143: the four outputs stand as the table of section 6.2 gives, and the FEED permit is de-energized
while a configured feed-hold door stands outside HELD and OFF. -/
def Obligations.StepKeepsTheFeedLaw : Prop :=
  (∀ s t : State, FeedLaw s → step s = .next t → FeedLaw t)
    ∧ (∀ (s : State) (d : Fin 2), FeedLaw s → (s.cfg.doors.get d).feedHold = true →
        (s.doors.get d).state ≠ .held → (s.doors.get d).state ≠ .off → s.sequencer.outputs.feed = false)

/-- R148, last sentence: a siren's output is energized in STEADY and in the ON phase of PULSE, and in no other case. -/
def Obligations.StepKeepsSirenOutputs : Prop :=
  ∀ s t : State, SirenLaw s → step s = .next t → SirenLaw t

/-- R156, first sentence: the relay is energized while start-up is OPERATING and the fault summary is empty. -/
def Obligations.StepKeepsTheRelayLaw : Prop :=
  ∀ s t : State, RelayLaw s → step s = .next t → RelayLaw t

/-- R70: no two queued frames share a slot, every DETECT counts 1 to 15, and the queue holds at most 7 frames. R72: every
RESTART of the queue and the two stages names the home zone. R85, R181: STARTUP_FAILED holds no frame in the queue or the
holding stage, and the presence deadline is absent outside OPERATING. -/
def Obligations.StepKeepsSlotsAndQueueBound : Prop :=
  (∀ s t : State, SlotLaw s → step s = .next t → SlotLaw t)
    ∧ (∀ s : State, SlotLaw s → s.line.queue.length ≤ 7)
    ∧ (∀ s t : State, RestartLaw s → step s = .next t → RestartLaw t)
    ∧ (∀ s t : State, FailedLineLaw s → step s = .next t → FailedLineLaw t)

/-- R102: for every tracked zone the view is at least the latched level. -/
def Obligations.StepKeepsViewsAboveLatches : Prop :=
  ∀ s t : State, LatchLaw s → step s = .next t → LatchLaw t

/-- R159, R162: the event queue and the page buffer hold at most 32 records. -/
def Obligations.StepKeepsLogBounds : Prop :=
  ∀ s t : State, LogLaw s → step s = .next t → LogLaw t

/-- Section 5.1: a presence entry has a silence deadline exactly while it is LIVE. -/
def Obligations.StepKeepsSilenceDeadlinesWithLive : Prop :=
  ∀ s t : State, SilenceLaw s → step s = .next t → SilenceLaw t

/-- Section 2.1: the pressure history holds at most eight counts, each at most 4094. -/
def Obligations.StepKeepsTheHistoryBound : Prop :=
  ∀ s t : State, HistoryLaw s → step s = .next t → HistoryLaw t

/-- R110, R177: the configuration set changes only at IMAGE_READ_END at stage IMAGE and at a reset. -/
def Obligations.StepKeepsTheConfiguration : Prop :=
  ∀ s t : State, step s = .next t →
    t.config = s.config ∨ t.startup.state = .resetting
      ∨ s.startup.stage = some .image ∧ s.pending.head? = some .imageReadEnd

/-! ## Reset and start-up (section 10) -/

/-- R172, R173, R188, R189: RESET_BEGIN, and NODE_RESET with K1 and 0xA5, put every block to its reset and keep the raw
inputs, the waiting commands and both non-volatile memories, but for what a program, an erase or a WRITE_CONFIG that is
cut off may have reached. In RESETTING a further reset changes at most the cause. The model's choices: in RESETTING the
time base stands at 0, the debounced levels are inactive, and the quiet count and the next sequence are 0 (log 4), a
command that is given stores its parameters filled with zeros (log 25), and a reset raises the count of the free values
(log 9). -/
def Obligations.ResetsTakeEveryBlock : Prop :=
  (∀ (kind : ResetKind) (s : State), s.startup.state ≠ .resetting →
      s.log.store.state ≠ .programming → s.log.store.state ≠ .erasing → s.service.port = .idle →
      ∃ t, exec (.resetBegin kind) s = .next t
        ∧ t =
          { State.reset with
            startup := Startup.reset kind
            inputs := { Inputs.reset with raw := s.inputs.raw, k1Hold := t.inputs.k1Hold }
            log := { State.reset.log with headers := s.log.headers, array := s.log.array }
            configMemory := s.configMemory, freeCount := s.freeCount + 1, pending := s.pending })
    ∧ (∀ (kind : ResetKind) (s : State), s.startup.state ≠ .resetting →
        ∃ t, exec (.resetBegin kind) s = .next t ∧ t.startup = Startup.reset kind ∧ AllOff t ∧ t.config = none
          ∧ t.inputs.raw = s.inputs.raw ∧ t.service = Service.reset
          ∧ ArrayCutOff s t ∧ ConfigCutOff s t
          ∧ t =
            { State.reset with
              startup := Startup.reset kind
              inputs := { Inputs.reset with raw := s.inputs.raw, k1Hold := t.inputs.k1Hold }
              log := { State.reset.log with headers := t.log.headers, array := t.log.array }
              configMemory := t.configMemory, freeCount := s.freeCount + 1, pending := s.pending })
    ∧ (∀ (s : State), s.startup.state = .resetting →
        exec (.resetBegin .power) s = .next { s with startup := { s.startup with cause := .power } }
          ∧ exec (.resetBegin .pin) s = .next s ∧ exec (.resetBegin .service) s = .next s)
    ∧ (∀ (s : State), s.portReady → s.portKey = true →
        ∃ t, exec (.nodeReset 0xA5) s = .next t ∧ t.startup = Startup.reset .service ∧ AllOff t ∧ t.config = none
          ∧ t.inputs.raw = s.inputs.raw ∧ t.service = Service.reset ∧ t.pending = s.pending
          ∧ ArrayCutOff s t
          ∧ t =
            { State.reset with
              startup := Startup.reset .service
              inputs := { Inputs.reset with raw := s.inputs.raw, k1Hold := t.inputs.k1Hold }
              log := { State.reset.log with headers := t.log.headers, array := t.log.array }
              configMemory := s.configMemory, freeCount := s.freeCount + 1, pending := s.pending })
    ∧ (∀ (b : Byte) (s : State), s.portReady → s.portKey = true → b ≠ 0xA5 →
        exec (.nodeReset b) s
          = .next { s with service := s.service.completed [b, 0, 0, 0, 0, 0, 0, 0] statusBadParam [] })
    ∧ (∀ (b : Byte) (s : State), s.portReady → s.portKey = false →
        exec (.nodeReset b) s
          = .next { s with service := s.service.completed [b, 0, 0, 0, 0, 0, 0, 0] statusKeyRequired [] })

/-- R173, R174: at RESETTING_END the time base starts at 0, the switches are read, the RESET event is posted, and the
stage becomes IMAGE, or start-up fails where the station number is 0. -/
def Obligations.ResettingEndReadsTheSwitches : Prop :=
  (∀ (station : BitVec 5) (rate : BitVec 2) (s : State), s.startup.state = .resetting →
      s.log.store.state = .scanning → s.log.events.queue.length < 32 → s.zones.zones = [] → station ≠ 0 →
      exec (.resettingEnd station rate) s
        = .next
          { s with
            time := 0
            startup :=
              { s.startup with
                state := .starting, stage := some .image, station := some station.toNat
                rate := some rate.toNat, warnings := some 0, memoryDeadline := some 50 }
            log :=
              { s.log with
                events :=
                  { s.log.events with queue := s.log.events.queue ++
                      [⟨0, .reset, 0, .clear, station.toNat, 0, resetCode s.startup.cause,
                        rate.toNat * 256 + station.toNat⟩] } } })
    ∧ (∀ (rate : BitVec 2) (s : State), s.startup.state = .resetting →
        s.log.store.state = .scanning → s.log.events.queue.length < 32 → s.zones.zones = [] →
        exec (.resettingEnd 0 rate) s
          = .next
            { s with
              time := 0
              startup :=
                { s.startup with
                  state := .failed, stage := none, failure := some .noStation, station := some 0
                  rate := some rate.toNat, warnings := some 0, echoDeadline := none, frameHeard := none }
              line := { s.line with queue := [], holding := none }
              log :=
                { s.log with
                  events :=
                    { s.log.events with queue := s.log.events.queue ++
                        [⟨0, .reset, 0, .clear, 0, 0, resetCode s.startup.cause, rate.toNat * 256⟩] } } })

/-- R175 to R177: IMAGE_READ_END with an image that R175 refuses fails start-up for CONFIG_BAD; with an accepted one
every block takes its values. MEMORY_ANSWER_TIMEOUT at stage IMAGE fails start-up, and at a READ_CONFIG gives the
result code MEMORY_FAILED (R188). -/
def Obligations.ImageIsJudgedAndHandedOver : Prop :=
  (∀ (s : State), s.startup.stage = some .image → s.service.port = .idle →
      imageAccepted (Memory.readBytes s.configMemory 0 512) = false →
      exec .imageReadEnd s
        = .next
          { s with
            startup :=
              { s.startup with
                state := .failed, stage := none, failure := some .configBad
                version := some (Memory.read s.configMemory 0).toNat
                memoryDeadline := none, echoDeadline := none, frameHeard := none }
            line := { s.line with queue := [], holding := none } })
    ∧ (∀ (s : State), s.startup.stage = some .image → s.service.port = .idle →
        imageAccepted (Memory.readBytes s.configMemory 0 512) = true →
        ∃ t, exec .imageReadEnd s = .next t
          ∧ t.config = some (readConfigSet (Memory.readBytes s.configMemory 0 512)).value
          ∧ t.startup.state = s.startup.state ∧ t.startup.stage = some .selfTest
          ∧ t.startup.version = some 1 ∧ t.startup.memoryDeadline = none
          ∧ t.inputs = { s.inputs with level := s.inputs.raw, deadline := Vector.replicate 16 none }
          ∧ (∀ ch, (t.channels.get ch).state
              = if (t.cfg.channels.get ch).enabled = true then .settling else .off)
          ∧ (∀ ch, (t.channels.get ch).baseline = none)
          ∧ (∀ v, (t.valves.valves.get v).opened = false ∧ (t.valves.valves.get v).windows = []
              ∧ (t.valves.valves.get v).leakDeadline
                = if s.rawLevel (fsInput v) = true then some (later s.time (t.cfg.valves.get v).flowConfirm)
                  else none)
          ∧ t.valves.comparator = some .normal ∧ t.zones.zones.head?.map Zone.zone = some t.cfg.homeZone
          ∧ (∀ z ∈ t.zones.zones, z.view = .clear ∧ z.latched = .clear) ∧ t.zones.zones.length ≤ 8
          ∧ (∀ e ∈ t.watch, 1 ≤ e.origin ∧ e.source ≠ s.station ∨ 1 ≤ e.origin ∧ e.source = 0)
          ∧ t.log.events.mode = t.cfg.overflowMode
          ∧ t =
            ({ s with
              startup := t.startup, config := t.config, inputs := t.inputs, channels := t.channels
              watch := t.watch, valves := t.valves, zones := { s.zones with zones := t.zones.zones }
              sirens := { s.sirens with sirens := t.sirens.sirens } }).withLogOf t)
    ∧ (∀ (s : State), s.startup.stage = some .image → s.service.port = .idle →
        due s.time s.startup.memoryDeadline = true →
        exec .memoryAnswerTimeout s
          = .next
            { s with
              startup :=
                { s.startup with
                  state := .failed, stage := none, failure := some .configBad
                  memoryDeadline := none, echoDeadline := none, frameHeard := none }
              line := { s.line with queue := [], holding := none } })
    ∧ (∀ (s : State) (params : List Byte), s.startup.stage ≠ some .image →
        s.service.port = .executing 0x0A params .configMemory → due s.time s.startup.memoryDeadline = true →
        exec .memoryAnswerTimeout s
          = .next
            { s with
              startup := { s.startup with memoryDeadline := none }
              service :=
                { s.service with
                  reply := 2 :: List.replicate 21 0, status := statusOk, port := .idle } })

/-- R176: whatever bytes the image holds, every value of the configuration set read from it lies in its range. -/
def Obligations.ConfigurationValuesLieInRange : Prop :=
  ∀ image : List Byte, (readConfigSet image).value.inRange

/-- R178, R179: at stage SELF_TEST a clean OUTPUT_READBACK places a PRESENCE and starts the line-echo test of 1000 ms,
and any other one fails start-up; ECHO_DEADLINE_EXPIRY passes the test where a valid frame has been heard, and fails
it where none has. R179, R181: a frame being driven at the failure is driven to the end of its present byte and no
further (on an empty queue that end comes of itself: log 12); that byte joins the partial frame as those before it (R66;
which one it is, the bit clock tells: log 43), its frame being sent where it is the last, and an echo that arrives then
ends the frame's transmission alone. -/
def Obligations.SelfTestPassesOrFails : Prop :=
  (∀ (s : State), s.startup.stage = some .selfTest → s.startup.echoDeadline = none →
      ∃ t, exec (.outputReadback true 0) s = .next t
        ∧ t.line.waits (.presence (presenceBody s)) = true
        ∧ t =
          { s with
            startup :=
              { s.startup with echoDeadline := some (later s.time 1000), frameHeard := some false }
            line := { s.line with queue := t.line.queue, holding := t.line.holding } })
    ∧ (∀ (good : Bool) (sense : BitVec 11) (s : State), s.startup.stage = some .selfTest →
        s.startup.echoDeadline = none → (good = false ∨ sense ≠ 0) →
        exec (.outputReadback good sense) s
          = .next
            { s with
              startup :=
                { s.startup with
                  state := .failed, stage := none, failure := some .selfTest, frameHeard := none }
              line := { s.line with queue := [], holding := none } })
    ∧ (∀ (s : State), due s.time s.startup.echoDeadline = true → s.startup.frameHeard = some true →
        exec .echoDeadlineExpiry s
          = .next
            { s with
              startup :=
                { s.startup with stage := some .scan, echoDeadline := none, frameHeard := none } })
    ∧ (∀ (s : State), due s.time s.startup.echoDeadline = true → s.startup.frameHeard ≠ some true →
        exec .echoDeadlineExpiry s
          = .next
            { s with
              startup :=
                { s.startup with
                  state := .failed, stage := none, failure := some .selfTest, echoDeadline := none
                  frameHeard := none }
              line := { s.line with queue := [], holding := none } })
    ∧ (∀ (s : State), s.pending = [] → dueCommand s = none → s.startup.state = .failed → s.line.activity = .own →
        (s.line.receiver = .hunting ∨ s.line.shift = none) →
        step s
          = .next { s with line := { s.line with shift := none, quiet := 0, quietPart := 0, activity := .mark } })
    ∧ (∀ (s : State) (d : DrivenFrame) (start : Instant) (bytes : List Byte), s.pending = [] →
        dueCommand s = none → s.startup.state = .failed → s.line.activity = .own → s.line.shift = some d →
        s.line.receiver = .taking start bytes → Unfinished (d.bytes.take (d.readBack s.time s.rate + 1)) →
        step s
          = .next
            { s with
              line :=
                { s.line with
                  shift := none, quiet := 0, quietPart := 0, activity := .mark
                  receiver := .taking start (d.bytes.take (d.readBack s.time s.rate + 1)) } })
    ∧ (∀ (s : State) (f : OutFrame) (drive start : Instant) (bytes : List Byte), s.pending = [] →
        dueCommand s = none → s.startup.state = .failed → s.startup.echoDeadline = none →
        s.line.activity = .own → s.line.shift = some ⟨f, drive, frameBytes s.station drive f⟩ →
        s.line.receiver = .taking start bytes →
        (frameBytes s.station drive f).length ≤ elapsed s.time drive * 1000 / (10 * bitTime s.rate) + 1 →
        step s
          = .next
            { s with
              line :=
                { s.line with
                  shift := none, quiet := 0, quietPart := 0, activity := .mark, receiver := .hunting
                  stuckWatch := none, sentTally := min (s.line.sentTally + 1) 65535 } })
    ∧ (∀ (s : State) (d : DrivenFrame), s.startup.state = .failed → s.startup.echoDeadline = none →
        s.line.shift = some d →
        ∃ t, exec .ownEcho s = .next t
          ∧ t.startup = s.startup ∧ t.line.shift = none ∧ t.line.queue = s.line.queue
          ∧ t.line.sentTally = min (s.line.sentTally + 1) 65535)

/-- R180 with R73, R85, R109, R121, R135, R156 and R170: LOG_SCAN_COMPLETE makes start-up OPERATING, and every block takes
up its work. The PRESENCE that waits carries the own vote as the zone unit holds it after reset (section 4.6), since it
is placed before the zone unit's VOTE is taken (R85). -/
def Obligations.ScanCompleteStartsOperation : Prop :=
  ∀ (s : State), s.startup.stage = some .scan → s.sequencer = Sequencer.reset →
    s.doors = ⟨Door.reset, Door.reset⟩ → s.sirens.summary = FaultSummary.reset → s.sirens.relay = false →
    ∃ t, exec .logScanComplete s = .next t
      ∧ t.startup = { s.startup with state := .operating, stage := none }
      ∧ t.log.store.state ≠ .scanning ∧ t.log.array = s.log.array
      ∧ t.sequencer.state = .halted ∧ t.sequencer.key = (if s.level .k1 = true then .spent else .idle)
      ∧ (∀ d, (t.doors.get d).state = .off ↔ s.doorZones d = [])
      ∧ (t.sirens.relay = true ↔ t.sirens.summary.size = 0)
      ∧ t.zones.conditions = startConditions s
      ∧ t.line.presenceDeadline = some (later s.time s.cfg.presencePeriod)
      ∧ t.line.waits (.presence (presenceBody s)) = true
      ∧ t =
        { s with
          startup := t.startup, zones := t.zones, sequencer := t.sequencer, doors := t.doors, sirens := t.sirens
          log := t.log
          line :=
            { s.line with
              queue := t.line.queue, holding := t.line.holding
              presenceDeadline := t.line.presenceDeadline } }

/-! ## Contact inputs (section 6.4 of the introduction) -/

/-- R2, R177: RAW_INPUT_CHANGE before the hand-over changes the raw level alone; after it, it begins a debounce
period, or ends one where the raw level is back at the debounced level; with a debounce time of 0 the debounced level
follows at once. -/
def Obligations.RawChangesAreDebounced : Prop :=
  (∀ (i : Input) (active : Bool) (s : State), s.rawLevel i ≠ active → s.handedOver = false →
      ∃ t, exec (.rawInputChange i active) s = .next t
        ∧ t =
          { s with
            inputs :=
              { s.inputs with raw := s.inputs.raw.set (inputIndex i) active, k1Hold := t.inputs.k1Hold } })
    ∧ (∀ (i : Input) (active : Bool) (s : State), s.rawLevel i ≠ active → s.handedOver = true →
        s.cfg.debounce ≠ 0 →
        ∃ t, exec (.rawInputChange i active) s = .next t
          ∧ t =
            { s with
              inputs :=
                { s.inputs with
                  raw := s.inputs.raw.set (inputIndex i) active
                  deadline := s.inputs.deadline.set (inputIndex i)
                    (if s.level i = active then none else some (later s.time s.cfg.debounce))
                  k1Hold := t.inputs.k1Hold } })
    ∧ (∀ (i : Input) (active : Bool) (s : State), s.rawLevel i ≠ active → s.handedOver = true →
        s.cfg.debounce = 0 →
        ∃ t, exec (.rawInputChange i active) s = .next t ∧ t.rawLevel i = active ∧ t.level i = active)

/-! ## Spark channels (section 1) -/

/-- R5: the baseline moves toward 64x by the truncated quotient in the states that track, stays frozen in the others,
and stays within 0 to 65,472; R3: a channel in OFF takes no sample. -/
def Obligations.SampleMovesTheBaseline : Prop :=
  (∀ (ch : Fin 4) (x : BitVec 10) (s : State) (b : Nat), (s.channels.get ch).state.tracks →
      (s.channels.get ch).baseline = some b →
      ∃ t, exec (.sample ch x) s = .next t
        ∧ ((t.channels.get ch).baseline.map fun n => (n : Int))
          = some ((b : Int)
            + Int.tdiv (64 * (x.toNat : Int) - b) (2 ^ (s.cfg.channels.get ch).shift))
        ∧ (b ≤ 65472 → (t.channels.get ch).baseline.getD 0 ≤ 65472)
        ∧ (t.channels.get ch).last = some x.toNat
        ∧ t =
          ({ s with
            channels := s.channels.set ch (t.channels.get ch), valves := t.valves }).withZonesOf t)
    ∧ (∀ (ch : Fin 4) (x : BitVec 10) (s : State), (s.channels.get ch).state.frozen →
        ∃ t, exec (.sample ch x) s = .next t
          ∧ (t.channels.get ch).baseline = (s.channels.get ch).baseline
          ∧ (t.channels.get ch).last = some x.toNat
          ∧ t =
            ({ s with
              channels := s.channels.set ch (t.channels.get ch), valves := t.valves }).withZonesOf t)
    ∧ (∀ (ch : Fin 4) (x : BitVec 10) (s : State), (s.channels.get ch).state = .off →
        exec (.sample ch x) s = .next s)

/-- R7, R15 and R17: SETTLING is seeded, counts its samples down to ARMED, and begins no pulse; the fault tests on the
updated baseline count, in table order, take a channel that tracks into a fault state and back to ARMED; and a sample
in a fault state does nothing more. The model's choice: the CHANNEL record of a sample stands before the other records
of the same instant (log 8). -/
def Obligations.SettlingAndFaultTests : Prop :=
  (∀ (ch : Fin 4) (x : BitVec 10) (s : State), (s.channels.get ch).state = .settling →
      (s.channels.get ch).baseline = none →
      exec (.sample ch x) s
        = .next
          { s with
            channels := s.channels.set ch
              { s.channels.get ch with
                baseline := some (64 * x.toNat), settle := some (2 ^ (s.cfg.channels.get ch).shift)
                last := some x.toNat } })
    ∧ (∀ (ch : Fin 4) (x : BitVec 10) (s : State) (b n : Nat), (s.channels.get ch).state = .settling →
        (s.channels.get ch).baseline = some b → (s.channels.get ch).settle = some n → 2 ≤ n →
        (s.cfg.channels.get ch).darkFloor ≤ updateBaseline (s.cfg.channels.get ch).shift x.toNat b / 64 →
        updateBaseline (s.cfg.channels.get ch).shift x.toNat b / 64 ≤ (s.cfg.channels.get ch).ceiling →
        exec (.sample ch x) s
          = .next
            { s with
              channels := s.channels.set ch
                { s.channels.get ch with
                  baseline := some (updateBaseline (s.cfg.channels.get ch).shift x.toNat b)
                  settle := some (n - 1), last := some x.toNat } })
    ∧ (∀ (ch : Fin 4) (x : BitVec 10) (s : State) (b : Nat), (s.channels.get ch).state = .settling →
        (s.channels.get ch).baseline = some b → (s.channels.get ch).settle = some 1 →
        (s.cfg.channels.get ch).darkFloor ≤ updateBaseline (s.cfg.channels.get ch).shift x.toNat b / 64 →
        updateBaseline (s.cfg.channels.get ch).shift x.toNat b / 64 ≤ (s.cfg.channels.get ch).ceiling →
        ∃ t, exec (.sample ch x) s = .next t
          ∧ PostsFirst
            ⟨s.time, .channel, ch.val, s.homeView, s.station, 0, 2,
              updateBaseline (s.cfg.channels.get ch).shift x.toNat b / 64⟩ s t
          ∧ t =
            ({ s with
              channels := s.channels.set ch
                { s.channels.get ch with
                  state := .armed
                  baseline := some (updateBaseline (s.cfg.channels.get ch).shift x.toNat b)
                  settle := none, last := some x.toNat } }).withZonesOf t)
    ∧ (∀ (ch : Fin 4) (x : BitVec 10) (s : State) (b : Nat), (s.channels.get ch).state.tracks →
        (s.channels.get ch).baseline = some b → (s.channels.get ch).state ≠ .faultAmbient →
        (s.cfg.channels.get ch).ceiling < updateBaseline (s.cfg.channels.get ch).shift x.toNat b / 64 →
        ∃ t, exec (.sample ch x) s = .next t
          ∧ PostsFirst
            ⟨s.time, .channel, ch.val, s.homeView, s.station, 0, 6,
              updateBaseline (s.cfg.channels.get ch).shift x.toNat b / 64⟩ s t
          ∧ (s.operating = true → t.zones.conditions.channelFault = true ∧ t.sirens.summary.channelFault = true)
          ∧ t =
            ({ s with
              channels := s.channels.set ch
                { s.channels.get ch with
                  state := .faultAmbient
                  baseline := some (updateBaseline (s.cfg.channels.get ch).shift x.toNat b)
                  settle := none, last := some x.toNat } }).withZonesOf t)
    ∧ (∀ (ch : Fin 4) (x : BitVec 10) (s : State) (b : Nat), (s.channels.get ch).state.tracks →
        (s.channels.get ch).baseline = some b → (s.channels.get ch).state ≠ .faultDark →
        updateBaseline (s.cfg.channels.get ch).shift x.toNat b / 64 ≤ (s.cfg.channels.get ch).ceiling →
        updateBaseline (s.cfg.channels.get ch).shift x.toNat b / 64 < (s.cfg.channels.get ch).darkFloor →
        ∃ t, exec (.sample ch x) s = .next t
          ∧ PostsFirst
            ⟨s.time, .channel, ch.val, s.homeView, s.station, 0, 7,
              updateBaseline (s.cfg.channels.get ch).shift x.toNat b / 64⟩ s t
          ∧ (s.operating = true → t.zones.conditions.channelFault = true ∧ t.sirens.summary.channelFault = true)
          ∧ t =
            ({ s with
              channels := s.channels.set ch
                { s.channels.get ch with
                  state := .faultDark
                  baseline := some (updateBaseline (s.cfg.channels.get ch).shift x.toNat b)
                  settle := none, last := some x.toNat } }).withZonesOf t)
    ∧ (∀ (ch : Fin 4) (x : BitVec 10) (s : State) (b : Nat), (s.channels.get ch).baseline = some b →
        ((s.channels.get ch).state = .faultAmbient
            ∧ (s.cfg.channels.get ch).darkFloor ≤ updateBaseline (s.cfg.channels.get ch).shift x.toNat b / 64
            ∧ updateBaseline (s.cfg.channels.get ch).shift x.toNat b / 64 + 8 ≤ (s.cfg.channels.get ch).ceiling
          ∨ (s.channels.get ch).state = .faultDark
            ∧ (s.cfg.channels.get ch).darkFloor + 8
              ≤ updateBaseline (s.cfg.channels.get ch).shift x.toNat b / 64
            ∧ updateBaseline (s.cfg.channels.get ch).shift x.toNat b / 64
              ≤ (s.cfg.channels.get ch).ceiling) →
        ∃ t, exec (.sample ch x) s = .next t
          ∧ PostsFirst
            ⟨s.time, .channel, ch.val, s.homeView, s.station, 0, 2,
              updateBaseline (s.cfg.channels.get ch).shift x.toNat b / 64⟩ s t
          ∧ (s.operating = true → t.zones.conditions.channelFault = t.channelFault
              ∧ t.sirens.summary.channelFault = t.channelFault)
          ∧ t =
            ({ s with
              channels := s.channels.set ch
                { s.channels.get ch with
                  state := .armed
                  baseline := some (updateBaseline (s.cfg.channels.get ch).shift x.toNat b)
                  settle := none, last := some x.toNat } }).withZonesOf t)
    ∧ (∀ (ch : Fin 4) (x : BitVec 10) (s : State) (b : Nat), (s.channels.get ch).baseline = some b →
        ((s.channels.get ch).state = .faultAmbient
            ∧ ((s.cfg.channels.get ch).ceiling < updateBaseline (s.cfg.channels.get ch).shift x.toNat b / 64
              ∨ (s.cfg.channels.get ch).darkFloor ≤ updateBaseline (s.cfg.channels.get ch).shift x.toNat b / 64
                ∧ (s.cfg.channels.get ch).ceiling
                  < updateBaseline (s.cfg.channels.get ch).shift x.toNat b / 64 + 8)
          ∨ (s.channels.get ch).state = .faultDark
            ∧ updateBaseline (s.cfg.channels.get ch).shift x.toNat b / 64 ≤ (s.cfg.channels.get ch).ceiling
            ∧ updateBaseline (s.cfg.channels.get ch).shift x.toNat b / 64
              < (s.cfg.channels.get ch).darkFloor + 8) →
        exec (.sample ch x) s
          = .next
            { s with
              channels := s.channels.set ch
                { s.channels.get ch with
                  baseline := some (updateBaseline (s.cfg.channels.get ch).shift x.toNat b)
                  last := some x.toNat } })

/-- R9 and R12: what a sample does in PULSE and in QUALIFIED, against the levels of the frozen baseline; a sample that
completes qualification is the next statement's. -/
def Obligations.SampleInPulseAndQualified : Prop :=
  (∀ (ch : Fin 4) (x : BitVec 10) (s : State) (b n p : Nat), (s.channels.get ch).state = .pulse →
      (s.channels.get ch).baseline = some b → (s.channels.get ch).run = some n →
      (s.channels.get ch).peak = some p →
      (s.cfg.channels.get ch).tripAt b ≤ x.toNat → n + 1 ≠ (s.cfg.channels.get ch).qualifyCount →
      exec (.sample ch x) s
        = .next
          { s with
            channels := s.channels.set ch
              { s.channels.get ch with
                run := some (n + 1), peak := some (max p x.toNat), last := some x.toNat } })
    ∧ (∀ (ch : Fin 4) (x : BitVec 10) (s : State) (b : Nat), (s.channels.get ch).state = .pulse →
        (s.channels.get ch).baseline = some b → x.toNat < (s.cfg.channels.get ch).tripAt b →
        (s.cfg.channels.get ch).rearmAt b ≤ x.toNat →
        exec (.sample ch x) s
          = .next { s with channels := s.channels.set ch { s.channels.get ch with last := some x.toNat } })
    ∧ (∀ (ch : Fin 4) (x : BitVec 10) (s : State) (b : Nat), (s.channels.get ch).state = .pulse →
        (s.channels.get ch).baseline = some b → x.toNat < (s.cfg.channels.get ch).tripAt b →
        x.toNat < (s.cfg.channels.get ch).rearmAt b →
        exec (.sample ch x) s
          = .next
            { s with
              channels := s.channels.set ch
                { s.channels.get ch with
                  state := .armed, run := none, pulseStart := none, glowDeadline := none
                  shortPulses := min ((s.channels.get ch).shortPulses + 1) 65535, last := some x.toNat } })
    ∧ (∀ (ch : Fin 4) (x : BitVec 10) (s : State) (b p : Nat), (s.channels.get ch).state = .qualified →
        (s.channels.get ch).baseline = some b → (s.channels.get ch).peak = some p →
        (s.cfg.channels.get ch).rearmAt b ≤ x.toNat →
        exec (.sample ch x) s
          = .next
            { s with
              channels := s.channels.set ch
                { s.channels.get ch with peak := some (max p x.toNat), last := some x.toNat } })
    ∧ (∀ (ch : Fin 4) (x : BitVec 10) (s : State) (b p : Nat), (s.channels.get ch).state = .qualified →
        (s.channels.get ch).baseline = some b → (s.channels.get ch).peak = some p →
        x.toNat < (s.cfg.channels.get ch).rearmAt b →
        exec (.sample ch x) s
          = .next
            { s with
              channels := s.channels.set ch
                { s.channels.get ch with
                  state := .armed, run := none, pulseStart := none, glowDeadline := none
                  peak := some (max p x.toNat), last := some x.toNat } })

/-- R8, R10, R11 and R19: a sample at trip in ARMED begins a pulse; the sample that brings the run to the qualify
count raises a detection, which is posted as SPARK and, in operation, joins the ring and waits on the line as a
DETECT. Where a DETECT of the channel is already queued, the detection is coalesced into it (R71). The model's choice:
the SPARK record stands before the other records of the same instant (log 8). -/
def Obligations.SamplesQualifyAndDetect : Prop :=
  (∀ (ch : Fin 4) (x : BitVec 10) (s : State) (b : Nat), (s.channels.get ch).state = .armed →
      (s.channels.get ch).baseline = some b →
      (s.cfg.channels.get ch).darkFloor ≤ updateBaseline (s.cfg.channels.get ch).shift x.toNat b / 64 →
      updateBaseline (s.cfg.channels.get ch).shift x.toNat b / 64 ≤ (s.cfg.channels.get ch).ceiling →
      (s.cfg.channels.get ch).tripAt (updateBaseline (s.cfg.channels.get ch).shift x.toNat b) ≤ x.toNat →
      (s.cfg.channels.get ch).qualifyCount ≠ 1 →
      exec (.sample ch x) s
        = .next
          { s with
            channels := s.channels.set ch
              { s.channels.get ch with
                state := .pulse
                baseline := some (updateBaseline (s.cfg.channels.get ch).shift x.toNat b)
                run := some 1, peak := some x.toNat, pulseStart := some s.time
                glowDeadline := some (later s.time (s.cfg.channels.get ch).glowLimit)
                last := some x.toNat } })
    ∧ (∀ (ch : Fin 4) (x : BitVec 10) (s : State) (b : Nat), (s.channels.get ch).state = .armed →
        (s.channels.get ch).baseline = some b →
        (s.cfg.channels.get ch).darkFloor ≤ updateBaseline (s.cfg.channels.get ch).shift x.toNat b / 64 →
        updateBaseline (s.cfg.channels.get ch).shift x.toNat b / 64 ≤ (s.cfg.channels.get ch).ceiling →
        x.toNat < (s.cfg.channels.get ch).tripAt (updateBaseline (s.cfg.channels.get ch).shift x.toNat b) →
        exec (.sample ch x) s
          = .next
            { s with
              channels := s.channels.set ch
                { s.channels.get ch with
                  baseline := some (updateBaseline (s.cfg.channels.get ch).shift x.toNat b)
                  last := some x.toNat } })
    ∧ (∀ (ch : Fin 4) (x : BitVec 10) (s : State) (b : Nat), (s.channels.get ch).state = .armed →
        (s.channels.get ch).baseline = some b →
        (s.cfg.channels.get ch).darkFloor ≤ updateBaseline (s.cfg.channels.get ch).shift x.toNat b / 64 →
        updateBaseline (s.cfg.channels.get ch).shift x.toNat b / 64 ≤ (s.cfg.channels.get ch).ceiling →
        (s.cfg.channels.get ch).tripAt (updateBaseline (s.cfg.channels.get ch).shift x.toNat b) ≤ x.toNat →
        (s.cfg.channels.get ch).qualifyCount = 1 →
        ∃ t, exec (.sample ch x) s = .next t
          ∧ PostsFirst
            ⟨s.time, .spark, ch.val, s.homeView, s.station, 0, x.toNat,
              (s.cfg.channels.get ch).tripAt (updateBaseline (s.cfg.channels.get ch).shift x.toNat b)⟩ s t
          ∧ t =
            ({ s with
              valves := t.valves
              channels := s.channels.set ch
                { s.channels.get ch with
                  state := .qualified
                  baseline := some (updateBaseline (s.cfg.channels.get ch).shift x.toNat b)
                  run := some 1, peak := some x.toNat, pulseStart := some s.time
                  glowDeadline := some (later s.time (s.cfg.channels.get ch).glowLimit)
                  detections := min ((s.channels.get ch).detections + 1) 65535
                  last := some x.toNat } }).withZonesOf t)
    ∧ (∀ (ch : Fin 4) (x : BitVec 10) (s : State) (b n p : Nat), (s.channels.get ch).state = .pulse →
        (s.channels.get ch).baseline = some b → (s.channels.get ch).run = some n →
        (s.channels.get ch).peak = some p → (s.cfg.channels.get ch).tripAt b ≤ x.toNat →
        n + 1 = (s.cfg.channels.get ch).qualifyCount → s.operating = false →
        ∃ t, exec (.sample ch x) s = .next t
          ∧ Posts
            [⟨s.time, .spark, ch.val, s.homeView, s.station, 0, max p x.toNat,
              (s.cfg.channels.get ch).tripAt b⟩] s t
          ∧ t =
            ({ s with
               channels := s.channels.set ch
                { s.channels.get ch with
                  state := .qualified, run := some (n + 1), peak := some (max p x.toNat)
                  detections := min ((s.channels.get ch).detections + 1) 65535
                  last := some x.toNat } }).withLogOf t)
    ∧ (∀ (ch : Fin 4) (x : BitVec 10) (s : State) (b n p : Nat), (s.channels.get ch).state = .pulse →
        (s.channels.get ch).baseline = some b → (s.channels.get ch).run = some n →
        (s.channels.get ch).peak = some p → (s.cfg.channels.get ch).tripAt b ≤ x.toNat →
        n + 1 = (s.cfg.channels.get ch).qualifyCount → s.operating = true →
        s.line.queue.all (fun f => !f.sameSlot (.detect ch 1 s.time s.time 0)) = true →
        ∃ t, exec (.sample ch x) s = .next t
          ∧ t.line.waits (.detect ch 1 s.time s.time (max p x.toNat)) = true
          ∧ PostsFirst
            ⟨s.time, .spark, ch.val, s.homeView, s.station, 0, max p x.toNat,
              (s.cfg.channels.get ch).tripAt b⟩ s t
          ∧ t.zones.ring
            = (if s.zones.ring.length < 16 then s.zones.ring else s.zones.ring.drop 1) ++ [s.time]
          ∧ t =
            ({ s with
              valves := t.valves
              channels := s.channels.set ch
                { s.channels.get ch with
                  state := .qualified, run := some (n + 1), peak := some (max p x.toNat)
                  detections := min ((s.channels.get ch).detections + 1) 65535
                  last := some x.toNat } }).withZonesOf t)
    ∧ (∀ (ch : Fin 4) (x : BitVec 10) (s : State) (b n p m q : Nat) (first last : Instant),
        (s.channels.get ch).state = .pulse → (s.channels.get ch).baseline = some b →
        (s.channels.get ch).run = some n → (s.channels.get ch).peak = some p →
        (s.cfg.channels.get ch).tripAt b ≤ x.toNat → n + 1 = (s.cfg.channels.get ch).qualifyCount →
        s.operating = true → .detect ch m first last q ∈ s.line.queue →
        ∃ t, exec (.sample ch x) s = .next t
          ∧ t.line.waits (.detect ch (min (m + 1) 15) first s.time (max (max p x.toNat) q)) = true)

/-- R13, R14 and R18: GLOW_DEADLINE_EXPIRY in PULSE or QUALIFIED enters GLOW and raises the condition; a sample below
re-arm ends the glow, and the condition stands while some channel is in GLOW. A sample at or above re-arm keeps GLOW
and raises the peak alone. The model's choice: the CHANNEL record stands before the other records of the same instant
(log 8). -/
def Obligations.GlowBeginsAndEnds : Prop :=
  (∀ (ch : Fin 4) (s : State), due s.time (s.channels.get ch).glowDeadline = true →
      ((s.channels.get ch).state = .pulse ∨ (s.channels.get ch).state = .qualified) →
      ∃ t, exec (.glowDeadlineExpiry ch) s = .next t
        ∧ PostsFirst
          ⟨s.time, .channel, ch.val, s.homeView, s.station, 0, 5, (s.channels.get ch).baseline.getD 0 / 64⟩ s t
        ∧ (s.operating = true → t.zones.conditions.glow = true)
        ∧ t =
          ({ s with
             channels := s.channels.set ch
              { s.channels.get ch with state := .glow, glowDeadline := none } }).withZonesOf t)
    ∧ (∀ (ch : Fin 4) (x : BitVec 10) (s : State) (b p : Nat), (s.channels.get ch).state = .glow →
        (s.channels.get ch).baseline = some b → (s.channels.get ch).peak = some p →
        x.toNat < (s.cfg.channels.get ch).rearmAt b →
        ∃ t, exec (.sample ch x) s = .next t
          ∧ PostsFirst ⟨s.time, .channel, ch.val, s.homeView, s.station, 0, 2, b / 64⟩ s t
          ∧ (s.operating = true → t.zones.conditions.glow = t.channels.any (fun c => decide (c.state = .glow)))
          ∧ t =
            ({ s with
               channels := s.channels.set ch
                { s.channels.get ch with
                  state := .armed, run := none, pulseStart := none, glowDeadline := none
                  peak := some (max p x.toNat), last := some x.toNat } }).withZonesOf t)
    ∧ (∀ (ch : Fin 4) (x : BitVec 10) (s : State) (b p : Nat), (s.channels.get ch).state = .glow →
        (s.channels.get ch).baseline = some b → (s.channels.get ch).peak = some p →
        (s.cfg.channels.get ch).rearmAt b ≤ x.toNat →
        exec (.sample ch x) s
          = .next
            { s with
              channels := s.channels.set ch
                { s.channels.get ch with peak := some (max p x.toNat), last := some x.toNat } })

/-! ## Duct flow (section 2.1) -/

/-- R24, R25 and R28: a good pressure sample joins the history, which is first emptied in LOST, and gives the average,
the velocity and the status anew. -/
def Obligations.GoodPressureSampleGivesVelocity : Prop :=
  ∀ (count : BitVec 12) (s : State), s.handedOver = true → HistoryLaw s → count.toNat ≠ 4095 →
    ∃ t, exec (.pressureSample count false) s = .next t
      ∧ t.flow.history
        = (if s.flow.status = .lost then []
            else if s.flow.history.length < 8 then s.flow.history else s.flow.history.drop 1) ++ [count.toNat]
      ∧ t.flow.velocity
        = min 600 (s.cfg.kv * Nat.sqrt (8 * (t.flow.history.sum / t.flow.history.length)) / 64)
      ∧ t.flow.status = (if s.cfg.vMin ≤ t.flow.velocity then .ok else .lowFlow)
      ∧ t.flow.holdDeadline = none
      ∧ t = ({ s with flow := t.flow }).withZonesOf t

/-- R26: a bad sample puts OK or LOW_FLOW in HOLD with a deadline 5000 ms later and keeps the velocity, and leaves
HOLD and LOST as they stand; R23: a sample is bad at count 4095 or with a sensor fault. -/
def Obligations.BadPressureSampleHolds : Prop :=
  (∀ (count : BitVec 12) (fault : Bool) (s : State), s.handedOver = true → (fault = true ∨ count.toNat = 4095) →
      (s.flow.status = .ok ∨ s.flow.status = .lowFlow) →
      ∃ t, exec (.pressureSample count fault) s = .next t
        ∧ t =
          ({ s with
             flow :=
              { s.flow with status := .hold, holdDeadline := some (later s.time 5000) } }).withZonesOf t)
    ∧ (∀ (count : BitVec 12) (fault : Bool) (s : State), s.handedOver = true →
        (fault = true ∨ count.toNat = 4095) → (s.flow.status = .hold ∨ s.flow.status = .lost) →
        exec (.pressureSample count fault) s = .next s)

/-- R27 and R29: HOLD_DEADLINE_EXPIRY in HOLD enters LOST, keeps the velocity, and raises FLOW_LOST. -/
def Obligations.HoldExpiryLosesTheFlow : Prop :=
  ∀ (s : State), due s.time s.flow.holdDeadline = true → s.flow.status = .hold →
    ∃ t, exec .holdDeadlineExpiry s = .next t
      ∧ (s.operating = true → t.zones.conditions.flowLost = true ∧ t.sirens.summary.flowLost = true)
      ∧ t = ({ s with flow := { s.flow with status := .lost, holdDeadline := none } }).withZonesOf t

/-! ## Transit prediction (sections 2.2 to 2.4) -/

/-- R36: the transit time is the floor of L × 1000 / v, the early bound the floor and the late bound the ceiling of its
share, and they lie in the ranges the rule gives. -/
def Obligations.TransitTimeAndBounds : Prop :=
  ∀ L v u : Nat, 1 ≤ L → L ≤ 4000 → 20 ≤ v → v ≤ 600 → u ≤ 50 →
    (transitTime L v * v ≤ L * 1000 ∧ L * 1000 < (transitTime L v + 1) * v)
      ∧ (1 ≤ transitTime L v ∧ transitTime L v ≤ 200000)
      ∧ (80 ≤ v → transitTime L v ≤ 50000)
      ∧ (earlyBound (transitTime L v) u * 100 ≤ transitTime L v * (100 - u)
        ∧ transitTime L v * (100 - u) < (earlyBound (transitTime L v) u + 1) * 100)
      ∧ (transitTime L v * (100 + u) ≤ lateBound (transitTime L v) u * 100
        ∧ lateBound (transitTime L v) u * 100 < transitTime L v * (100 + u) + 100)
      ∧ (earlyBound (transitTime L v) u ≤ transitTime L v ∧ transitTime L v ≤ lateBound (transitTime L v) u)
      ∧ (u = 0 → earlyBound (transitTime L v) u = transitTime L v
        ∧ lateBound (transitTime L v) u = transitTime L v)

/-- R32 to R38, R47 and R51: a peer's DETECT that one watch entry matches gives its valve a window that opens before
the spark and closes after it, opened at once where its time has come, a flood window where the velocity is not to be
trusted, or a miss notice where it comes too late. R34: the velocity is the one last reported by the entry's velocity
source while that is LIVE with status OK, and the own one, marked substituted, while it is not LIVE. R45, R46: a
window joins the valve's schedule list, merges with one within the merge gap, and never makes a full list longer. The line
is one whose running quiet count has brought nothing that is still to be taken (QuietSettled; LineErrorsAreCounted and
LineStateChanges say what a DETECT on another line does first). -/
def Obligations.DetectPredictsAWindow : Prop :=
  (∀ (source channel count : Byte) (age span peak : Half) (v : Fin 2) (s : State) (e : WatchEntry)
      (start : Instant) (bytes : List Byte), s.operating = true → s.handedOver = true → validSource source = true →
      source.toNat ≠ s.station → s.line.receiver = .taking start bytes → s.watch = [e] → QuietSettled s →
      e.matches source.toNat channel.toNat = true → e.valves.getLsbD v.val = true →
      e.valves.getLsbD (other v).val = false → e.source = 0 → (s.valves.valves.get v).windows = [] →
      (s.flow.status = .ok ∨ s.flow.status = .hold) → s.cfg.vMin ≤ s.flow.velocity →
      before s.time
        (openInstant (start - age.setWidth 32)
          (earlyBound (transitTime e.length s.flow.velocity) s.cfg.uncertainty) (s.cfg.valves.get v).lead) = true →
      before s.time
        (closeInstant (start - age.setWidth 32 + span.setWidth 32)
          (lateBound (transitTime e.length s.flow.velocity) s.cfg.uncertainty)
          (s.cfg.valves.get v).sprayHold) = true →
      ∃ t, exec (.detectReceived source channel count age span peak) s = .next t
        ∧ t.valves.valves.get v
          = { s.valves.valves.get v with
              windows :=
                [{ openAt :=
                    openInstant (start - age.setWidth 32)
                      (earlyBound (transitTime e.length s.flow.velocity) s.cfg.uncertainty)
                      (s.cfg.valves.get v).lead
                   closeAt :=
                    closeInstant (start - age.setWidth 32 + span.setWidth 32)
                      (lateBound (transitTime e.length s.flow.velocity) s.cfg.uncertainty)
                      (s.cfg.valves.get v).sprayHold
                   kind := .predicted, merged := 1, origin := source.toNat, substituted := false
                   begun := false }] }
        ∧ t.valves.valves.get (other v) = s.valves.valves.get (other v))
    ∧ (∀ (source channel count : Byte) (age span peak : Half) (v : Fin 2) (s : State) (e : WatchEntry)
        (start : Instant) (bytes : List Byte), s.operating = true → s.handedOver = true → validSource source = true →
        source.toNat ≠ s.station → s.line.receiver = .taking start bytes → s.watch = [e] → QuietSettled s →
        e.matches source.toNat channel.toNat = true → e.valves.getLsbD v.val = true →
        e.valves.getLsbD (other v).val = false → e.source = 0 → (s.valves.valves.get v).windows = [] →
        (s.valves.valves.get v).opened = false →
        (s.flow.status = .ok ∨ s.flow.status = .hold) → s.cfg.vMin ≤ s.flow.velocity →
        before s.time
          (openInstant (start - age.setWidth 32)
            (earlyBound (transitTime e.length s.flow.velocity) s.cfg.uncertainty)
            (s.cfg.valves.get v).lead) = false →
        before s.time
          (closeInstant (start - age.setWidth 32 + span.setWidth 32)
            (lateBound (transitTime e.length s.flow.velocity) s.cfg.uncertainty)
            (s.cfg.valves.get v).sprayHold) = true →
        ∃ t, exec (.detectReceived source channel count age span peak) s = .next t
          ∧ (t.valves.valves.get v).opened = true
          ∧ (t.valves.valves.get v).windows
            = [{ openAt := s.time
                 closeAt :=
                  closeInstant (start - age.setWidth 32 + span.setWidth 32)
                    (lateBound (transitTime e.length s.flow.velocity) s.cfg.uncertainty)
                    (s.cfg.valves.get v).sprayHold
                 kind := .predicted, merged := 1, origin := source.toNat, substituted := false
                 begun := true }])
    ∧ (∀ (source channel count : Byte) (age span peak : Half) (v : Fin 2) (s : State) (e : WatchEntry)
        (start : Instant) (bytes : List Byte), s.operating = true → s.handedOver = true → validSource source = true →
        source.toNat ≠ s.station → s.line.receiver = .taking start bytes → s.watch = [e] → QuietSettled s →
        e.matches source.toNat channel.toNat = true → e.valves.getLsbD v.val = true →
        e.valves.getLsbD (other v).val = false → e.source = 0 →
        (s.flow.status = .ok ∨ s.flow.status = .hold) → s.cfg.vMin ≤ s.flow.velocity →
        before s.time
          (closeInstant (start - age.setWidth 32 + span.setWidth 32)
            (lateBound (transitTime e.length s.flow.velocity) s.cfg.uncertainty)
            (s.cfg.valves.get v).sprayHold) = false →
        ∃ t, exec (.detectReceived source channel count age span peak) s = .next t
          ∧ t.valves.valves.get v
            = { s.valves.valves.get v with
                missHold := some (later s.time (s.cfg.valves.get v).sprayHold) }
          ∧ t.zones.conditions.missed = true)
    ∧ (∀ (source channel count : Byte) (age span peak : Half) (v : Fin 2) (s : State) (e : WatchEntry)
        (start : Instant) (bytes : List Byte), s.operating = true → s.handedOver = true → validSource source = true →
        source.toNat ≠ s.station → s.line.receiver = .taking start bytes → s.watch = [e] → QuietSettled s →
        e.matches source.toNat channel.toNat = true → e.valves.getLsbD v.val = true →
        e.valves.getLsbD (other v).val = false → e.source = 0 → (s.valves.valves.get v).windows = [] →
        (s.valves.valves.get v).opened = false →
        (s.flow.status = .lowFlow ∨ s.flow.status = .lost ∨ s.flow.velocity < s.cfg.vMin) →
        ∃ t, exec (.detectReceived source channel count age span peak) s = .next t
          ∧ (t.valves.valves.get v).opened = true
          ∧ (t.valves.valves.get v).windows
            = [{ openAt := s.time, closeAt := later s.time ((s.cfg.valves.get v).floodTime * 1000)
                 kind := .flood, merged := 1, origin := source.toNat, substituted := false
                 begun := true }])
    ∧ (∀ (source channel count : Byte) (age span peak : Half) (v : Fin 2) (s : State) (e : WatchEntry)
        (start : Instant) (bytes : List Byte) (n : Fin 32) (velocity : Nat) (substituted : Bool),
        s.operating = true → s.handedOver = true → validSource source = true →
        source.toNat ≠ s.station → s.line.receiver = .taking start bytes → s.watch = [e] → QuietSettled s →
        e.matches source.toNat channel.toNat = true → e.valves.getLsbD v.val = true →
        e.valves.getLsbD (other v).val = false → e.source = n.val → n ≠ 0 →
        (s.peers[n].state = .live ∧ s.peers[n].velocity.map (fun x => min x 600) = some velocity
            ∧ s.peers[n].flow = some .ok ∧ substituted = false
          ∨ n ≠ stationIndex source ∧ s.peers[n].state ≠ .live ∧ velocity = s.flow.velocity
            ∧ (s.flow.status = .ok ∨ s.flow.status = .hold) ∧ substituted = true) →
        s.cfg.vMin ≤ velocity →
        before s.time
          (closeInstant (start - age.setWidth 32 + span.setWidth 32)
            (lateBound (transitTime e.length velocity) s.cfg.uncertainty)
            (s.cfg.valves.get v).sprayHold) = true →
        (addToSchedule s.cfg.mergeGap
            (predictedWindow s v e start age span velocity source.toNat substituted)
            (s.valves.valves.get v).windows).1.begun = true
          ∨ before s.time
            (addToSchedule s.cfg.mergeGap
              (predictedWindow s v e start age span velocity source.toNat substituted)
              (s.valves.valves.get v).windows).1.openAt = true →
        ∃ t, exec (.detectReceived source channel count age span peak) s = .next t
          ∧ t.valves.valves.get v
            = { s.valves.valves.get v with
                windows :=
                  (addToSchedule s.cfg.mergeGap
                    (predictedWindow s v e start age span velocity source.toNat substituted)
                    (s.valves.valves.get v).windows).2 })
    ∧ (∀ (gap : Nat) (w x : Window), withinGap gap x w = true →
        ∃ m, addToSchedule gap w [x] = (m, [m])
          ∧ m.openAt = (if before w.openAt x.openAt = true then w.openAt else x.openAt)
          ∧ m.closeAt = (if before x.closeAt w.closeAt = true then w.closeAt else x.closeAt)
          ∧ m.merged = min (x.merged + w.merged) 255
          ∧ (m.kind = .flood ↔ x.kind = .flood ∨ w.kind = .flood)
          ∧ m.origin = (if before w.openAt x.openAt = true then w.origin else x.origin)
          ∧ m.substituted = (x.substituted || w.substituted) ∧ m.begun = (x.begun || w.begun))
    ∧ (∀ (gap : Nat) (w : Window) (l : List Window), (∀ x ∈ l, withinGap gap x w = false) → l.length < 8 →
        (addToSchedule gap w l).1 = w ∧ (addToSchedule gap w l).2.Perm (w :: l))
    ∧ (∀ (gap : Nat) (w : Window) (l : List Window), (∀ x ∈ l, withinGap gap x w = false) → l.length = 8 →
        (addToSchedule gap w l).2.length = 8)

/-! ## Extinguishing valves (section 3) -/

/-- R48, R49, R53 and R56: OPEN_EXPIRY begins the head window and opens the valve, and CLOSE_EXPIRY takes the head
window from the list and closes it; an open valve has a flow-confirm deadline where its flow switch is inactive, and a
closed one a leak deadline where it is active. The model's choices: the WINDOW_OPEN or WINDOW_CLOSE record stands
before the other records of the same instant (log 8), and the two lengths are unsigned differences of instants (log
34). -/
def Obligations.WindowsOpenAndCloseTheValve : Prop :=
  (∀ (v : Fin 2) (s : State) (w : Window) (rest : List Window), s.operating = true →
      (s.valves.valves.get v).windows = w :: rest → w.begun = false → before s.time w.openAt = false →
      (s.valves.valves.get v).opened = false →
      ∃ t, exec (.openExpiry v) s = .next t
        ∧ PostsFirst
          ⟨s.time, .windowOpen, v.val, s.homeView, s.station,
            (if w.kind = .flood then 1 else 0) + (if w.substituted = true then 2 else 0), w.origin,
            min (elapsed w.closeAt s.time) 65535⟩ s t
        ∧ (s.valves.comparator = some .low → t.zones.conditions.waterLow = .second)
        ∧ t =
          (setValve v
            { s.valves.valves.get v with
              windows := { w with begun := true } :: rest, opened := true, openedAt := some s.time
              flowConfirm :=
                if s.level (fsInput v) = true then none
                else some (later s.time (s.cfg.valves.get v).flowConfirm)
              leakDeadline := none } s).withZonesOf t)
    ∧ (∀ (v : Fin 2) (s : State) (w : Window) (rest : List Window), s.operating = true →
        (s.valves.valves.get v).windows = w :: rest → w.begun = false → before s.time w.openAt = false →
        (s.valves.valves.get v).opened = true →
        exec (.openExpiry v) s
          = .next (setValve v { s.valves.valves.get v with windows := { w with begun := true } :: rest } s))
    ∧ (∀ (v : Fin 2) (s : State) (w : Window) (rest : List Window),
        (s.valves.valves.get v).windows = w :: rest → w.begun = true → before s.time w.closeAt = false →
        ∃ t, exec (.closeExpiry v) s = .next t
          ∧ PostsFirst
            ⟨s.time, .windowClose, v.val, s.homeView, s.station,
              (if w.kind = .flood then 1 else 0) + (if w.substituted = true then 2 else 0)
                + (if (s.valves.valves.get v).noFlow = true then 4 else 0), w.merged,
              min (((s.valves.valves.get v).openedAt.map fun o => elapsed s.time o).getD 0) 65535⟩ s t
          ∧ (s.operating = true → s.valves.comparator = some .low →
              (s.valves.valves.get (other v)).opened = false → t.zones.conditions.waterLow = .first)
          ∧ t =
            (setValve v
              { s.valves.valves.get v with
                windows := rest, opened := false, openedAt := none, flowConfirm := none
                leakDeadline :=
                  if s.level (fsInput v) = true ∧ (s.valves.valves.get v).leak = false then
                    some (later s.time (s.cfg.valves.get v).flowConfirm)
                  else (s.valves.valves.get v).leakDeadline } s).withZonesOf t)

/-- R52, R54 and R57: the expiries of the miss hold, flow-confirm and leak deadlines withdraw MISSED, raise NO_FLOW
and raise LEAK. With the valve closed, the flow-confirm expiry sets nothing. The model's choice: the VALVE record
stands before the other records of the same instant (log 8). -/
def Obligations.ValveDeadlinesExpire : Prop :=
  (∀ (v : Fin 2) (s : State), due s.time (s.valves.valves.get v).missHold = true →
      ∃ t, exec (.missHoldExpiry v) s = .next t
        ∧ (s.operating = true →
            t.zones.conditions.missed = (s.valves.valves.get (other v)).missHold.isSome)
        ∧ t = (setValve v { s.valves.valves.get v with missHold := none } s).withZonesOf t)
    ∧ (∀ (v : Fin 2) (s : State), due s.time (s.valves.valves.get v).flowConfirm = true →
        (s.valves.valves.get v).opened = true → (s.valves.valves.get v).noFlow = false →
        ∃ t, exec (.flowConfirmExpiry v) s = .next t
          ∧ PostsFirst
            ⟨s.time, .valve, v.val, s.homeView, s.station, 0, 0, if s.level (fsInput v) = true then 1 else 0⟩ s t
          ∧ (s.operating = true → t.zones.conditions.noFlow = true ∧ t.sirens.summary.noFlow = true)
          ∧ t =
            (setValve v { s.valves.valves.get v with flowConfirm := none, noFlow := true } s).withZonesOf t)
    ∧ (∀ (v : Fin 2) (s : State), due s.time (s.valves.valves.get v).flowConfirm = true →
        (s.valves.valves.get v).opened = true → (s.valves.valves.get v).noFlow = true →
        exec (.flowConfirmExpiry v) s
          = .next (setValve v { s.valves.valves.get v with flowConfirm := none } s))
    ∧ (∀ (v : Fin 2) (s : State), due s.time (s.valves.valves.get v).flowConfirm = true →
        (s.valves.valves.get v).opened = false →
        exec (.flowConfirmExpiry v) s
          = .next (setValve v { s.valves.valves.get v with flowConfirm := none } s))
    ∧ (∀ (v : Fin 2) (s : State), due s.time (s.valves.valves.get v).leakDeadline = true →
        (s.valves.valves.get v).leak = false →
        ∃ t, exec (.leakDeadlineExpiry v) s = .next t
          ∧ PostsFirst
            ⟨s.time, .valve, v.val, s.homeView, s.station, 0, 2, if s.level (fsInput v) = true then 1 else 0⟩ s t
          ∧ (s.operating = true → t.zones.conditions.leak = true ∧ t.sirens.summary.leak = true)
          ∧ t =
            (setValve v { s.valves.valves.get v with leakDeadline := none, leak := true } s).withZonesOf t)

/-- R53, R55, R56 and R57: FS becoming active confirms flow, clears NO_FLOW and, with the valve closed and LEAK clear,
starts a leak deadline; FS going inactive clears LEAK and discards the deadline. The model's choices: the VALVE record
stands before the other records of the same instant (log 8), and the raw level and the debounce period follow the
level that the command carries (log 6). -/
def Obligations.FlowSwitchChangesAreJudged : Prop :=
  (∀ (v : Fin 2) (s : State), s.handedOver = true → s.level (fsInput v) = false →
      ∃ t, exec (.fsChange v true) s = .next t
        ∧ ((s.valves.valves.get v).noFlow = true →
            PostsFirst ⟨s.time, .valve, v.val, s.homeView, s.station, 0, 1, 1⟩ s t)
        ∧ t =
          (setValve v
            { s.valves.valves.get v with
              flowConfirm := none, noFlow := false
              leakDeadline :=
                if (s.valves.valves.get v).opened = false ∧ (s.valves.valves.get v).leak = false then
                  some (later s.time (s.cfg.valves.get v).flowConfirm)
                else (s.valves.valves.get v).leakDeadline }
            (setLevel (fsInput v) true s)).withZonesOf t)
    ∧ (∀ (v : Fin 2) (s : State), s.handedOver = true → s.level (fsInput v) = true →
        ∃ t, exec (.fsChange v false) s = .next t
          ∧ ((s.valves.valves.get v).leak = true →
              PostsFirst ⟨s.time, .valve, v.val, s.homeView, s.station, 0, 3, 0⟩ s t)
          ∧ t =
            (setValve v { s.valves.valves.get v with leakDeadline := none, leak := false }
              (setLevel (fsInput v) false s)).withZonesOf t)

/-- R58: the comparator goes LOW below the water trip and NORMAL at the trip plus the hysteresis, keeps its state at
every other sample, and each change is posted as WATER. The model's choice: the WATER record stands before the other
records of the same instant (log 8). -/
def Obligations.WaterSamplesMoveTheComparator : Prop :=
  (∀ (p : BitVec 10) (s : State), s.handedOver = true → s.valves.comparator = some .normal →
      p.toNat < s.cfg.waterTrip →
      ∃ t, exec (.waterSample p) s = .next t
        ∧ PostsFirst ⟨s.time, .water, 0, s.homeView, s.station, 0, 1, p.toNat⟩ s t
        ∧ (s.operating = false → Posts [⟨s.time, .water, 0, s.homeView, s.station, 0, 1, p.toNat⟩] s t)
        ∧ (s.operating = true → t.zones.conditions.waterLow = if s.someOpen = true then .second else .first)
        ∧ t =
          ({ s with
             valves :=
              { s.valves with comparator := some .low, lastWater := some p.toNat } }).withZonesOf t)
    ∧ (∀ (p : BitVec 10) (s : State), s.handedOver = true → s.valves.comparator = some .low →
        s.cfg.waterTrip + s.cfg.waterHysteresis ≤ p.toNat →
        ∃ t, exec (.waterSample p) s = .next t
          ∧ PostsFirst ⟨s.time, .water, 0, s.homeView, s.station, 0, 0, p.toNat⟩ s t
          ∧ (s.operating = false → Posts [⟨s.time, .water, 0, s.homeView, s.station, 0, 0, p.toNat⟩] s t)
          ∧ (s.operating = true → t.zones.conditions.waterLow = .off)
          ∧ t =
            ({ s with
               valves :=
                { s.valves with comparator := some .normal, lastWater := some p.toNat } }).withZonesOf t)
    ∧ (∀ (p : BitVec 10) (s : State), s.handedOver = true →
        (s.valves.comparator = some .normal ∧ s.cfg.waterTrip ≤ p.toNat
          ∨ s.valves.comparator = some .low ∧ p.toNat < s.cfg.waterTrip + s.cfg.waterHysteresis) →
        exec (.waterSample p) s
          = .next { s with valves := { s.valves with lastWater := some p.toNat } })

/-! ## The guard line (section 4) -/

/-- R66, R67 and R81: FRAME_ERROR, BYTE_ERROR and FRAME_BROKEN_OFF count an error: the tally rises, the instant joins
the window of eight, the degraded deadline is set to 10,000 ms from now, DEGRADED is set where the window says so, and
the receiver hunts. A BYTE_ERROR in a byte that is dropped counts none. A partial frame that the running quiet count has
broken off is counted before the error or the frame that ends the quiet (QuietSettled says that there is none). The model's
choices: a BYTE_ERROR whose start bit was not given is counted also while the receiver hunts (log 13), the quiet count
stands at 12 or more after FRAME_BROKEN_OFF and comes before the arrival that ends it (logs 12 and 20), and the age of the
oldest error is an unsigned difference (log 34). -/
def Obligations.LineErrorsAreCounted : Prop :=
  (∀ (s : State), s.handedOver = true → QuietSettled s →
      ∃ t, exec .frameError s = .next t
        ∧ t.line.errors
          = (if s.line.errors.length < 8 then s.line.errors else s.line.errors.drop 1) ++ [s.time]
        ∧ t.line.degraded = (s.line.degraded || (decide (t.line.errors.length = 8)
            && decide (elapsed s.time (t.line.errors.headD 0) < 10000)))
        ∧ t =
          ({ s with
             line :=
              { s.line with
                quiet := 0, quietPart := 0, activity := if s.line.rests = true then .mark else .busy
                receiver := .hunting
                errorTally := min (s.line.errorTally + 1) 65535, errors := t.line.errors
                degradedDeadline := some (later s.time 10000), degraded := t.line.degraded } }).withZonesOf t)
    ∧ (∀ (s : State), s.handedOver = true → s.line.drops = true →
        exec .byteError s
          = .next
            { s with
              line :=
                { s.line with
                  quiet := 0, quietPart := 0, activity := if s.line.rests = true then .mark else .busy } })
    ∧ (∀ (s : State), s.handedOver = true → s.line.drops = false → QuietSettled s →
        ∃ t, exec .byteError s = .next t
          ∧ t.line.errors
            = (if s.line.errors.length < 8 then s.line.errors else s.line.errors.drop 1) ++ [s.time]
          ∧ t.line.degraded = (s.line.degraded || (decide (t.line.errors.length = 8)
              && decide (elapsed s.time (t.line.errors.headD 0) < 10000)))
          ∧ t =
            ({ s with
               line :=
                { s.line with
                  quiet := 0, quietPart := 0, activity := if s.line.rests = true then .mark else .busy
                  receiver := .hunting
                  errorTally := min (s.line.errorTally + 1) 65535, errors := t.line.errors
                  degradedDeadline := some (later s.time 10000), degraded := t.line.degraded } }).withZonesOf t)
    ∧ (∀ (s : State), s.handedOver = true → s.line.receiver ≠ .hunting →
        (s.line.activity = .mark ∨ s.line.activity = .busy) →
        ∃ t, exec .frameBrokenOff s = .next t
          ∧ t.line.errors
            = (if s.line.errors.length < 8 then s.line.errors else s.line.errors.drop 1) ++ [s.time]
          ∧ t.line.degraded = (s.line.degraded || (decide (t.line.errors.length = 8)
              && decide (elapsed s.time (t.line.errors.headD 0) < 10000)))
          ∧ t =
            ({ s with
               line :=
                { s.line with
                  quiet := max 12 s.line.quiet, quietPart := if s.line.quiet < 12 then 0 else s.line.quietPart
                  activity := .mark, receiver := .hunting
                  stuckWatch := if 142 ≤ max 12 s.line.quiet then none else s.line.stuckWatch
                  errorTally := min (s.line.errorTally + 1) 65535, errors := t.line.errors
                  degradedDeadline := some (later s.time 10000), degraded := t.line.degraded } }).withZonesOf t)
    ∧ (∀ (c : Instr) (s : State), frameArrival c = true → s.handedOver = true → s.line.activity = .mark →
        s.line.receiver ≠ .hunting → 12 ≤ s.line.quiet → (s.line.quiet < 142 ∨ s.line.state ≠ .stuck) →
        ∃ u, exec c s = exec c u ∧ QuietSettled u
          ∧ u.line.errors
            = (if s.line.errors.length < 8 then s.line.errors else s.line.errors.drop 1) ++ [s.time]
          ∧ u.line.degraded = (s.line.degraded || (decide (u.line.errors.length = 8)
              && decide (elapsed s.time (u.line.errors.headD 0) < 10000)))
          ∧ u =
            ({ s with
               line :=
                { s.line with
                  receiver := .hunting
                  stuckWatch := if 142 ≤ s.line.quiet then none else s.line.stuckWatch
                  errorTally := min (s.line.errorTally + 1) 65535, errors := u.line.errors
                  degradedDeadline := some (later s.time 10000), degraded := u.line.degraded } }).withZonesOf u)

/-- R82: DEGRADED_DEADLINE_EXPIRY clears DEGRADED, with its condition and its fault member, where it stands. The
model's choice: the LINE record stands before the other records of the same instant (log 8). -/
def Obligations.DegradedExpires : Prop :=
  (∀ (s : State), due s.time s.line.degradedDeadline = true → s.line.degraded = true →
      ∃ t, exec .degradedDeadlineExpiry s = .next t
        ∧ PostsFirst ⟨s.time, .line, 0, s.homeView, s.station, 0, 5, s.line.errors.length⟩ s t
        ∧ (s.operating = true → t.zones.conditions.lineDegraded = false ∧ t.zones.degraded = false
            ∧ t.sirens.summary.degraded = false)
        ∧ t = ({ s with line := { s.line with degradedDeadline := none, degraded := false } }).withZonesOf t)
    ∧ (∀ (s : State), due s.time s.line.degradedDeadline = true → s.line.degraded = false →
        exec .degradedDeadlineExpiry s = .next { s with line := { s.line with degradedDeadline := none } })

/-- R74 to R76 and R191: GAP_EXPIRY holds the head frame at its gap of 12, 76 or 140 bit times plus twice the station
number; FRAME_DRIVE_START drives it with its bytes fixed; OWN_ECHO counts it as sent and passes a line-echo test (R179).
The model's choices: the quiet count stands at the gap or more after GAP_EXPIRY (log 12), and the stuck watch of 520 bit
times is held in whole ms, rounded down (log 19). -/
def Obligations.FramesAreHeldDrivenAndSent : Prop :=
  (∀ (s : State) (f : OutFrame) (rest : List OutFrame), s.line.queue = f :: rest → s.line.state = .listening →
      s.line.holding = none → s.line.shift = none → s.line.receiver = .hunting →
      (s.line.activity = .mark ∨ s.line.activity = .busy) →
      ∃ t, exec .gapExpiry s = .next t
        ∧ (match f with
            | .detect _ _ _ _ _ => 12
            | .vote _ _ => 76
            | .restart _ => 76
            | .presence _ => 140) + 2 * s.station ≤ t.line.quiet
        ∧ t =
          { s with
            line :=
              { s.line with
                queue := rest, holding := some f, activity := .mark
                quiet := max s.line.quiet (frameGap s.station f)
                quietPart := if s.line.quiet < frameGap s.station f then 0 else s.line.quietPart
                stuckWatch := t.line.stuckWatch } })
    ∧ (∀ (s : State) (f : OutFrame), s.line.holding = some f →
        ∃ t, exec .frameDriveStart s = .next t
          ∧ t.line.shift = some ⟨f, s.time, frameBytes s.station s.time f⟩
          ∧ (frameBytes s.station s.time f).length
            = (match f with
              | .detect _ _ _ _ _ => 13
              | .vote _ _ => 8
              | .restart _ => 7
              | .presence _ => 12)
          ∧ (∃ body : List Byte,
              frameBytes s.station s.time f
                = [0x5B, BitVec.ofNat 8 (kindByte f.kind), BitVec.ofNat 8 s.station] ++ body
                  ++ bytes2
                    (crc16 ([BitVec.ofNat 8 (kindByte f.kind), BitVec.ofNat 8 s.station] ++ body)).toNat
              ∧ (∀ z v, f = .vote z v →
                  body = [BitVec.ofNat 8 z, BitVec.ofNat 8 (levelCode v.level), BitVec.ofNat 8 (reasonCode v.reason)])
              ∧ (∀ z, f = .restart z → body = [0, BitVec.ofNat 8 z])
              ∧ (∀ c n first last p, f = .detect c n first last p →
                  body
                    = [BitVec.ofNat 8 c.val, BitVec.ofNat 8 n] ++ bytes2 (min (elapsed s.time first) 65535)
                      ++ bytes2 (min (elapsed last first) 65535) ++ bytes2 p))
          ∧ ((s.line.stuckWatch = none ∨ 142 ≤ s.line.quiet) →
              t.line.stuckWatch = some (later s.time (520 * bitTime s.rate / 1000)))
          ∧ (s.line.stuckWatch ≠ none → s.line.quiet < 142 → t.line.stuckWatch = s.line.stuckWatch)
          ∧ t =
            { s with
              line :=
                { s.line with
                  holding := none, shift := t.line.shift, quiet := 0, quietPart := 0, activity := .own
                  stuckWatch := t.line.stuckWatch, receiver := t.line.receiver } })
    ∧ (∀ (s : State) (d : DrivenFrame), s.line.shift = some d → s.startup.echoDeadline = none →
        exec .ownEcho s
          = .next
            { s with
              line :=
                { s.line with
                  shift := none, receiver := .hunting, quiet := 0, quietPart := 0
                  activity := if s.line.rests = true then .mark else .busy, stuckWatch := none
                  sentTally := min (s.line.sentTally + 1) 65535 } })
    ∧ (∀ (s : State) (d : DrivenFrame), s.line.shift = some d → s.startup.echoDeadline ≠ none →
        exec .ownEcho s
          = .next
            { s with
              line :=
                { s.line with
                  shift := none, receiver := .hunting, quiet := 0, quietPart := 0
                  activity := if s.line.rests = true then .mark else .busy, stuckWatch := none
                  sentTally := min (s.line.sentTally + 1) 65535 }
              startup :=
                { s.startup with stage := some .scan, echoDeadline := none, frameHeard := none } })

/-- R65, R66, R75, R77 and R78: FOREIGN_START_BIT defers a held frame and COLLISION breaks off a driven one; the frame
returns to the head of its class, or merges there with the frame that has filled its slot. A start bit after 12 quiet
bit times begins a frame, and breaks off one that was being taken; what one after 142 does to a STUCK line stands in
LineStateChanges. R85: in STARTUP_FAILED no frame returns to the queue. The model's choices: the quiet count of a start
bit is the larger of the one given and the one that runs, and a start bit that the queue holds while the node drives a
frame changes nothing (both log 12), the 520 bit times of the stuck watch are whole milliseconds, rounded down (log
19), and at a COLLISION the receiver goes on with the bytes read back and the byte that differed (logs 13 and 20). -/
def Obligations.FramesDeferCollideAndMerge : Prop :=
  (∀ (b : StartBit) (s : State) (f : OutFrame), s.handedOver = true → s.line.holding = some f →
      s.startup.state ≠ .failed → (s.line.activity = .mark ∨ s.line.activity = .busy) →
      (s.line.receiver = .hunting ∨ s.line.countAt b.quiet < 12) →
      (s.line.state ≠ .stuck ∨ s.line.countAt b.quiet < 142) →
      s.line.queue.Pairwise (fun g h => g.cls ≤ h.cls) → s.line.queue.all (fun g => !f.sameSlot g) = true →
      ∃ t, exec (.foreignStartBit b) s = .next t
        ∧ (s.line.receiver = .hunting → 12 ≤ b.quiet → t.line.receiver = .taking s.time [])
        ∧ (s.line.receiver = .hunting → s.line.countAt b.quiet < 12 → t.line.receiver = .hunting)
        ∧ (s.line.receiver ≠ .hunting → t.line.receiver = s.line.receiver)
        ∧ t =
          { s with
            line :=
              { s.line with
                quiet := 0, quietPart := 0, activity := .byte b.data b.stop, holding := none
                receiver := t.line.receiver, stuckWatch := t.line.stuckWatch
                queue :=
                  s.line.queue.filter (fun g => decide (g.cls < f.cls)) ++ f
                    :: s.line.queue.filter (fun g => decide (f.cls ≤ g.cls)) } })
    ∧ (∀ (b : StartBit) (s : State) (c : Fin 4) (n m : Nat) (first last first' last' : Instant) (p p' : Nat),
        s.handedOver = true → s.line.holding = some (.detect c n first last p) → s.startup.state ≠ .failed →
        (s.line.activity = .mark ∨ s.line.activity = .busy) →
        (s.line.receiver = .hunting ∨ s.line.countAt b.quiet < 12) →
        s.line.queue = [.detect c m first' last' p'] →
        ∃ t, exec (.foreignStartBit b) s = .next t
          ∧ t.line.holding = none
          ∧ t.line.queue
            = [.detect c (min (n + m) 15) (if before first' first = true then first' else first)
                (if before last last' = true then last' else last) (max p p')])
    ∧ (∀ (b : StartBit) (s : State) (f g : OutFrame), s.handedOver = true → s.line.holding = some f →
        s.startup.state ≠ .failed → (s.line.activity = .mark ∨ s.line.activity = .busy) →
        (s.line.receiver = .hunting ∨ s.line.countAt b.quiet < 12) →
        s.line.queue = [g] → f.sameSlot g = true → g.kind ≠ .detect →
        ∃ t, exec (.foreignStartBit b) s = .next t ∧ t.line.holding = none ∧ t.line.queue = [g])
    ∧ (∀ (b : StartBit) (s : State) (f : OutFrame), s.handedOver = true → s.line.holding = some f →
        s.startup.state ≠ .failed → (s.line.activity = .mark ∨ s.line.activity = .busy) →
        (s.line.receiver = .hunting ∨ s.line.countAt b.quiet < 12) →
        s.line.queue.Pairwise (fun g h => g.cls ≤ h.cls) →
        ∃ t, exec (.foreignStartBit b) s = .next t
          ∧ t.line.holding = none ∧ t.line.queue = stageReturned (some f) s.line.queue)
    ∧ (∀ (b : StartBit) (s : State), s.handedOver = true → s.line.holding = none →
        (s.line.activity = .mark ∨ s.line.activity = .busy) →
        (s.line.receiver = .hunting ∨ s.line.countAt b.quiet < 12) →
        (s.line.state ≠ .stuck ∨ s.line.countAt b.quiet < 142) →
        ∃ t, exec (.foreignStartBit b) s = .next t
          ∧ (s.line.receiver = .hunting → 12 ≤ b.quiet → t.line.receiver = .taking s.time [])
          ∧ (s.line.receiver = .hunting → s.line.countAt b.quiet < 12 → t.line.receiver = .hunting)
          ∧ (s.line.receiver ≠ .hunting → t.line.receiver = s.line.receiver)
          ∧ ((s.line.stuckWatch = none ∨ 142 ≤ b.quiet) →
              t.line.stuckWatch = some (later s.time (520 * bitTime s.rate / 1000)))
          ∧ t =
            { s with
              line :=
                { s.line with
                  quiet := 0, quietPart := 0, activity := .byte b.data b.stop, receiver := t.line.receiver
                  stuckWatch := t.line.stuckWatch } })
    ∧ (∀ (b : StartBit) (s : State), s.handedOver = true →
        (s.line.activity = .mark ∨ s.line.activity = .busy) → s.line.receiver ≠ .hunting → 12 ≤ b.quiet →
        ∃ t, exec (.foreignStartBit b) s = .next t
          ∧ t.line.receiver = .taking s.time [] ∧ t.line.activity = .byte b.data b.stop
          ∧ t.line.errorTally = min (s.line.errorTally + 1) 65535 ∧ t.line.holding = none)
    ∧ (∀ (b : StartBit) (s : State) (d : DrivenFrame), s.line.shift = some d → s.line.activity = .own →
        s.startup.state ≠ .failed → exec (.foreignStartBit b) s = .next s)
    ∧ (∀ (r : Misread) (s : State) (d : DrivenFrame), s.line.shift = some d → s.startup.state ≠ .failed →
        s.line.queue.Pairwise (fun g h => g.cls ≤ h.cls) →
        s.line.queue.all (fun g => !d.frame.sameSlot g) = true →
        ∃ t, exec (.collision r) s = .next t
          ∧ Posts
            [⟨s.time, .line, 0, s.homeView, s.station, 0, 0, kindByte d.frame.kind * 256 + r.position⟩] s t
          ∧ (∀ start bytes, s.line.receiver = .taking start bytes →
              t.line.receiver = .taking start (d.bytes.take (r.position - 1)))
          ∧ (s.line.receiver = .hunting → t.line.receiver = .hunting)
          ∧ t =
            ({ s with
               line :=
                { s.line with
                  shift := none, quiet := 0, quietPart := 0, activity := .byte r.data r.stop, receiver := t.line.receiver
                  collisionTally := min (s.line.collisionTally + 1) 65535
                  queue :=
                    s.line.queue.filter (fun g => decide (OutFrame.cls g < d.frame.cls)) ++ d.frame
                      :: s.line.queue.filter (fun g => decide (d.frame.cls ≤ OutFrame.cls g)) } }).withLogOf t)
    ∧ (∀ (r : Misread) (s : State) (d : DrivenFrame), s.line.shift = some d → s.startup.state = .failed →
        ∃ t, exec (.collision r) s = .next t ∧ t.line.queue = s.line.queue ∧ t.line.shift = none)
    ∧ (∀ (b : StartBit) (s : State), s.handedOver = true → s.startup.state = .failed →
        (s.line.activity = .mark ∨ s.line.activity = .busy) →
        ∃ t, exec (.foreignStartBit b) s = .next t ∧ t.line.queue = s.line.queue ∧ t.line.holding = none)
    ∧ (∀ (r : Misread) (s : State) (c : Fin 4) (n m : Nat) (first last first' last' drive : Instant)
        (p p' : Nat) (bytes : List Byte), s.startup.state ≠ .failed →
        s.line.shift = some ⟨.detect c n first last p, drive, bytes⟩ →
        s.line.queue = [.detect c m first' last' p'] →
        ∃ t, exec (.collision r) s = .next t
          ∧ t.line.queue
            = [.detect c (min (n + m) 15) (if before first' first = true then first' else first)
                (if before last last' = true then last' else last) (max p p')])
    ∧ (∀ (r : Misread) (s : State) (d : DrivenFrame) (g : OutFrame), s.startup.state ≠ .failed →
        s.line.shift = some d → s.line.queue = [g] → d.frame.sameSlot g = true → g.kind ≠ .detect →
        ∃ t, exec (.collision r) s = .next t ∧ t.line.queue = [g])
    ∧ (∀ (r : Misread) (s : State) (d : DrivenFrame), s.startup.state ≠ .failed → s.line.shift = some d →
        s.line.queue.Pairwise (fun g h => g.cls ≤ h.cls) →
        ∃ t, exec (.collision r) s = .next t
          ∧ t.line.shift = none ∧ t.line.queue = stageReturned (some d.frame) s.line.queue)

/-- R69, R79 and R80: a duplicate station number makes the line LISTEN_ONLY, an expired stuck watch makes it STUCK, and
142 quiet bit times end STUCK; the fault summary follows. The first two empty both stages, whose frames return to the queue
(R78), but in STARTUP_FAILED, which holds no frame in its queue (R85, R181); at the last the head frame is held where its
gap has passed and both stages are empty, and else the stages stand. A STUCK line is also left where a start bit, the
expiry of a gap, or the end of a frame or of a byte with an error shows a quiet count of 142 or more, which comes before
that arrival, and before it a partial frame is broken off as FRAME_BROKEN_OFF says (R66); in STUCK below 142, and in
LISTEN_ONLY, no gap takes a frame from the queue (R74). The model's choices: the LINE record stands before the
FAULT record of the same instant, and where both stages hold a frame the shift stage's returns first (both log 8), the byte
on the line at an expired watch is the one that the bit clock tells (log 43), its frame returns also where that is the last
(log 45), the quiet count stands at 142 or more after STUCK_EXIT, and what a running quiet count has brought comes before
the arrival that ends it (both log 12). -/
def Obligations.LineStateChanges : Prop :=
  (∀ (kind : FrameKind) (s : State), s.handedOver = true → s.line.state ≠ .listenOnly → QuietSettled s →
      ∃ t, exec (.duplicateStationFrame kind) s = .next t
        ∧ PostsFirst ⟨s.time, .line, 0, s.homeView, s.station, 0, 1, kindByte kind⟩ s t
        ∧ (s.operating = true → t.sirens.summary.listenOnly = true)
        ∧ (s.operating = true → s.line.state = .stuck → t.sirens.summary.stuck = false)
        ∧ ((s.startup.state = .failed ∨ s.line.holding = none ∧ s.line.shift = none) →
            t.line.queue = s.line.queue)
        ∧ (s.startup.state ≠ .failed → s.line.queue.Pairwise (fun g h => g.cls ≤ h.cls) →
            t.line.queue
              = stageReturned s.line.holding
                (stageReturned (s.line.shift.map DrivenFrame.frame) s.line.queue))
        ∧ t =
          ({ s with
            startup :=
              { s.startup with
                frameHeard :=
                  if s.startup.echoDeadline.isSome = true then some true else s.startup.frameHeard }
            line :=
              { s.line with
                state := .listenOnly, holding := none, shift := none, queue := t.line.queue
                receiver := .hunting, quiet := 0, quietPart := 0, activity := if s.line.rests = true then .mark else .busy
                stuckWatch := none } }).withFaultsOf t)
    ∧ (∀ (s : State), due s.time s.line.stuckWatch = true → s.line.state = .listening →
        ∃ t, exec .stuckWatchExpiry s = .next t
          ∧ PostsFirst ⟨s.time, .line, 0, s.homeView, s.station, 0, 2, s.line.errorTally⟩ s t
          ∧ (s.operating = true → t.sirens.summary.stuck = true)
          ∧ ((s.startup.state = .failed ∨ s.line.holding = none ∧ s.line.shift = none) →
              t.line.queue = s.line.queue)
          ∧ (s.startup.state ≠ .failed → s.line.queue.Pairwise (fun g h => g.cls ≤ h.cls) →
              t.line.queue
                = stageReturned s.line.holding
                  (stageReturned (s.line.shift.map DrivenFrame.frame) s.line.queue))
          ∧ ((s.line.activity ≠ .own ∨ s.line.shift = none) →
              t.line.activity = s.line.activity ∧ t.line.receiver = s.line.receiver)
          ∧ (s.line.activity = .own → ∀ d ∈ s.line.shift,
              t.line.activity = .ownLast (d.bytes.getD (d.readBack s.time s.rate) 0)
                ∧ (s.line.receiver = .hunting → t.line.receiver = .hunting)
                ∧ (∀ start bytes, s.line.receiver = .taking start bytes →
                    t.line.receiver = .taking start (d.bytes.take (d.readBack s.time s.rate))))
          ∧ t =
            ({ s with
               line :=
                { s.line with
                  state := .stuck, stuckWatch := none, holding := none, shift := none
                  queue := t.line.queue, activity := t.line.activity
                  receiver := t.line.receiver } }).withFaultsOf t)
    ∧ (∀ (s : State), due s.time s.line.stuckWatch = true → s.line.state ≠ .listening →
        exec .stuckWatchExpiry s = .next { s with line := { s.line with stuckWatch := none } })
    ∧ (∀ (s : State), s.handedOver = true → s.line.state = .stuck →
        s.line.receiver = .hunting → (s.line.activity = .mark ∨ s.line.activity = .busy) →
        ∃ t, exec .stuckExit s = .next t
          ∧ PostsFirst ⟨s.time, .line, 0, s.homeView, s.station, 0, 3, s.line.errorTally⟩ s t
          ∧ (s.operating = true → t.sirens.summary.stuck = false)
          ∧ (s.line.holding = none → s.line.shift = none → ∀ f ∈ s.line.queue.head?,
              frameGap s.station f ≤ max 142 s.line.quiet →
              t.line.holding = some f ∧ t.line.queue = s.line.queue.tail)
          ∧ ((s.line.holding ≠ none ∨ s.line.shift ≠ none
                ∨ ∀ f ∈ s.line.queue.head?, max 142 s.line.quiet < frameGap s.station f) →
              t.line.holding = s.line.holding ∧ t.line.queue = s.line.queue)
          ∧ t =
            ({ s with
               line :=
                { s.line with
                  state := .listening, stuckWatch := none, activity := .mark, quiet := max 142 s.line.quiet
                  quietPart := if s.line.quiet < 142 then 0 else s.line.quietPart
                  queue := t.line.queue, holding := t.line.holding } }).withFaultsOf t)
    ∧ (∀ (s : State), s.handedOver = true → s.line.state ≠ .stuck →
        s.line.receiver = .hunting → (s.line.activity = .mark ∨ s.line.activity = .busy) →
        exec .stuckExit s
          = .next
            { s with
              line :=
                { s.line with
                  stuckWatch := none, activity := .mark, quiet := max 142 s.line.quiet
                  quietPart := if s.line.quiet < 142 then 0 else s.line.quietPart } })
    ∧ (∀ (b : StartBit) (s v : State), s.handedOver = true → s.line.state = .stuck →
        142 ≤ s.line.countAt b.quiet → (s.line.activity = .mark ∨ s.line.activity = .busy) →
        exec .frameBrokenOff s = .next v →
        ∃ t, exec (.foreignStartBit b) s = .next t
          ∧ PostsFirst ⟨v.time, .line, 0, v.homeView, v.station, 0, 3, v.line.errorTally⟩ v t
          ∧ (s.operating = true → t.sirens.summary.stuck = false)
          ∧ (s.line.holding = none → t.line.queue = v.line.queue)
          ∧ t =
            ({ v with
               line :=
                { v.line with
                  state := .listening, quiet := 0, quietPart := 0, activity := .byte b.data b.stop
                  receiver := .taking s.time [], holding := none, queue := t.line.queue
                  stuckWatch := some (later s.time (520 * bitTime s.rate / 1000)) } }).withFaultsOf t)
    ∧ (∀ (c : Instr) (s v : State), frameArrival c = true → s.handedOver = true → s.line.activity = .mark →
        s.line.state = .stuck → 142 ≤ s.line.quiet → exec .frameBrokenOff s = .next v →
        ∃ u, exec c s = exec c u ∧ QuietSettled u
          ∧ PostsFirst ⟨v.time, .line, 0, v.homeView, v.station, 0, 3, v.line.errorTally⟩ v u
          ∧ (s.operating = true → u.sirens.summary.stuck = false)
          ∧ u = ({ v with line := { v.line with state := .listening, stuckWatch := none } }).withFaultsOf u)
    ∧ (∀ (s v : State) (g f : OutFrame) (gs rest : List OutFrame), s.handedOver = true → s.line.state = .stuck →
        s.line.holding = none → s.line.shift = none → (s.line.activity = .mark ∨ s.line.activity = .busy) →
        s.line.queue = g :: gs → 142 ≤ s.line.countAt (frameGap s.station g) →
        exec .frameBrokenOff s = .next v → v.line.queue = f :: rest →
        ∃ t, exec .gapExpiry s = .next t
          ∧ PostsFirst ⟨v.time, .line, 0, v.homeView, v.station, 0, 3, v.line.errorTally⟩ v t
          ∧ (s.operating = true → t.sirens.summary.stuck = false)
          ∧ 142 ≤ t.line.quiet ∧ frameGap s.station g ≤ t.line.quiet ∧ v.line.quiet ≤ t.line.quiet
          ∧ t =
            ({ v with
               line :=
                { v.line with
                  state := .listening, queue := rest, holding := some f, activity := .mark, quiet := t.line.quiet
                  quietPart := if v.line.quiet < t.line.quiet then 0 else v.line.quietPart
                  stuckWatch := none } }).withFaultsOf t)
    ∧ (∀ (s : State) (g : OutFrame) (gs : List OutFrame), s.handedOver = true → s.line.queue = g :: gs →
        (s.line.activity = .mark ∨ s.line.activity = .busy) →
        (s.line.state = .listenOnly
          ∨ s.line.state = .stuck ∧ s.line.countAt (frameGap s.station g) < 142) →
        exec .gapExpiry s = exec .frameBrokenOff s
          ∧ (s.line.receiver = .hunting → exec .gapExpiry s = .next s))

/-- R73: PRESENCE_DEADLINE_EXPIRY sets the next deadline to the expired one plus P, and the PRESENCE that then waits
holds what the other blocks stand at. -/
def Obligations.PresencesArePlaced : Prop :=
  ∀ (s : State) (d : Instant), s.line.presenceDeadline = some d → before s.time d = false →
    ∃ t, exec .presenceDeadlineExpiry s = .next t
      ∧ t.line.waits
        (.presence
          { homeZone := s.cfg.homeZone, vote := s.zones.own, extraction := s.sequencer.state
            velocity := s.flow.velocity, flow := s.flow.status
            flags :=
              { channelFault := s.channelFault, lineDegraded := s.line.degraded, valveFault := s.valveFault
                stepFault := s.sequencer.stepFault } }) = true
      ∧ t =
        { s with
          line :=
            { s.line with
              presenceDeadline := some (later d s.cfg.presencePeriod)
              queue := t.line.queue, holding := t.line.holding } }

/-! ## Peer table and zone votes (section 5) -/

/-- R66 to R68, R86, R87 and R191: the four valid frames of another station make its presence entry LIVE, with a silence
deadline three presence periods ahead; a VOTE and a PRESENCE also store what they carry, where their zone and level are
good, and RESTART_RECEIVED of an untracked zone does nothing more. R98 to R100, R102: a VOTE or a PRESENCE that changes
its entry in operation recounts the zone it names: the zone's record holds the counts, the effective quorum and the vote
level that then stand, and HALT or FIRE there takes the view and the latch to HALT or above. The last byte of a VOTE
brings VOTE_RECEIVED where its CRC is good, and FRAME_ERROR where it is not. The line is one whose running quiet count has
brought nothing that is still to be taken (QuietSettled; LineErrorsAreCounted and LineStateChanges say what a frame on
another line does first). The model's choice: bytes given one by one end on an empty queue (log 20). -/
def Obligations.FramesReachTheirPresenceEntry : Prop :=
  (∀ (source zone level reason : Byte) (s : State) (l : Level), s.handedOver = true → validSource source = true →
      source.toNat ≠ s.station → levelOfCode level.toNat = some l → 1 ≤ zone.toNat → zone.toNat ≤ 15 → QuietSettled s →
      ∃ t, exec (.voteReceived source zone level reason) s = .next t
        ∧ t.line.passedTally = min (s.line.passedTally + 1) 65535
        ∧ t =
          ({ s with
            startup := t.startup, watch := t.watch
            line :=
              { s.line with
                quiet := 0, quietPart := 0, activity := if s.line.rests = true then .mark else .busy
                receiver := .hunting, stuckWatch := none
                passedTally := t.line.passedTally }
            peers := s.peers.set (stationIndex source)
              { s.peers[stationIndex source] with
                state := .live, lastHeard := some s.time
                silence := some (later s.time (3 * s.cfg.presencePeriod))
                homeZone := some zone.toNat, vote := some ⟨l, reasonOfCode reason.toNat⟩ } }).withZonesOf t)
    ∧ (∀ (source zone level reason : Byte) (s : State), s.handedOver = true → validSource source = true →
        source.toNat ≠ s.station → (3 < level.toNat ∨ zone.toNat = 0 ∨ 15 < zone.toNat) →
        ∃ t, exec (.voteReceived source zone level reason) s = .next t
          ∧ t.peers
            = s.peers.set (stationIndex source)
              { s.peers[stationIndex source] with
                state := .live, lastHeard := some s.time
                silence := some (later s.time (3 * s.cfg.presencePeriod)) })
    ∧ (∀ (source zone level reason extraction : Byte) (velocity : Half) (status : Byte) (s : State) (l : Level),
        s.handedOver = true → validSource source = true → source.toNat ≠ s.station →
        levelOfCode level.toNat = some l → 1 ≤ zone.toNat → zone.toNat ≤ 15 → QuietSettled s →
        ∃ t, exec (.presenceReceived source zone level reason extraction velocity status) s = .next t
          ∧ t =
            ({ s with
              startup := t.startup, watch := t.watch
              line :=
                { s.line with
                  quiet := 0, quietPart := 0, activity := if s.line.rests = true then .mark else .busy
                  receiver := .hunting, stuckWatch := none
                  passedTally := min (s.line.passedTally + 1) 65535 }
              peers := s.peers.set (stationIndex source)
                { state := .live, lastHeard := some s.time
                  silence := some (later s.time (3 * s.cfg.presencePeriod))
                  homeZone := some zone.toNat, vote := some ⟨l, reasonOfCode reason.toNat⟩
                  extraction := some extraction, velocity := some (velocity.toNat % 1024)
                  flow := some (flowOfCode (status.toNat / 16 % 8))
                  flags :=
                    some ⟨status.getLsbD 0, status.getLsbD 1, status.getLsbD 2,
                      status.getLsbD 3⟩ } }).withZonesOf t)
    ∧ (∀ (source zone level reason extraction : Byte) (velocity : Half) (status : Byte) (s : State),
        s.handedOver = true → validSource source = true → source.toNat ≠ s.station →
        (3 < level.toNat ∨ zone.toNat = 0 ∨ 15 < zone.toNat) →
        ∃ t, exec (.presenceReceived source zone level reason extraction velocity status) s = .next t
          ∧ t.peers
            = s.peers.set (stationIndex source)
              { s.peers[stationIndex source] with
                state := .live, lastHeard := some s.time
                silence := some (later s.time (3 * s.cfg.presencePeriod)) })
    ∧ (∀ (source channel count : Byte) (age span peak : Half) (s : State), s.handedOver = true →
        validSource source = true → source.toNat ≠ s.station → QuietSettled s →
        ∃ t, exec (.detectReceived source channel count age span peak) s = .next t
          ∧ t =
            ({ s with
              startup := t.startup, watch := t.watch, valves := t.valves
              line :=
                { s.line with
                  quiet := 0, quietPart := 0, activity := if s.line.rests = true then .mark else .busy
                  receiver := .hunting, stuckWatch := none
                  passedTally := min (s.line.passedTally + 1) 65535 }
              peers := s.peers.set (stationIndex source)
                { s.peers[stationIndex source] with
                  state := .live, lastHeard := some s.time
                  silence := some (later s.time (3 * s.cfg.presencePeriod)) } }).withZonesOf t)
    ∧ (∀ (source : Byte) (zone : Half) (s : State), s.handedOver = true → validSource source = true →
        source.toNat ≠ s.station → zone.toNat ≠ s.cfg.homeZone → s.zoneRecord zone.toNat = none → QuietSettled s →
        ∃ t, exec (.restartReceived source zone) s = .next t
          ∧ t =
            ({ s with
              startup := t.startup, watch := t.watch
              line :=
                { s.line with
                  quiet := 0, quietPart := 0, activity := if s.line.rests = true then .mark else .busy
                  receiver := .hunting, stuckWatch := none
                  passedTally := min (s.line.passedTally + 1) 65535 }
              peers := s.peers.set (stationIndex source)
                { s.peers[stationIndex source] with
                  state := .live, lastHeard := some s.time
                  silence := some (later s.time (3 * s.cfg.presencePeriod)) } }).withZonesOf t)
    ∧ (∀ (source zone level reason : Byte) (s : State) (l : Level) (r : Zone),
        s.operating = true → s.handedOver = true → validSource source = true → source.toNat ≠ s.station →
        levelOfCode level.toNat = some l → 1 ≤ zone.toNat → zone.toNat ≤ 15 → QuietSettled s →
        s.zoneRecord zone.toNat = some r → (r.confirmed = true → r.fireStart.isSome = true) →
        (s.peers[stationIndex source].state ≠ .live
          ∨ s.peers[stationIndex source].homeZone ≠ some zone.toNat
          ∨ s.peers[stationIndex source].vote ≠ some ⟨l, reasonOfCode reason.toNat⟩) →
        ∃ t, exec (.voteReceived source zone level reason) s = .next t
          ∧ (∃ u ∈ t.zoneRecord zone.toNat,
              u.countedIn t zone.toNat r.confirmed
                ∧ (2 ≤ levelCode l → 1 ≤ u.nHalt ∧ 2 ≤ levelCode u.view ∧ 2 ≤ levelCode u.latched)
                ∧ (l = .fire → u.quorum = 1 → u.view = .fire ∧ u.latched = .fire)))
    ∧ (∀ (source zone level reason extraction : Byte) (velocity : Half) (status : Byte) (s : State) (l : Level)
        (r : Zone),
        s.operating = true → s.handedOver = true → validSource source = true → source.toNat ≠ s.station →
        levelOfCode level.toNat = some l → 1 ≤ zone.toNat → zone.toNat ≤ 15 → QuietSettled s →
        s.zoneRecord zone.toNat = some r → (r.confirmed = true → r.fireStart.isSome = true) →
        (s.peers[stationIndex source].state ≠ .live
          ∨ s.peers[stationIndex source].homeZone ≠ some zone.toNat
          ∨ s.peers[stationIndex source].vote ≠ some ⟨l, reasonOfCode reason.toNat⟩) →
        ∃ t, exec (.presenceReceived source zone level reason extraction velocity status) s = .next t
          ∧ (∃ u ∈ t.zoneRecord zone.toNat,
              u.countedIn t zone.toNat r.confirmed
                ∧ (2 ≤ levelCode l → 1 ≤ u.nHalt ∧ 2 ≤ levelCode u.view ∧ 2 ≤ levelCode u.latched)
                ∧ (l = .fire → u.quorum = 1 → u.view = .fire ∧ u.latched = .fire)))
    ∧ (∀ (source zone level reason data : Byte) (stop : StopBit) (start : Instant) (bytes : List Byte) (s : State),
        s.pending = [] → dueCommand s = none → s.line.activity = .byte data stop →
        s.line.receiver = .taking start bytes → (stop = .mark ∨ stop = .followed) →
        bytes ++ [data]
          = [0x5B, 0x22, source, zone, level, reason]
            ++ bytes2 (crc16 [0x22, source, zone, level, reason]).toNat →
        step s = exec (.voteReceived source zone level reason) s)
    ∧ (∀ (source zone level reason c data : Byte) (stop : StopBit) (start : Instant) (s : State),
        s.handedOver = true → s.pending = [] → dueCommand s = none → s.line.activity = .byte data stop →
        s.line.receiver = .taking start [0x5B, 0x22, source, zone, level, reason, c] →
        (stop = .mark ∨ stop = .followed) →
        [c, data] ≠ bytes2 (crc16 [0x22, source, zone, level, reason]).toNat →
        step s = exec .frameError s)

/-- R40, R88 and R89: SILENCE_DEADLINE_EXPIRY of a LIVE entry makes it SILENT, keeps its fields, and marks the watch
entries of that origin. The model's choice: the STATION record stands before the other records of the same instant
(log 8). -/
def Obligations.SilentPeersKeepTheirFields : Prop :=
  ∀ (n : Fin 32) (s : State), due s.time s.peers[n].silence = true → s.peers[n].state = .live →
    ∃ t, exec (.silenceDeadlineExpiry n) s = .next t
      ∧ PostsFirst
        ⟨s.time, .station, n.val, s.homeView, s.station, 0, 2, s.peers[n].homeZone.getD 0⟩ s t
      ∧ (s.operating = true → t.zones.conditions.originSilent = t.watch.any WatchEntry.silent)
      ∧ t =
        ({ s with
          peers := s.peers.set n { s.peers[n] with state := .silent, silence := none }
          watch :=
            s.watch.map (fun e : WatchEntry =>
              { e with silent := e.silent || decide (e.origin = n.val) }) }).withZonesOf t

/-- R104 to R106: RESTART_RECEIVED for the home zone is accepted by an eligible node, which clears its latches and the
zone's stored votes and begins the restart, and refused by any other, whose VOTE then says so; for another tracked zone
it clears that zone. The line is one whose running quiet count has brought nothing that is still to be taken (QuietSettled;
LineErrorsAreCounted and LineStateChanges say what a RESTART on another line does first). -/
def Obligations.RestartsAreAcceptedOrRefused : Prop :=
  (∀ (source : Byte) (zone : Half) (s : State), s.operating = true → s.handedOver = true →
      validSource source = true → source.toNat ≠ s.station → s.peers[stationIndex source].state = .live →
      zone.toNat = s.cfg.homeZone → HomeFirst s → s.sequencer.state = .halted →
      s.zones.momentary = momentaryVote s →
      (s.zones.momentary.level = .clear ∨ s.zones.momentary.level = .watch) →
      s.recentDetection = false → QuietSettled s →
      ∃ t, exec (.restartReceived source zone) s = .next t
        ∧ t.zones.latched = none ∧ t.zones.own = s.zones.momentary ∧ t.zones.haltedAt = none
        ∧ (t.homeView = .clear ∨ t.homeView = .watch)
        ∧ (∀ n : Fin 32, s.peers[n].homeZone = some s.cfg.homeZone → t.peers[n].vote = some ⟨.clear, .none⟩)
        ∧ t.line.waits (.vote s.cfg.homeZone t.zones.own) = true
        ∧ t.sequencer.stepFault = false
        ∧ (t.sequencer.state = .damperOpening ∨ t.sequencer.state = .fanStarting
            ∨ t.sequencer.state = .gateReturning ∨ t.sequencer.state = .feedWait
            ∨ t.sequencer.state = .running)
        ∧ t = ({ s with startup := t.startup, peers := t.peers, line := t.line }).withZonesOf t)
    ∧ (∀ (source : Byte) (zone : Half) (s : State) (r : Zone) (rest : List Zone), s.operating = true →
        s.handedOver = true → validSource source = true → source.toNat ≠ s.station →
        s.peers[stationIndex source].state = .live → zone.toNat = s.cfg.homeZone →
        s.zones.zones = r :: rest → r.zone = s.cfg.homeZone → QuietSettled s →
        (s.sequencer.state ≠ .halted ∨ s.zones.momentary.level = .halt ∨ s.zones.momentary.level = .fire
          ∨ s.recentDetection = true) →
        ∃ t, exec (.restartReceived source zone) s = .next t
          ∧ t.line.waits
            (.vote s.cfg.homeZone ⟨Level.max r.latched s.zones.own.level, .restartRefused⟩) = true
          ∧ t =
            ({ s with
              startup := t.startup, line := t.line
              peers := s.peers.set (stationIndex source)
                { s.peers[stationIndex source] with
                  lastHeard := some s.time
                  silence := some (later s.time (3 * s.cfg.presencePeriod)) } }).withLogOf t)
    ∧ (∀ (source : Byte) (zone : Half) (s : State) (r : Zone), s.operating = true → s.handedOver = true →
        validSource source = true → source.toNat ≠ s.station → s.peers[stationIndex source].state = .live →
        zone.toNat ≠ s.cfg.homeZone → s.zoneRecord zone.toNat = some r → QuietSettled s →
        ∃ t, exec (.restartReceived source zone) s = .next t
          ∧ (∀ n : Fin 32, s.peers[n].homeZone = some zone.toNat → t.peers[n].vote = some ⟨.clear, .none⟩)
          ∧ (t.zoneRecord zone.toNat).map Zone.latched = some .clear
          ∧ (t.zoneRecord zone.toNat).map Zone.view = some .clear
          ∧ t.zones.own = s.zones.own ∧ t.zones.latched = s.zones.latched
          ∧ t = ({ s with startup := t.startup, peers := t.peers, line := t.line }).withZonesOf t)

/-- R91, R92 and R101: RING_DEADLINE_EXPIRY drops the entries whose time has come and recounts the vote, HALTED_AT_AGED
marks halted_at, and FIRE_PENDING_EXPIRY of a zone with a FIRE vote confirms FIRE there. -/
def Obligations.ZoneUnitDeadlinesExpire : Prop :=
  (∀ (s : State), s.operating = true → due s.time s.zones.ringDeadline = true →
      ∃ t, exec .ringDeadlineExpiry s = .next t
        ∧ t.zones.ring
          = s.zones.ring.filter
            (fun r => before s.time (later r (max (s.cfg.window * 1000) (s.cfg.clearTime * 1000))))
        ∧ t.zones.ringDeadline = nextRingDeadline t ∧ t.zones.momentary = momentaryVote t
        ∧ t = s.withZonesOf t)
    ∧ (∀ (s : State) (h : Instant), s.zones.haltedAt = some h → s.zones.aged = false →
        before s.time (later h (s.cfg.window * 1000)) = false →
        exec .haltedAtAged s = .next { s with zones := { s.zones with aged := true } })
    ∧ (∀ (z : Nat) (s : State) (r : Zone), s.operating = true → s.zoneRecord z = some r →
        due s.time r.fireDeadline = true → 1 ≤ votesAt s z .fire →
        ∃ t, exec (.firePendingExpiry z) s = .next t
          ∧ (t.zoneRecord z).map Zone.view = some .fire ∧ (t.zoneRecord z).map Zone.latched = some .fire
          ∧ t = s.withZonesOf t)

/-- R93 to R96, R102, R112 and R127: a flame head that becomes active puts the own vote and the home zone's view at
FIRE, and takes the sequencer out of RUNNING and the restart steps and every door of the home zone out of HELD. One
that goes inactive leaves the latched vote. The model's choice: the raw level and the debounce period of an input
follow the level that a contact command carries (log 6). -/
def Obligations.FlameStopsThePlant : Prop :=
  (∀ (i : Fin 2) (s : State), s.handedOver = true → s.operating = true → s.level (fhInput i) = false →
      HomeFirst s → s.zones.own.level ≠ .fire → s.homeView ≠ .fire →
      ∃ t, exec (.fhChange i true) s = .next t
        ∧ t.zones.momentary = ⟨.fire, .flame⟩ ∧ t.zones.own.level = .fire ∧ t.homeView = .fire
        ∧ t.line.waits (.vote s.cfg.homeZone t.zones.own) = true
        ∧ t.sequencer.state ≠ .running ∧ t.sequencer.state.restarting = false
        ∧ (s.sequencer.state = .running → t.sequencer.outputs.feed = false)
        ∧ (∀ d, watches s.cfg.homeZone (s.doors.get d).views = true → (t.doors.get d).state ≠ .held)
        ∧ t = (setLevel (fhInput i) true s).withZonesOf t)
    ∧ (∀ (i : Fin 2) (s : State) (v : Vote), s.handedOver = true → s.operating = true →
        s.level (fhInput i) = true → s.zones.latched = some v → v.level = .fire →
        ∃ t, exec (.fhChange i false) s = .next t
          ∧ t.zones.latched = some v ∧ t.zones.own = v
          ∧ t = (setLevel (fhInput i) false s).withZonesOf t)

/-! ## Extraction (section 6) -/

/-- R113, R114, R116, R118 and R126: a confirming input that its step waits on completes the step, and
STEP_TIMER_EXPIRY ends it, in fault but for RUN_ON; DAMPER_CLOSING leads to HALTED with halted_at set, and
FAN_STARTING in fault to HALTED with START_FAILED. An input that no step waits on changes its level alone. The model's
choices: the raw level and the debounce period of an input follow the level that a contact command carries (log 6),
and the length of a step is an unsigned difference of instants (log 34). -/
def Obligations.StepsCompleteOrFault : Prop :=
  (∀ (s : State), s.handedOver = true → s.operating = true → s.level .fsc = false →
      s.sequencer.state = .feedStopping → s.cfg.roles.abort = true → s.level .gv = false →
      ∃ t, exec (.confirmInputChange .fsc true) s = .next t
        ∧ Posts [⟨s.time, .step, 1, s.homeView, s.station, 0, 0, s.stepElapsed⟩] s t
        ∧ t =
          ({ setLevel .fsc true s with
            sequencer :=
              { s.sequencer with
                state := .venting, haltedCause := none, stepEntered := some s.time
                stepTimer := some (later s.time s.cfg.tGate)
                outputs := ⟨false, false, s.cfg.roles.fan, s.cfg.roles.damper⟩ } }).withLogOf t)
    ∧ (∀ (s : State), s.handedOver = true → s.operating = true → s.level .dmc = false →
        s.sequencer.state = .damperClosing →
        ∃ t, exec (.confirmInputChange .dmc true) s = .next t
          ∧ t.sequencer.state = .halted ∧ t.sequencer.haltedCause = some .shutdown
          ∧ t.sequencer.outputs = ⟨false, false, false, false⟩ ∧ t.sequencer.stepTimer = none
          ∧ t.zones.haltedAt = some s.time
          ∧ t = (setLevel .dmc true s).withZonesOf t)
    ∧ (∀ (i : ConfirmInput) (s : State), s.handedOver = true → s.operating = true →
        s.level (confirmInput i) = false → inputConfirms i s.sequencer.state = true →
        ∃ t, exec (.confirmInputChange i true) s = .next t
          ∧ t.sequencer.state ≠ s.sequencer.state
          ∧ t = (setLevel (confirmInput i) true s).withZonesOf t)
    ∧ (∀ (i : ConfirmInput) (active : Bool) (s : State), s.handedOver = true →
        s.level (confirmInput i) ≠ active → (active = true → inputConfirms i s.sequencer.state = false) →
        exec (.confirmInputChange i active) s = .next (setLevel (confirmInput i) active s))
    ∧ (∀ (s : State), s.operating = true → due s.time s.sequencer.stepTimer = true →
        s.sequencer.state = .runOn →
        ∃ t, exec .stepTimerExpiry s = .next t
          ∧ t.sequencer.state ≠ .runOn ∧ t.sequencer.stepFault = s.sequencer.stepFault
          ∧ t = s.withZonesOf t)
    ∧ (∀ (s : State), s.operating = true → due s.time s.sequencer.stepTimer = true →
        (s.sequencer.state = .feedStopping ∨ s.sequencer.state = .venting ∨ s.sequencer.state = .fanStopping
          ∨ s.sequencer.state = .damperClosing ∨ s.sequencer.state = .damperOpening
          ∨ s.sequencer.state = .gateReturning) →
        ∃ t, exec .stepTimerExpiry s = .next t
          ∧ t.sequencer.state ≠ s.sequencer.state ∧ t.sequencer.stepFault = true
          ∧ t.sirens.summary.stepFault = true
          ∧ t = s.withZonesOf t)
    ∧ (∀ (s : State), s.operating = true → due s.time s.sequencer.stepTimer = true →
        s.sequencer.state = .fanStarting →
        ∃ t, exec .stepTimerExpiry s = .next t
          ∧ t.sequencer
            = { s.sequencer with
                state := .halted, haltedCause := some .startFailed, stepTimer := none, stepEntered := none
                stepFault := true, outputs := ⟨false, false, false, false⟩ }
          ∧ t = ({ s with sequencer := t.sequencer }).withFaultsOf t)

/-- R121 to R123: the key sequence: K1 turns and releases it, UNLOCK_DEADLINE_EXPIRY spends it, and K2 with the key
turned makes one restart request, which is refused, or begins a local or a zone restart. The model's choice: the raw
level and the debounce period of an input follow the level that a contact command carries (log 6). -/
def Obligations.KeySequenceMakesRequests : Prop :=
  (∀ (s : State), s.handedOver = true → s.operating = true → s.level .k1 = false → s.sequencer.key = .idle →
      exec (.k1Change true) s
        = .next
          { setLevel .k1 true s with
            sequencer :=
              { s.sequencer with
                key := .keyTurned, unlockDeadline := some (later s.time (s.cfg.unlockTime * 1000)) } })
    ∧ (∀ (s : State), s.handedOver = true → s.operating = true → s.level .k1 = true → s.sequencer.key ≠ .idle →
        exec (.k1Change false) s
          = .next
            { setLevel .k1 false s with
              sequencer := { s.sequencer with key := .idle, unlockDeadline := none } })
    ∧ (∀ (s : State), due s.time s.sequencer.unlockDeadline = true → s.sequencer.key = .keyTurned →
        exec .unlockDeadlineExpiry s
          = .next { s with sequencer := { s.sequencer with key := .spent, unlockDeadline := none } })
    ∧ (∀ (s : State), s.handedOver = true → s.level .k2 = false → s.sequencer.key ≠ .keyTurned →
        exec .k2Press s = .next (setLevel .k2 true s))
    ∧ (∀ (s : State), s.handedOver = true → s.level .k2 = true →
        exec .k2Release s = .next (setLevel .k2 false s))
    ∧ (∀ (s : State), s.handedOver = true → s.operating = true → s.level .k2 = false →
        s.sequencer.key = .keyTurned →
        (s.sequencer.state ≠ .halted ∨ s.zones.momentary.level = .halt ∨ s.zones.momentary.level = .fire
          ∨ s.recentDetection = true) →
        ∃ t, exec .k2Press s = .next t
          ∧ t =
            ({ setLevel .k2 true s with
              sequencer := { s.sequencer with key := .spent, unlockDeadline := none } }).withLogOf t)
    ∧ (∀ (s : State), s.handedOver = true → s.operating = true → s.level .k2 = false →
        s.sequencer.key = .keyTurned → s.sequencer.state = .halted → s.zones.momentary = momentaryVote s →
        (s.zones.momentary.level = .clear ∨ s.zones.momentary.level = .watch) → HomeFirst s →
        s.recentDetection = false → RestartLaw s →
        ∃ t, exec .k2Press s = .next t
          ∧ t.sequencer.key = .spent ∧ t.sequencer.stepFault = false ∧ t.sequencer.state ≠ .halted
          ∧ ((s.homeView = .halt ∨ s.homeView = .fire) → t.line.waits (.restart s.cfg.homeZone) = true)
          ∧ t = ({ setLevel .k2 true s with peers := t.peers }).withZonesOf t)

/-! ## Fire doors (section 7) -/

/-- R137 to R144: the door states that DC_CHANGE, CC_CHANGE, CLEAR_DEADLINE_EXPIRY and TRAVEL_DEADLINE_EXPIRY lead to,
with the travel deadline and the jam that go with them. The model's choices: the DOOR record stands before the other
records of the same instant (log 8), and the raw level and the debounce period of an input follow the level that a
contact command carries (log 6). -/
def Obligations.DoorsFollowTheirSwitches : Prop :=
  (∀ (d : Fin 2) (s : State), s.handedOver = true → s.operating = true → s.level (dcInput d) = false →
      ((s.doors.get d).state = .clearing ∨ (s.doors.get d).state = .released
        ∨ (s.doors.get d).state = .jammed) →
      ∃ t, exec (.dcChange d true) s = .next t
        ∧ PostsFirst ⟨s.time, .door, d.val, s.homeView, s.station, 0, 4, 5⟩ s t
        ∧ (t.doors.get d).state
          = (if (s.doors.get d).views.any (fun e => decide (e.2 = .fire)) = true then .closed else .armed)
        ∧ (t.doors.get d).clearDeadline = none ∧ (t.doors.get d).travelDeadline = none
        ∧ t =
          ({ setLevel (dcInput d) true s with
            doors := s.doors.set d (t.doors.get d), sequencer := t.sequencer }).withFaultsOf t)
    ∧ (∀ (d : Fin 2) (s : State), s.handedOver = true → s.operating = true → s.level (dcInput d) = false →
        (s.doors.get d).state = .held →
        ∃ t, exec (.dcChange d true) s = .next t
          ∧ (t.doors.get d).state = .armed ∧ (t.doors.get d).holder = true
          ∧ PostsFirst ⟨s.time, .door, d.val, s.homeView, s.station, 0, 5, 5⟩ s t
          ∧ t =
            ({ setLevel (dcInput d) true s with
              doors := s.doors.set d (t.doors.get d), sequencer := t.sequencer }).withFaultsOf t)
    ∧ (∀ (d : Fin 2) (s : State), s.handedOver = true → s.operating = true → s.level (dcInput d) = true →
        (s.doors.get d).state = .armed →
        ∃ t, exec (.dcChange d false) s = .next t
          ∧ (t.doors.get d).state = .held ∧ (t.doors.get d).holder = true
          ∧ PostsFirst ⟨s.time, .door, d.val, s.homeView, s.station, 0, 1, 8⟩ s t
          ∧ t =
            ({ setLevel (dcInput d) false s with
              doors := s.doors.set d (t.doors.get d), sequencer := t.sequencer }).withFaultsOf t)
    ∧ (∀ (d : Fin 2) (s : State), s.handedOver = true → s.operating = true → s.level (dcInput d) = true →
        (s.doors.get d).state = .closed →
        ∃ t, exec (.dcChange d false) s = .next t
          ∧ (t.doors.get d).state = .released ∧ (t.doors.get d).holder = false
          ∧ PostsFirst ⟨s.time, .door, d.val, s.homeView, s.station, 0, 3, 9⟩ s t
          ∧ (t.doors.get d).travelDeadline = some (later s.time ((s.cfg.doors.get d).tTravel * 1000))
          ∧ t =
            ({ setLevel (dcInput d) false s with
              doors := s.doors.set d (t.doors.get d), sequencer := t.sequencer }).withFaultsOf t)
    ∧ (∀ (d : Fin 2) (s : State), s.handedOver = true → s.operating = true → s.level (ccInput d) = false →
        (s.doors.get d).state = .clearing → s.level (dcInput d) = false →
        ∃ t, exec (.ccChange d true) s = .next t
          ∧ PostsFirst ⟨s.time, .door, d.val, s.homeView, s.station, 0, 3, 2⟩ s t
          ∧ (t.doors.get d).state = .released ∧ (t.doors.get d).clearDeadline = none
          ∧ (t.doors.get d).travelDeadline = some (later s.time ((s.cfg.doors.get d).tTravel * 1000))
          ∧ t =
            ({ setLevel (ccInput d) true s with
              doors := s.doors.set d (t.doors.get d), sequencer := t.sequencer }).withFaultsOf t)
    ∧ (∀ (d : Fin 2) (s : State), s.handedOver = true → s.level (ccInput d) = false →
        (s.doors.get d).state ≠ .clearing →
        exec (.ccChange d true) s = .next (setLevel (ccInput d) true s))
    ∧ (∀ (d : Fin 2) (s : State), s.handedOver = true → s.level (ccInput d) = true →
        exec (.ccChange d false) s = .next (setLevel (ccInput d) false s))
    ∧ (∀ (d : Fin 2) (s : State), s.operating = true → due s.time (s.doors.get d).clearDeadline = true →
        (s.doors.get d).state = .clearing → s.level (dcInput d) = false →
        ∃ t, exec (.clearDeadlineExpiry d) s = .next t
          ∧ PostsFirst
            ⟨s.time, .clearTimeout, d.val, s.homeView, s.station, 0, (s.cfg.doors.get d).tClear * 1000, 0⟩ s t
          ∧ (t.doors.get d).state = .released ∧ (t.doors.get d).clearDeadline = none
          ∧ (t.doors.get d).travelDeadline = some (later s.time ((s.cfg.doors.get d).tTravel * 1000))
          ∧ t =
            ({ s with
              doors := s.doors.set d (t.doors.get d), sequencer := t.sequencer }).withFaultsOf t)
    ∧ (∀ (d : Fin 2) (s : State), s.operating = true → due s.time (s.doors.get d).travelDeadline = true →
        (s.doors.get d).state = .released →
        ∃ t, exec (.travelDeadlineExpiry d) s = .next t
          ∧ PostsFirst ⟨s.time, .door, d.val, s.homeView, s.station, 0, 6, 6⟩ s t
          ∧ (t.doors.get d).state = .jammed ∧ (t.doors.get d).travelDeadline = none
          ∧ t.sirens.summary.doorJammed = true
          ∧ t =
            ({ s with
              doors := s.doors.set d (t.doors.get d), sequencer := t.sequencer }).withFaultsOf t)

/-! ## Yard sirens (section 8) -/

/-- R148 to R152: SIL silences each siren whose grant is not QUIET; a phase ends, a cycle ends and the next begins, a
pending rise is taken at a cycle's end, and a silence ends by resound. The model's choices: siren 0 is silenced before
siren 1 and the record of a silence's end stands before that of the pattern (log 8), and the raw level and the
debounce period of SIL follow the level that SIL_CHANGE carries (log 6). -/
def Obligations.SirensCycleAndFallSilent : Prop :=
  (∀ (s : State), s.handedOver = true → s.operating = true → s.level .sil = false →
      ∃ t, exec (.silChange true) s = .next t
        ∧ (∀ i, t.sirens.sirens.get i
            = if Level.le .halt (highestView (s.sirens.sirens.get i).views) = true then
                { s.sirens.sirens.get i with
                  sounding := .quiet, output := false, phase := none, phaseDeadline := none
                  cycleDeadline := none, cycles := none, pendingRise := false
                  silenced := some (highestView (s.sirens.sirens.get i).views)
                  resoundDeadline :=
                    if s.cfg.resound = 0 then none else some (later s.time (s.cfg.resound * 60000)) }
              else s.sirens.sirens.get i)
        ∧ Posts
          (([0, 1] : List (Fin 2)).filterMap fun i =>
            if Level.le .halt (highestView (s.sirens.sirens.get i).views) = true then
              some
                ⟨s.time, .siren, i.val, s.homeView, s.station, 0, 3,
                  levelCode (highestView (s.sirens.sirens.get i).views)⟩
            else none) s t
        ∧ t =
          ({ setLevel .sil true s with
            sirens := { s.sirens with sirens := t.sirens.sirens } }).withLogOf t)
    ∧ (∀ (s : State), s.handedOver = true → s.level .sil = true →
        exec (.silChange false) s = .next (setLevel .sil false s))
    ∧ (∀ (i : Fin 2) (s : State), s.operating = true →
        due s.time (s.sirens.sirens.get i).phaseDeadline = true →
        exec (.phaseDeadlineExpiry i) s
          = .next
            { s with
              sirens :=
                { s.sirens with
                  sirens :=
                    s.sirens.sirens.set i
                      { s.sirens.sirens.get i with
                        output := false, phase := some .off, phaseDeadline := none } } })
    ∧ (∀ (i : Fin 2) (s : State) (n : Nat), s.operating = true →
        due s.time (s.sirens.sirens.get i).cycleDeadline = true →
        (s.sirens.sirens.get i).pendingRise = false → (s.sirens.sirens.get i).sounding = .pulse →
        (s.sirens.sirens.get i).cycles = some n →
        exec (.cycleDeadlineExpiry i) s
          = .next
            { s with
              sirens :=
                { s.sirens with
                  sirens :=
                    s.sirens.sirens.set i
                      { s.sirens.sirens.get i with
                        output := true, phase := some .on, phaseDeadline := some (later s.time 1000)
                        cycleDeadline := some (later s.time 2000), cycles := some (min (n + 1) 65535) } } })
    ∧ (∀ (i : Fin 2) (s : State) (n : Nat), s.operating = true →
        due s.time (s.sirens.sirens.get i).cycleDeadline = true →
        (s.sirens.sirens.get i).pendingRise = false → (s.sirens.sirens.get i).sounding = .steady →
        (s.sirens.sirens.get i).cycles = some n →
        exec (.cycleDeadlineExpiry i) s
          = .next
            { s with
              sirens :=
                { s.sirens with
                  sirens :=
                    s.sirens.sirens.set i
                      { s.sirens.sirens.get i with
                        output := true, phase := none, phaseDeadline := none
                        cycleDeadline := some (later s.time 1000), cycles := some (min (n + 1) 65535) } } })
    ∧ (∀ (i : Fin 2) (s : State) (n : Nat), s.operating = true →
        due s.time (s.sirens.sirens.get i).cycleDeadline = true →
        (s.sirens.sirens.get i).pendingRise = true → (s.sirens.sirens.get i).cycles = some n →
        ∃ t, exec (.cycleDeadlineExpiry i) s = .next t
          ∧ Posts
            [⟨s.time, .siren, i.val, s.homeView, s.station, 0, 2, min (n + 1) 65535⟩] s t
          ∧ t =
            ({ s with
               sirens :=
                { s.sirens with
                  sirens :=
                    s.sirens.sirens.set i
                      { s.sirens.sirens.get i with
                        sounding := .steady, output := true, phase := none, phaseDeadline := none
                        cycleDeadline := some (later s.time 1000), cycles := some 0
                        pendingRise := false } } }).withLogOf t)
    ∧ (∀ (i : Fin 2) (s : State), s.operating = true →
        due s.time (s.sirens.sirens.get i).resoundDeadline = true →
        ∃ t, exec (.resoundDeadlineExpiry i) s = .next t
          ∧ (t.sirens.sirens.get i).silenced = none ∧ (t.sirens.sirens.get i).resoundDeadline = none
          ∧ (t.sirens.sirens.get i).sounding = (s.sirens.sirens.get i).granted
          ∧ ((t.sirens.sirens.get i).output = true ↔ (s.sirens.sirens.get i).granted ≠ .quiet)
          ∧ Posts
            [⟨s.time, .siren, i.val, s.homeView, s.station, 0, 4, 2⟩,
             ⟨s.time, .siren, i.val, s.homeView, s.station, 0, patternCode (s.sirens.sirens.get i).granted,
               (s.sirens.sirens.get i).cycles.getD 0⟩] s t
          ∧ t =
            ({ s with
               sirens :=
                { s.sirens with
                  sirens :=
                    s.sirens.sirens.set i (t.sirens.sirens.get i) } }).withLogOf t)

/-! ## Event queue and evidence log (section 9) -/

/-- R158, R159, R162 and R163: an event posted joins the account with the instant, the home view and the station; the log
store takes it in IDLE; a full queue keeps its oldest or its newest records by the overflow mode and counts what is
lost, and nothing else of the node changes. -/
def Obligations.EventsArePosted : Prop :=
  (∀ (kind : EventKind) (subject value1 value2 flags : Nat) (s : State),
      Posts [⟨s.time, kind, subject, s.homeView, s.station, flags, value1, value2⟩] s
          (post kind subject value1 value2 flags s)
        ∧ post kind subject value1 value2 flags s = s.withLogOf (post kind subject value1 value2 flags s))
    ∧ (∀ (kind : EventKind) (subject value1 value2 flags : Nat) (s : State), s.log.store.state = .idle →
        s.log.events.queue = [] → s.log.events.lost = 0 → s.log.store.buffer.length < 31 →
        (post kind subject value1 value2 flags s).log.store.buffer
            = s.log.store.buffer ++ [⟨s.time, kind, subject, s.homeView, s.station, flags, value1, value2⟩]
          ∧ (post kind subject value1 value2 flags s).log.events.queue = []
          ∧ (post kind subject value1 value2 flags s).log.store.state = .idle)
    ∧ (∀ (kind : EventKind) (subject value1 value2 flags : Nat) (s : State), s.log.store.state ≠ .idle →
        s.log.events.queue.length = 32 → s.log.events.mode = .keepOldest →
        (post kind subject value1 value2 flags s).log
          = { s.log with events := { s.log.events with lost := min (s.log.events.lost + 1) 65535 } })
    ∧ (∀ (kind : EventKind) (subject value1 value2 flags : Nat) (s : State) (h : Record) (rest : List Record),
        s.log.store.state ≠ .idle → s.log.events.queue = h :: rest → rest.length = 31 →
        s.log.events.mode = .keepNewest →
        (post kind subject value1 value2 flags s).log
          = { s.log with
              events :=
                { s.log.events with
                  queue := rest ++ [⟨s.time, kind, subject, s.homeView, s.station, flags, value1, value2⟩]
                  lost :=
                    min (s.log.events.lost + (if h.kind = .overflow then h.value1 else 1)) 65535 } })

/-- R164, R165, R167 and R168: a successful PAGE_PROGRAM_COMPLETE leaves the unprogrammed records' bytes at their
place in the page and every other byte as it was, protects the block of a FIRE record, and closes a full page; a
failed one retires the block, keeps the buffer and leaves every byte outside those records' place. The model's choice: a
failure raises the count of the free values, on which the bytes left behind rest (log 9). -/
def Obligations.PageProgramsComplete : Prop :=
  (∀ (b p : Fin 16) (s : State), MemoryLaw s → s.log.store.state = .programming →
      s.log.store.position = some (b, p) →
      ∃ t, exec (.pageProgramComplete true) s = .next t
        ∧ Memory.readBytes t.log.array (pageAddress b p + 16 * s.log.store.programmed)
            (16 * s.log.store.unprogrammed.length)
          = (s.log.store.unprogrammed.map recordBytes).flatten
        ∧ (∀ a : Nat, (a < pageAddress b p + 16 * s.log.store.programmed
              ∨ pageAddress b p + 16 * s.log.store.programmed + 16 * s.log.store.unprogrammed.length ≤ a) →
            Memory.read t.log.array a = Memory.read s.log.array a)
        ∧ (s.log.store.unprogrammed.any (fun r => decide (r.context = .fire)) = true →
            t.log.store.table[b].isProtected = true ∧ t.log.headers[b].isProtected = true)
        ∧ t =
          { s with
            log := t.log, service := t.service
            sirens := { s.sirens with summary := t.sirens.summary, relay := t.sirens.relay } })
    ∧ (∀ (b p : Fin 16) (s : State), s.log.store.state = .programming → s.log.store.position = some (b, p) →
        s.log.headers[b].counts[p] < 4 → s.log.store.buffer.length < 32 →
        s.log.store.unprogrammed.any (fun r => decide (r.context = .fire)) = false →
        s.log.events.queue = [] → s.log.store.flushPending = false →
        ∃ t, exec (.pageProgramComplete true) s = .next t
          ∧ t.log.store
            = { s.log.store with state := .idle, programmed := s.log.store.buffer.length })
    ∧ (∀ (b p : Fin 16) (s : State), s.log.store.state = .programming → s.log.store.position = some (b, p) →
        s.log.headers[b].counts[p] = 4 → p.val < 15 → s.log.store.table[b].isProtected = false →
        s.log.store.table[b].retired = false →
        s.log.store.unprogrammed.any (fun r => decide (r.context = .fire)) = false →
        s.log.events.queue = [] →
        ∃ t, exec (.pageProgramComplete true) s = .next t
          ∧ t.log.store.state = .idle ∧ t.log.store.position = some (b, p + 1)
          ∧ t.log.store.buffer = [] ∧ t.log.store.programmed = 0)
    ∧ (∀ (b p : Fin 16) (s : State), s.log.store.state = .programming → s.log.store.position = some (b, p) →
        ∃ t, exec (.pageProgramComplete false) s = .next t
          ∧ t.log.store.table[b].retired = true ∧ t.log.headers[b].retired = true
          ∧ t.log.store.buffer = s.log.store.buffer ∧ t.log.store.programmed = 0
          ∧ (∀ a : Nat, (a < pageAddress b p + 16 * s.log.store.programmed
                ∨ pageAddress b p + 16 * s.log.store.programmed + 16 * s.log.store.unprogrammed.length ≤ a) →
              Memory.read t.log.array a = Memory.read s.log.array a)
          ∧ (t.log.store.state = .erasing ∨ t.log.store.state = .full)
          ∧ t =
            { s with
              log := t.log, service := t.service, freeCount := s.freeCount + 1
              sirens := { s.sirens with summary := t.sirens.summary, relay := t.sirens.relay } })

/-- R166 and R168: a successful ERASE_COMPLETE leaves the block blank with the next sequence number and every other
block as it was; a failed one retires the block, leaves every other block's bytes and searches on. The model's choices: an
erased byte reads as the blank byte (log 3), the block being erased is the write position's (log 17), and a failure raises
the count of the free values (log 9). -/
def Obligations.ErasesComplete : Prop :=
  (∀ (b p : Fin 16) (s : State), s.log.store.state = .erasing → s.log.store.position = some (b, p) →
      ∃ t, exec (.eraseComplete true) s = .next t
        ∧ t.log.headers[b].sequence = some s.log.store.nextSequence
        ∧ t.log.store.table[b] = ⟨some s.log.store.nextSequence, false, false⟩
        ∧ t.log.store.nextSequence = s.log.store.nextSequence + 1
        ∧ (∀ a : Nat, pageAddress b 0 ≤ a → a < pageAddress b 0 + 8192 →
            Memory.read t.log.array a = blankByte)
        ∧ (∀ a : Nat, (a < pageAddress b 0 ∨ pageAddress b 0 + 8192 ≤ a) →
            Memory.read t.log.array a = Memory.read s.log.array a)
        ∧ (s.log.store.unprogrammed ≠ [] → t.log.store.state = .programming)
        ∧ (s.log.store.buffer = [] → s.log.events.queue = [] →
            t.log.store.state = .idle ∧ t.log.store.flushPending = false)
        ∧ t = { s with log := t.log, service := t.service })
    ∧ (∀ (b p : Fin 16) (s : State), s.log.store.state = .erasing → s.log.store.position = some (b, p) →
        ∃ t, exec (.eraseComplete false) s = .next t
          ∧ t.log.store.table[b].retired = true ∧ t.log.headers[b].retired = true
          ∧ t.log.store.buffer = s.log.store.buffer
          ∧ (∀ a : Nat, (a < pageAddress b 0 ∨ pageAddress b 0 + 8192 ≤ a) →
              Memory.read t.log.array a = Memory.read s.log.array a)
          ∧ (t.log.store.state = .erasing ∨ t.log.store.state = .full)
          ∧ t =
            { s with
              log := t.log, service := t.service, freeCount := s.freeCount + 1
              sirens := { s.sirens with summary := t.sirens.summary, relay := t.sirens.relay } })

/-! ## Service port (section 11) -/

/-- R183 to R185: where the command byte and the parameters are stored by SERVICE_AREA_WRITE, what STATUS_CLEAR and a
write to offset 1 do, that the reply is the node's own, and that an unknown command code is answered BAD_COMMAND. No
command waits at a port that is IDLE with status 0; one that waits for the status is taken when the status is cleared.
The model's choice: STATUS_CLEAR is a write of one byte, which leaves the offset at 2 (log 25). -/
def Obligations.AreaWritesAreApplied : Prop :=
  (∀ (o b : Byte) (s : State), s.startup.state ≠ .resetting → s.service.port ≠ .idle →
      exec (.serviceAreaWrite [o, b]) s
        = .next
          { s with
            service :=
              if o.toNat % 32 = 0 then { s.service with command := b, offset := 1 }
              else if o.toNat % 32 = 1 then { s.service with status := 0, offset := 2 }
              else if o.toNat % 32 < 10 then
                { s.service with
                  params := s.service.params.set (o.toNat % 32 - 2) b, offset := o.toNat % 32 + 1 }
              else { s.service with offset := (o.toNat + 1) % 32 } })
    ∧ (∀ (b c : Byte) (s : State), s.startup.state ≠ .resetting → s.service.port ≠ .idle →
        exec (.serviceAreaWrite [31, b, c]) s
          = .next { s with service := { s.service with command := c, offset := 1 } })
    ∧ (∀ (o : Byte) (s : State), s.startup.state ≠ .resetting → s.service.port ≠ .idle →
        exec (.serviceAreaWrite [o]) s = .next { s with service := { s.service with offset := o.toNat % 32 } })
    ∧ (∀ (c : Byte) (s : State), s.portReady → 12 < c.toNat →
        exec (.serviceAreaWrite [0, c]) s
          = .next
            { s with
              service :=
                { s.service with
                  command := 0, status := statusBadCommand, reply := List.replicate 22 0, offset := 1 } })
    ∧ (∀ (s : State), s.startup.state ≠ .resetting → (s.service.port ≠ .idle ∨ s.service.command = 0) →
        exec .statusClear s = .next { s with service := { s.service with status := 0, offset := 2 } })
    ∧ (∀ (c : Byte) (s : State), s.startup.state ≠ .resetting → s.service.port = .idle → s.service.status ≠ 0 →
        s.service.command = 0x06 →
        exec (.serviceAreaWrite [1, c]) s
            = .next
              { s with
                service :=
                  { s.service.completed s.service.params statusOk (replyLogPosition s.log) with offset := 2 } }
          ∧ exec .statusClear s
            = .next
              { s with
                service :=
                  { s.service.completed s.service.params statusOk (replyLogPosition s.log) with offset := 2 } })
    ∧ (∀ (s : State), s.startup.state ≠ .resetting → s.service.port = .idle → s.service.status ≠ 0 →
        12 < s.service.command.toNat →
        exec .statusClear s
          = .next
            { s with
              service := { s.service.completed s.service.params statusBadCommand [] with offset := 2 } })
    ∧ (∀ (c : Byte) (s : State), s.startup.state ≠ .resetting → s.service.status ≠ 0 →
        exec (.serviceAreaWrite [0, c]) s
          = .next { s with service := { s.service with command := c, offset := 1 } })
    ∧ (∀ s t : State, PortLaw s → step s = .next t → PortLaw t)

/-- R20, R29, R61, R84, R108, R130, R144, R154, R171, R182, R185 and R186: each reading command, given to a port that
is ready, is completed at once with status OK and its owner's reply, or with BAD_PARAM and a reply of zeros, and
changes nothing but the exchange area. The model's choices: a command that is given stores its parameters filled with
zeros (log 25), the codes of A.4 that the manual does not number and the bytes of absent fields are those of log 14,
the widths and orders of the replies those of logs 18, 36 and 37, and settle remaining before the seeding sample that of
log 39. -/
def Obligations.ReadingCommandsAnswer : Prop :=
  (∀ (n : Byte) (s : State), s.portReady →
      exec (.nodeStatus n) s
        = .next
          { s with
            service :=
              if n.toNat ≤ 5 then
                s.service.completed [n, 0, 0, 0, 0, 0, 0, 0] statusOk (replyStatus n.toNat s)
              else s.service.completed [n, 0, 0, 0, 0, 0, 0, 0] statusBadParam [] })
    ∧ (∀ (n : Byte) (s : State), s.portReady →
        exec (.readPresence n) s
          = .next
            { s with
              service :=
                if 1 ≤ n.toNat ∧ n.toNat ≤ 31 ∧ n.toNat ≠ s.station then
                  s.service.completed [n, 0, 0, 0, 0, 0, 0, 0] statusOk
                    (replyPresence s.peers[stationIndex n])
                else s.service.completed [n, 0, 0, 0, 0, 0, 0, 0] statusBadParam [] })
    ∧ (∀ (n : Byte) (s : State) (z : Zone), s.portReady → s.zoneRecord n.toNat = some z → 1 ≤ n.toNat →
        n.toNat ≤ 15 →
        exec (.readZone n) s
          = .next
            { s with service := s.service.completed [n, 0, 0, 0, 0, 0, 0, 0] statusOk (replyZone z) })
    ∧ (∀ (n : Byte) (s : State), s.portReady → s.zoneRecord n.toNat = none →
        exec (.readZone n) s
          = .next { s with service := s.service.completed [n, 0, 0, 0, 0, 0, 0, 0] statusBadParam [] })
    ∧ (∀ (n : Fin 4) (s : State), s.portReady →
        exec (.readChannel (BitVec.ofNat 8 n.val)) s
          = .next
            { s with
              service :=
                s.service.completed [BitVec.ofNat 8 n.val, 0, 0, 0, 0, 0, 0, 0] statusOk
                  (replyChannel (s.cfg.channels.get n) (s.channels.get n)) })
    ∧ (∀ (n : Byte) (s : State), s.portReady → 3 < n.toNat →
        exec (.readChannel n) s
          = .next { s with service := s.service.completed [n, 0, 0, 0, 0, 0, 0, 0] statusBadParam [] })
    ∧ (∀ (v : Fin 2) (s : State), s.portReady →
        exec (.readValve (BitVec.ofNat 8 v.val)) s
          = .next
            { s with
              service :=
                s.service.completed [BitVec.ofNat 8 v.val, 0, 0, 0, 0, 0, 0, 0] statusOk
                  (replyValve (s.valves.valves.get v) s.valves) })
    ∧ (∀ (n : Byte) (s : State), s.portReady → 1 < n.toNat →
        exec (.readValve n) s
          = .next { s with service := s.service.completed [n, 0, 0, 0, 0, 0, 0, 0] statusBadParam [] })
    ∧ (∀ (s : State), s.portReady →
        exec .readLogPosition s
          = .next
            { s with
              service :=
                s.service.completed [0, 0, 0, 0, 0, 0, 0, 0] statusOk (replyLogPosition s.log) })
    ∧ (∀ (s : State) (b p : Fin 16), s.portReady → s.log.store.position = some (b, p) →
        ∃ t, exec .readLogPosition s = .next t
          ∧ t.service.reply.take 6
            = [BitVec.ofNat 8 (logStateCode s.log.store.state), BitVec.ofNat 8 b.val, BitVec.ofNat 8 p.val,
               BitVec.ofNat 8 s.log.store.buffer.length, BitVec.ofNat 8 s.log.store.programmed,
               if s.log.store.flushPending = true then 1 else 0])
    ∧ (∀ (n : Fin 4) (s : State) (b : Nat), s.portReady → (s.channels.get n).baseline = some b →
        ∃ t, exec (.readChannel (BitVec.ofNat 8 n.val)) s = .next t
          ∧ t.service.reply.take 7
            = [BitVec.ofNat 8 (channelStateCode (s.channels.get n).state)] ++ bytes2 (b / 64)
              ++ bytes2 ((s.cfg.channels.get n).tripAt b) ++ bytes2 ((s.cfg.channels.get n).rearmAt b))
    ∧ (∀ (v : Fin 2) (s : State), s.portReady →
        ∃ t, exec (.readValve (BitVec.ofNat 8 v.val)) s = .next t
          ∧ t.service.reply.take 3
            = [if (s.valves.valves.get v).opened = true then 1 else 0,
               (if (s.valves.valves.get v).noFlow = true then 1 else 0)
                 + (if (s.valves.valves.get v).leak = true then 2 else 0),
               BitVec.ofNat 8 (s.valves.valves.get v).windows.length])
    ∧ (∀ (s : State), s.portReady →
        ∃ t, exec (.nodeStatus 0) s = .next t
          ∧ t.service.reply.headD 0 = BitVec.ofNat 8 (startCode s.startup.state))

/-- R163, R169, R171, R185 and R187: READ_LOG answers from the buffer at the write position and from the array
elsewhere, and is held while the array is busy; FLUSH_LOG starts a program, sets flush pending, or finds nothing to
write; CLEAR_PROTECTION, which needs K1, clears a protected block's mark. A held READ_LOG is answered when the program
completes. The model's choices: a command that is given stores its parameters filled with zeros (log 25), the reply's
header is that of the array's block (log 24), whose protected mark a program sets at its completion (log 42) and whose
program counts an erase lets fall at its own (log 46), a held command is answered as the completion has committed (log 23),
and a block both retired and not protected answers RETIRED (log 41). -/
def Obligations.LogCommandsAnswer : Prop :=
  (∀ (b p : Fin 16) (n : Byte) (s : State), s.portReady → n.toNat ≤ 31 →
      exec (.readLog (BitVec.ofNat 8 b.val) (BitVec.ofNat 8 p.val) n) s
        = .next
          { s with
            service :=
              if s.log.store.position = some (b, p) then
                s.service.completed [BitVec.ofNat 8 b.val, BitVec.ofNat 8 p.val, n, 0, 0, 0, 0, 0] statusOk
                  (bufferReply b p n.toNat s.log)
              else if s.log.store.state = .programming ∨ s.log.store.state = .erasing then
                { s.service with
                  command := 0, params := [BitVec.ofNat 8 b.val, BitVec.ofNat 8 p.val, n, 0, 0, 0, 0, 0]
                  port :=
                    .executing 0x07 [BitVec.ofNat 8 b.val, BitVec.ofNat 8 p.val, n, 0, 0, 0, 0, 0]
                      .logOperation }
              else
                s.service.completed [BitVec.ofNat 8 b.val, BitVec.ofNat 8 p.val, n, 0, 0, 0, 0, 0] statusOk
                  (arrayReply b p n.toNat s.log) })
    ∧ (∀ (b p n : Byte) (s : State), s.portReady → (15 < b.toNat ∨ 15 < p.toNat ∨ 31 < n.toNat) →
        exec (.readLog b p n) s
          = .next { s with service := s.service.completed [b, p, n, 0, 0, 0, 0, 0] statusBadParam [] })
    ∧ (∀ (b p c d : Fin 16) (n : Fin 32) (s : State), s.log.store.state = .programming →
        s.log.store.position = some (b, p) →
        s.service.port
          = .executing 0x07
              [BitVec.ofNat 8 c.val, BitVec.ofNat 8 d.val, BitVec.ofNat 8 n.val, 0, 0, 0, 0, 0] .logOperation →
        ∃ t, exec (.pageProgramComplete true) s = .next t
          ∧ t.service.status = statusOk ∧ t.service.port = .idle
          ∧ t.service.reply.take 16 = Memory.readBytes t.log.array (pageAddress c d + 16 * n.val) 16)
    ∧ (∀ (b p : Fin 16) (s : State), s.portReady → s.log.store.state = .idle →
        s.log.store.position = some (b, p) → s.log.store.unprogrammed ≠ [] →
        ∃ t, exec .flushLog s = .next t
          ∧ t.log.store = { s.log.store with state := .programming }
          ∧ t.log.headers[b].counts[p] = s.log.headers[b].counts[p] + 1
          ∧ t.service = s.service.completed [0, 0, 0, 0, 0, 0, 0, 0] statusOk [0]
          ∧ t = ({ s with service := t.service }).withLogOf t)
    ∧ (∀ (s : State), s.portReady → s.log.store.state = .idle → s.log.store.unprogrammed = [] →
        exec .flushLog s
          = .next { s with service := s.service.completed [0, 0, 0, 0, 0, 0, 0, 0] statusOk [3] })
    ∧ (∀ (s : State), s.portReady → s.log.store.state ≠ .idle →
        exec .flushLog s
          = .next
            { s with
              log := { s.log with store := { s.log.store with flushPending := true } }
              service :=
                s.service.completed [0, 0, 0, 0, 0, 0, 0, 0] statusOk
                  [if s.log.store.flushPending = true then 2 else 1] })
    ∧ (∀ (b : Fin 16) (s : State), s.portReady → s.portKey = true → s.log.store.table[b].isProtected = true →
        s.log.store.table[b].retired = false → s.log.store.state ≠ .full →
        ∃ t, exec (.clearProtection (BitVec.ofNat 8 b.val)) s = .next t
          ∧ Posts
            [⟨s.time, .protectCleared, b.val, s.homeView, s.station, 0,
              s.log.store.table[b].sequence.getD 65535 % 65536, 0⟩] s t
          ∧ t =
            ({ s with
              log :=
                { s.log with
                  store :=
                    { s.log.store with
                      table :=
                        s.log.store.table.set b { s.log.store.table[b] with isProtected := false } } }
              service :=
                s.service.completed [BitVec.ofNat 8 b.val, 0, 0, 0, 0, 0, 0, 0] statusOk [0] }).withLogOf t)
    ∧ (∀ (b : Fin 16) (s : State), s.portReady → s.portKey = true → s.log.store.table[b].isProtected = true →
        s.log.store.table[b].retired = false → s.log.store.state = .full →
        s.log.store.nextSequence ≤ 4294967294 →
        ∃ t, exec (.clearProtection (BitVec.ofNat 8 b.val)) s = .next t
          ∧ t.log.store.state = .erasing ∧ t.log.store.table[b].isProtected = false
          ∧ (s.operating = true → t.sirens.summary.logFull = false)
          ∧ t.service = s.service.completed [BitVec.ofNat 8 b.val, 0, 0, 0, 0, 0, 0, 0] statusOk [0])
    ∧ (∀ (b : Fin 16) (s : State), s.portReady → s.portKey = true →
        (s.log.store.table[b].isProtected = false ∨ s.log.store.table[b].retired = true) →
        exec (.clearProtection (BitVec.ofNat 8 b.val)) s
          = .next
            { s with
              service :=
                s.service.completed [BitVec.ofNat 8 b.val, 0, 0, 0, 0, 0, 0, 0] statusOk
                  [if s.log.store.table[b].retired = true then 1 else 2] })
    ∧ (∀ (b : Byte) (s : State), s.portReady → s.portKey = false →
        exec (.clearProtection b) s
          = .next { s with service := s.service.completed [b, 0, 0, 0, 0, 0, 0, 0] statusKeyRequired [] })

/-- R185 and R188: READ_CONFIG and WRITE_CONFIG, which needs K1, ask the configuration memory and wait up to 50 ms, or
wait for the loader's read of the image; CONFIG_MEMORY_ANSWER completes them, with the sixteen bytes, or with WRITTEN
where the bytes read back as written and MEMORY_FAILED where they do not. The configuration set stays as it is. An
answer after the 50 ms is none, and either command completes with MEMORY_FAILED, as it does where no answer comes; a
WRITE_CONFIG has then left every byte outside its four. A command that waits for the image makes its request when the
loader's read has ended. The model's choices: the memory holds the bytes that CONFIG_MEMORY_ANSWER carries as read back,
whose operand a READ_CONFIG does not use (log 10), a command that is given stores its parameters filled with zeros (log
25), the 50 ms end of themselves on an empty queue (log 7), before all else that is due then (log 1), and a WRITE_CONFIG
never answered raises the count of the free values, on which its four bytes rest (log 9). -/
def Obligations.ConfigurationCommandsAskTheMemory : Prop :=
  (∀ (o : Half) (s : State), s.portReady → o.toNat ≤ 496 → s.startup.stage ≠ some .image →
      exec (.readConfig o) s
        = .next
          { s with
            startup := { s.startup with memoryDeadline := some (later s.time 50) }
            service :=
              { s.service with
                command := 0, params := bytes2 o.toNat ++ [0, 0, 0, 0, 0, 0]
                port := .executing 0x0A (bytes2 o.toNat ++ [0, 0, 0, 0, 0, 0]) .configMemory } })
    ∧ (∀ (o : Half) (s : State), s.portReady → o.toNat ≤ 496 → s.startup.stage = some .image →
        exec (.readConfig o) s
          = .next
            { s with
              service :=
                { s.service with
                  command := 0, params := bytes2 o.toNat ++ [0, 0, 0, 0, 0, 0]
                  port := .executing 0x0A (bytes2 o.toNat ++ [0, 0, 0, 0, 0, 0]) .imageRead } })
    ∧ (∀ (o : Half) (s : State), s.portReady → 496 < o.toNat →
        exec (.readConfig o) s
          = .next
            { s with
              service :=
                s.service.completed (bytes2 o.toNat ++ [0, 0, 0, 0, 0, 0]) statusBadParam [] })
    ∧ (∀ (o : Half) (d : BitVec 32) (s : State), s.portReady → s.portKey = true → o.toNat ≤ 508 →
        o.toNat % 4 = 0 → s.startup.stage ≠ some .image →
        exec (.writeConfig o d) s
          = .next
            { s with
              startup := { s.startup with memoryDeadline := some (later s.time 50) }
              service :=
                { s.service with
                  command := 0, params := bytes2 o.toNat ++ bytes4 d.toNat ++ [0, 0]
                  port := .executing 0x0B (bytes2 o.toNat ++ bytes4 d.toNat ++ [0, 0]) .configMemory } })
    ∧ (∀ (o : Half) (d : BitVec 32) (s : State), s.portReady → s.portKey = false →
        exec (.writeConfig o d) s
          = .next
            { s with
              service :=
                s.service.completed (bytes2 o.toNat ++ bytes4 d.toNat ++ [0, 0]) statusKeyRequired [] })
    ∧ (∀ (o : Half) (d : BitVec 32) (s : State), s.portReady → s.portKey = true →
        (508 < o.toNat ∨ o.toNat % 4 ≠ 0) →
        exec (.writeConfig o d) s
          = .next
            { s with
              service :=
                s.service.completed (bytes2 o.toNat ++ bytes4 d.toNat ++ [0, 0]) statusBadParam [] })
    ∧ (∀ (o : Half) (back : BitVec 32) (s : State),
        s.service.port = .executing 0x0A (bytes2 o.toNat ++ [0, 0, 0, 0, 0, 0]) .configMemory →
        s.answerLate = false →
        exec (.configMemoryAnswer back) s
          = .next
            { s with
              startup := { s.startup with memoryDeadline := none }
              service :=
                { s.service with
                  status := statusOk, port := .idle
                  reply :=
                    0 :: Memory.readBytes s.configMemory o.toNat 16 ++ [0, 0, 0, 0, 0] } })
    ∧ (∀ (o : Half) (d back : BitVec 32) (s : State), MemoryLaw s →
        s.service.port = .executing 0x0B (bytes2 o.toNat ++ bytes4 d.toNat ++ [0, 0]) .configMemory →
        s.answerLate = false →
        ∃ t, exec (.configMemoryAnswer back) s = .next t
          ∧ t.service
            = { s.service with
                status := statusOk, port := .idle
                reply := (if back = d then 1 else 2) :: List.replicate 21 0 }
          ∧ Memory.readBytes t.configMemory o.toNat 4 = bytes4 back.toNat
          ∧ (∀ a : Nat, (a < o.toNat ∨ o.toNat + 4 ≤ a) →
              Memory.read t.configMemory a = Memory.read s.configMemory a)
          ∧ t =
            { s with
              startup := { s.startup with memoryDeadline := none }
              service := t.service, configMemory := t.configMemory })
    ∧ (∀ (o : Half) (back : BitVec 32) (s : State) (d : Instant),
        s.service.port = .executing 0x0A (bytes2 o.toNat ++ [0, 0, 0, 0, 0, 0]) .configMemory →
        s.startup.memoryDeadline = some d → before d s.time = true →
        exec (.configMemoryAnswer back) s
          = .next
            { s with
              startup := { s.startup with memoryDeadline := none }
              service :=
                { s.service with status := statusOk, port := .idle, reply := 2 :: List.replicate 21 0 } })
    ∧ (∀ (o : Half) (d : BitVec 32) (s : State), s.portReady → s.portKey = true → o.toNat ≤ 508 →
        o.toNat % 4 = 0 → s.startup.stage = some .image →
        exec (.writeConfig o d) s
          = .next
            { s with
              service :=
                { s.service with
                  command := 0, params := bytes2 o.toNat ++ bytes4 d.toNat ++ [0, 0]
                  port := .executing 0x0B (bytes2 o.toNat ++ bytes4 d.toNat ++ [0, 0]) .imageRead } })
    ∧ (∀ (o : Half) (d back : BitVec 32) (s : State) (e : Instant),
        s.service.port = .executing 0x0B (bytes2 o.toNat ++ bytes4 d.toNat ++ [0, 0]) .configMemory →
        s.startup.memoryDeadline = some e → before e s.time = true →
        ∃ t, exec (.configMemoryAnswer back) s = .next t
          ∧ (∀ a : Nat, (a < o.toNat ∨ o.toNat + 4 ≤ a) →
              Memory.read t.configMemory a = Memory.read s.configMemory a)
          ∧ t =
            { s with
              startup := { s.startup with memoryDeadline := none }
              service :=
                { s.service with status := statusOk, port := .idle, reply := 2 :: List.replicate 21 0 }
              configMemory := t.configMemory, freeCount := s.freeCount + 1 })
    ∧ (∀ (o : Half) (d : BitVec 32) (s : State),
        s.service.port = .executing 0x0B (bytes2 o.toNat ++ bytes4 d.toNat ++ [0, 0]) .configMemory →
        s.startup.stage ≠ some .image → due s.time s.startup.memoryDeadline = true →
        ∃ t, exec .memoryAnswerTimeout s = .next t
          ∧ (∀ a : Nat, (a < o.toNat ∨ o.toNat + 4 ≤ a) →
              Memory.read t.configMemory a = Memory.read s.configMemory a)
          ∧ t =
            { s with
              startup := { s.startup with memoryDeadline := none }
              service :=
                { s.service with status := statusOk, port := .idle, reply := 2 :: List.replicate 21 0 }
              configMemory := t.configMemory, freeCount := s.freeCount + 1 })
    ∧ (∀ (c : Byte) (params : List Byte) (s : State), s.startup.stage = some .image →
        s.service.port = .executing c params .imageRead →
        ∃ t, exec .imageReadEnd s = .next t
          ∧ t.service = { s.service with port := .executing c params .configMemory }
          ∧ t.startup.memoryDeadline = some (later s.time 50) ∧ t.configMemory = s.configMemory)
    ∧ (∀ (c : Byte) (params : List Byte) (s : State), s.startup.stage = some .image →
        s.service.port = .executing c params .imageRead → due s.time s.startup.memoryDeadline = true →
        exec .memoryAnswerTimeout s
          = .next
            { s with
              startup :=
                { s.startup with
                  state := .failed, stage := none, failure := some .configBad
                  memoryDeadline := some (later s.time 50), echoDeadline := none, frameHeard := none }
              line := { s.line with queue := [], holding := none }
              service := { s.service with port := .executing c params .configMemory } })
    ∧ (∀ (s : State) (c : Byte) (params : List Byte) (d : Instant), s.pending = [] →
        s.service.port = .executing c params .configMemory → s.startup.memoryDeadline = some d →
        before s.time d = false → step s = exec .memoryAnswerTimeout s)

end
end

