-- ==== Sys2Proof/Laws/PlantFrames.lean ====
section
/-! SUPPORT. What the shared operations leave as it stands: one lemma per operation, naming every part of the state
that it does not change. -/

namespace Sys2Proof.Machine

/-- `setLevel` changes only inputs. -/
@[simp] theorem setLevel_frame (i : Input) (active : Bool) (s : State) :
    (setLevel i active s).time = s.time ∧ (setLevel i active s).startup = s.startup
      ∧ (setLevel i active s).config = s.config ∧ (setLevel i active s).channels = s.channels
      ∧ (setLevel i active s).flow = s.flow ∧ (setLevel i active s).watch = s.watch
      ∧ (setLevel i active s).valves = s.valves ∧ (setLevel i active s).line = s.line
      ∧ (setLevel i active s).peers = s.peers ∧ (setLevel i active s).zones = s.zones
      ∧ (setLevel i active s).sequencer = s.sequencer ∧ (setLevel i active s).doors = s.doors
      ∧ (setLevel i active s).sirens = s.sirens ∧ (setLevel i active s).log = s.log
      ∧ (setLevel i active s).service = s.service ∧ (setLevel i active s).configMemory = s.configMemory
      ∧ (setLevel i active s).freeCount = s.freeCount ∧ (setLevel i active s).pending = s.pending := by
  refine ⟨?_, ?_, ?_, ?_, ?_, ?_, ?_, ?_, ?_, ?_, ?_, ?_, ?_, ?_, ?_, ?_, ?_, ?_⟩ <;> rfl

/-- `setRaw` changes only inputs. -/
@[simp] theorem setRaw_frame (i : Input) (active : Bool) (s : State) :
    (setRaw i active s).time = s.time ∧ (setRaw i active s).startup = s.startup
      ∧ (setRaw i active s).config = s.config ∧ (setRaw i active s).channels = s.channels
      ∧ (setRaw i active s).flow = s.flow ∧ (setRaw i active s).watch = s.watch
      ∧ (setRaw i active s).valves = s.valves ∧ (setRaw i active s).line = s.line
      ∧ (setRaw i active s).peers = s.peers ∧ (setRaw i active s).zones = s.zones
      ∧ (setRaw i active s).sequencer = s.sequencer ∧ (setRaw i active s).doors = s.doors
      ∧ (setRaw i active s).sirens = s.sirens ∧ (setRaw i active s).log = s.log
      ∧ (setRaw i active s).service = s.service ∧ (setRaw i active s).configMemory = s.configMemory
      ∧ (setRaw i active s).freeCount = s.freeCount ∧ (setRaw i active s).pending = s.pending := by
  refine ⟨?_, ?_, ?_, ?_, ?_, ?_, ?_, ?_, ?_, ?_, ?_, ?_, ?_, ?_, ?_, ?_, ?_, ?_⟩ <;> rfl

/-- `startDebounce` changes only inputs. -/
@[simp] theorem startDebounce_frame (i : Input) (active : Bool) (s : State) :
    (startDebounce i active s).time = s.time ∧ (startDebounce i active s).startup = s.startup
      ∧ (startDebounce i active s).config = s.config ∧ (startDebounce i active s).channels = s.channels
      ∧ (startDebounce i active s).flow = s.flow ∧ (startDebounce i active s).watch = s.watch
      ∧ (startDebounce i active s).valves = s.valves ∧ (startDebounce i active s).line = s.line
      ∧ (startDebounce i active s).peers = s.peers ∧ (startDebounce i active s).zones = s.zones
      ∧ (startDebounce i active s).sequencer = s.sequencer ∧ (startDebounce i active s).doors = s.doors
      ∧ (startDebounce i active s).sirens = s.sirens ∧ (startDebounce i active s).log = s.log
      ∧ (startDebounce i active s).service = s.service
      ∧ (startDebounce i active s).configMemory = s.configMemory
      ∧ (startDebounce i active s).freeCount = s.freeCount ∧ (startDebounce i active s).pending = s.pending := by
  refine ⟨?_, ?_, ?_, ?_, ?_, ?_, ?_, ?_, ?_, ?_, ?_, ?_, ?_, ?_, ?_, ?_, ?_, ?_⟩ <;> rfl

/-- `post` changes only log. -/
@[simp] theorem post_frame (kind : EventKind) (subject : Nat) (value1 : Nat) (value2 : Nat) (flags : Nat) (s : State) :
    (post kind subject value1 value2 flags s).time = s.time
      ∧ (post kind subject value1 value2 flags s).startup = s.startup
      ∧ (post kind subject value1 value2 flags s).config = s.config
      ∧ (post kind subject value1 value2 flags s).inputs = s.inputs
      ∧ (post kind subject value1 value2 flags s).channels = s.channels
      ∧ (post kind subject value1 value2 flags s).flow = s.flow
      ∧ (post kind subject value1 value2 flags s).watch = s.watch
      ∧ (post kind subject value1 value2 flags s).valves = s.valves
      ∧ (post kind subject value1 value2 flags s).line = s.line
      ∧ (post kind subject value1 value2 flags s).peers = s.peers
      ∧ (post kind subject value1 value2 flags s).zones = s.zones
      ∧ (post kind subject value1 value2 flags s).sequencer = s.sequencer
      ∧ (post kind subject value1 value2 flags s).doors = s.doors
      ∧ (post kind subject value1 value2 flags s).sirens = s.sirens
      ∧ (post kind subject value1 value2 flags s).service = s.service
      ∧ (post kind subject value1 value2 flags s).configMemory = s.configMemory
      ∧ (post kind subject value1 value2 flags s).freeCount = s.freeCount
      ∧ (post kind subject value1 value2 flags s).pending = s.pending := by
  refine ⟨?_, ?_, ?_, ?_, ?_, ?_, ?_, ?_, ?_, ?_, ?_, ?_, ?_, ?_, ?_, ?_, ?_, ?_⟩ <;> rfl

/-- `reportFault` changes only sirens, log. -/
@[simp] theorem reportFault_frame (m : FaultMember) (b : Bool) (s : State) :
    (reportFault m b s).time = s.time ∧ (reportFault m b s).startup = s.startup
      ∧ (reportFault m b s).config = s.config ∧ (reportFault m b s).inputs = s.inputs
      ∧ (reportFault m b s).channels = s.channels ∧ (reportFault m b s).flow = s.flow
      ∧ (reportFault m b s).watch = s.watch ∧ (reportFault m b s).valves = s.valves
      ∧ (reportFault m b s).line = s.line ∧ (reportFault m b s).peers = s.peers
      ∧ (reportFault m b s).zones = s.zones ∧ (reportFault m b s).sequencer = s.sequencer
      ∧ (reportFault m b s).doors = s.doors ∧ (reportFault m b s).service = s.service
      ∧ (reportFault m b s).configMemory = s.configMemory ∧ (reportFault m b s).freeCount = s.freeCount
      ∧ (reportFault m b s).pending = s.pending := by
  refine ⟨?_, ?_, ?_, ?_, ?_, ?_, ?_, ?_, ?_, ?_, ?_, ?_, ?_, ?_, ?_, ?_, ?_⟩ <;> (unfold reportFault; (repeat' split) <;> simp)

/-- `searchFrom` changes only sirens, log. -/
@[simp] theorem searchFrom_frame (b : Fin 16) (s : State) :
    (searchFrom b s).time = s.time ∧ (searchFrom b s).startup = s.startup ∧ (searchFrom b s).config = s.config
      ∧ (searchFrom b s).inputs = s.inputs ∧ (searchFrom b s).channels = s.channels
      ∧ (searchFrom b s).flow = s.flow ∧ (searchFrom b s).watch = s.watch ∧ (searchFrom b s).valves = s.valves
      ∧ (searchFrom b s).line = s.line ∧ (searchFrom b s).peers = s.peers ∧ (searchFrom b s).zones = s.zones
      ∧ (searchFrom b s).sequencer = s.sequencer ∧ (searchFrom b s).doors = s.doors
      ∧ (searchFrom b s).service = s.service ∧ (searchFrom b s).configMemory = s.configMemory
      ∧ (searchFrom b s).freeCount = s.freeCount ∧ (searchFrom b s).pending = s.pending := by
  refine ⟨?_, ?_, ?_, ?_, ?_, ?_, ?_, ?_, ?_, ?_, ?_, ?_, ?_, ?_, ?_, ?_, ?_⟩ <;> (unfold searchFrom; (repeat' split) <;> simp)

/-- `retire` changes only sirens, log. -/
@[simp] theorem retire_frame (b : Fin 16) (cause : Nat) (s : State) :
    (retire b cause s).time = s.time ∧ (retire b cause s).startup = s.startup
      ∧ (retire b cause s).config = s.config ∧ (retire b cause s).inputs = s.inputs
      ∧ (retire b cause s).channels = s.channels ∧ (retire b cause s).flow = s.flow
      ∧ (retire b cause s).watch = s.watch ∧ (retire b cause s).valves = s.valves
      ∧ (retire b cause s).line = s.line ∧ (retire b cause s).peers = s.peers
      ∧ (retire b cause s).zones = s.zones ∧ (retire b cause s).sequencer = s.sequencer
      ∧ (retire b cause s).doors = s.doors ∧ (retire b cause s).service = s.service
      ∧ (retire b cause s).configMemory = s.configMemory ∧ (retire b cause s).freeCount = s.freeCount
      ∧ (retire b cause s).pending = s.pending := by
  refine ⟨?_, ?_, ?_, ?_, ?_, ?_, ?_, ?_, ?_, ?_, ?_, ?_, ?_, ?_, ?_, ?_, ?_⟩ <;> (unfold retire; dsimp only; (repeat' split) <;> simp)

/-- `changeQueue` changes only line. -/
@[simp] theorem changeQueue_frame (f : OutFrame) (change : OutFrame → OutFrame) (s : State) :
    (changeQueue f change s).time = s.time ∧ (changeQueue f change s).startup = s.startup
      ∧ (changeQueue f change s).config = s.config ∧ (changeQueue f change s).inputs = s.inputs
      ∧ (changeQueue f change s).channels = s.channels ∧ (changeQueue f change s).flow = s.flow
      ∧ (changeQueue f change s).watch = s.watch ∧ (changeQueue f change s).valves = s.valves
      ∧ (changeQueue f change s).peers = s.peers ∧ (changeQueue f change s).zones = s.zones
      ∧ (changeQueue f change s).sequencer = s.sequencer ∧ (changeQueue f change s).doors = s.doors
      ∧ (changeQueue f change s).sirens = s.sirens ∧ (changeQueue f change s).log = s.log
      ∧ (changeQueue f change s).service = s.service ∧ (changeQueue f change s).configMemory = s.configMemory
      ∧ (changeQueue f change s).freeCount = s.freeCount ∧ (changeQueue f change s).pending = s.pending := by
  refine ⟨?_, ?_, ?_, ?_, ?_, ?_, ?_, ?_, ?_, ?_, ?_, ?_, ?_, ?_, ?_, ?_, ?_, ?_⟩ <;> rfl

/-- `handDetection` changes only line. -/
@[simp] theorem handDetection_frame (ch : Fin 4) (t : Instant) (peak : Nat) (s : State) :
    (handDetection ch t peak s).time = s.time ∧ (handDetection ch t peak s).startup = s.startup
      ∧ (handDetection ch t peak s).config = s.config ∧ (handDetection ch t peak s).inputs = s.inputs
      ∧ (handDetection ch t peak s).channels = s.channels ∧ (handDetection ch t peak s).flow = s.flow
      ∧ (handDetection ch t peak s).watch = s.watch ∧ (handDetection ch t peak s).valves = s.valves
      ∧ (handDetection ch t peak s).peers = s.peers ∧ (handDetection ch t peak s).zones = s.zones
      ∧ (handDetection ch t peak s).sequencer = s.sequencer ∧ (handDetection ch t peak s).doors = s.doors
      ∧ (handDetection ch t peak s).sirens = s.sirens ∧ (handDetection ch t peak s).log = s.log
      ∧ (handDetection ch t peak s).service = s.service
      ∧ (handDetection ch t peak s).configMemory = s.configMemory
      ∧ (handDetection ch t peak s).freeCount = s.freeCount ∧ (handDetection ch t peak s).pending = s.pending := by
  refine ⟨?_, ?_, ?_, ?_, ?_, ?_, ?_, ?_, ?_, ?_, ?_, ?_, ?_, ?_, ?_, ?_, ?_, ?_⟩ <;> rfl

/-- `handVote` changes only line. -/
@[simp] theorem handVote_frame (v : Vote) (s : State) :
    (handVote v s).time = s.time ∧ (handVote v s).startup = s.startup ∧ (handVote v s).config = s.config
      ∧ (handVote v s).inputs = s.inputs ∧ (handVote v s).channels = s.channels ∧ (handVote v s).flow = s.flow
      ∧ (handVote v s).watch = s.watch ∧ (handVote v s).valves = s.valves ∧ (handVote v s).peers = s.peers
      ∧ (handVote v s).zones = s.zones ∧ (handVote v s).sequencer = s.sequencer ∧ (handVote v s).doors = s.doors
      ∧ (handVote v s).sirens = s.sirens ∧ (handVote v s).log = s.log ∧ (handVote v s).service = s.service
      ∧ (handVote v s).configMemory = s.configMemory ∧ (handVote v s).freeCount = s.freeCount
      ∧ (handVote v s).pending = s.pending := by
  refine ⟨?_, ?_, ?_, ?_, ?_, ?_, ?_, ?_, ?_, ?_, ?_, ?_, ?_, ?_, ?_, ?_, ?_, ?_⟩ <;> rfl

/-- `handRestart` changes only line. -/
@[simp] theorem handRestart_frame (s : State) :
    (handRestart s).time = s.time ∧ (handRestart s).startup = s.startup ∧ (handRestart s).config = s.config
      ∧ (handRestart s).inputs = s.inputs ∧ (handRestart s).channels = s.channels
      ∧ (handRestart s).flow = s.flow ∧ (handRestart s).watch = s.watch ∧ (handRestart s).valves = s.valves
      ∧ (handRestart s).peers = s.peers ∧ (handRestart s).zones = s.zones
      ∧ (handRestart s).sequencer = s.sequencer ∧ (handRestart s).doors = s.doors
      ∧ (handRestart s).sirens = s.sirens ∧ (handRestart s).log = s.log ∧ (handRestart s).service = s.service
      ∧ (handRestart s).configMemory = s.configMemory ∧ (handRestart s).freeCount = s.freeCount
      ∧ (handRestart s).pending = s.pending := by
  refine ⟨?_, ?_, ?_, ?_, ?_, ?_, ?_, ?_, ?_, ?_, ?_, ?_, ?_, ?_, ?_, ?_, ?_, ?_⟩ <;> rfl

/-- `placePresence` changes only line. -/
@[simp] theorem placePresence_frame (s : State) :
    (placePresence s).time = s.time ∧ (placePresence s).startup = s.startup
      ∧ (placePresence s).config = s.config ∧ (placePresence s).inputs = s.inputs
      ∧ (placePresence s).channels = s.channels ∧ (placePresence s).flow = s.flow
      ∧ (placePresence s).watch = s.watch ∧ (placePresence s).valves = s.valves
      ∧ (placePresence s).peers = s.peers ∧ (placePresence s).zones = s.zones
      ∧ (placePresence s).sequencer = s.sequencer ∧ (placePresence s).doors = s.doors
      ∧ (placePresence s).sirens = s.sirens ∧ (placePresence s).log = s.log
      ∧ (placePresence s).service = s.service ∧ (placePresence s).configMemory = s.configMemory
      ∧ (placePresence s).freeCount = s.freeCount ∧ (placePresence s).pending = s.pending := by
  refine ⟨?_, ?_, ?_, ?_, ?_, ?_, ?_, ?_, ?_, ?_, ?_, ?_, ?_, ?_, ?_, ?_, ?_, ?_⟩ <;> rfl

/-- `postLine` changes only log. -/
@[simp] theorem postLine_frame (code : Nat) (value2 : Nat) (s : State) :
    (postLine code value2 s).time = s.time ∧ (postLine code value2 s).startup = s.startup
      ∧ (postLine code value2 s).config = s.config ∧ (postLine code value2 s).inputs = s.inputs
      ∧ (postLine code value2 s).channels = s.channels ∧ (postLine code value2 s).flow = s.flow
      ∧ (postLine code value2 s).watch = s.watch ∧ (postLine code value2 s).valves = s.valves
      ∧ (postLine code value2 s).line = s.line ∧ (postLine code value2 s).peers = s.peers
      ∧ (postLine code value2 s).zones = s.zones ∧ (postLine code value2 s).sequencer = s.sequencer
      ∧ (postLine code value2 s).doors = s.doors ∧ (postLine code value2 s).sirens = s.sirens
      ∧ (postLine code value2 s).service = s.service ∧ (postLine code value2 s).configMemory = s.configMemory
      ∧ (postLine code value2 s).freeCount = s.freeCount ∧ (postLine code value2 s).pending = s.pending := by
  refine ⟨?_, ?_, ?_, ?_, ?_, ?_, ?_, ?_, ?_, ?_, ?_, ?_, ?_, ?_, ?_, ?_, ?_, ?_⟩ <;> rfl

/-- `postStep` changes only log. -/
@[simp] theorem postStep_frame (subject : Nat) (code : Nat) (value2 : Nat) (s : State) :
    (postStep subject code value2 s).time = s.time ∧ (postStep subject code value2 s).startup = s.startup
      ∧ (postStep subject code value2 s).config = s.config ∧ (postStep subject code value2 s).inputs = s.inputs
      ∧ (postStep subject code value2 s).channels = s.channels ∧ (postStep subject code value2 s).flow = s.flow
      ∧ (postStep subject code value2 s).watch = s.watch ∧ (postStep subject code value2 s).valves = s.valves
      ∧ (postStep subject code value2 s).line = s.line ∧ (postStep subject code value2 s).peers = s.peers
      ∧ (postStep subject code value2 s).zones = s.zones
      ∧ (postStep subject code value2 s).sequencer = s.sequencer
      ∧ (postStep subject code value2 s).doors = s.doors ∧ (postStep subject code value2 s).sirens = s.sirens
      ∧ (postStep subject code value2 s).service = s.service
      ∧ (postStep subject code value2 s).configMemory = s.configMemory
      ∧ (postStep subject code value2 s).freeCount = s.freeCount
      ∧ (postStep subject code value2 s).pending = s.pending := by
  refine ⟨?_, ?_, ?_, ?_, ?_, ?_, ?_, ?_, ?_, ?_, ?_, ?_, ?_, ?_, ?_, ?_, ?_, ?_⟩ <;> rfl

/-- `setSequencer` changes only sequencer. -/
@[simp] theorem setSequencer_frame (st : SeqState) (s : State) :
    (setSequencer st s).time = s.time ∧ (setSequencer st s).startup = s.startup
      ∧ (setSequencer st s).config = s.config ∧ (setSequencer st s).inputs = s.inputs
      ∧ (setSequencer st s).channels = s.channels ∧ (setSequencer st s).flow = s.flow
      ∧ (setSequencer st s).watch = s.watch ∧ (setSequencer st s).valves = s.valves
      ∧ (setSequencer st s).line = s.line ∧ (setSequencer st s).peers = s.peers
      ∧ (setSequencer st s).zones = s.zones ∧ (setSequencer st s).doors = s.doors
      ∧ (setSequencer st s).sirens = s.sirens ∧ (setSequencer st s).log = s.log
      ∧ (setSequencer st s).service = s.service ∧ (setSequencer st s).configMemory = s.configMemory
      ∧ (setSequencer st s).freeCount = s.freeCount ∧ (setSequencer st s).pending = s.pending := by
  refine ⟨?_, ?_, ?_, ?_, ?_, ?_, ?_, ?_, ?_, ?_, ?_, ?_, ?_, ?_, ?_, ?_, ?_, ?_⟩ <;> rfl

/-- `enterHalted` changes only sequencer, log. -/
@[simp] theorem enterHalted_frame (cause : HaltedCause) (s : State) :
    (enterHalted cause s).time = s.time ∧ (enterHalted cause s).startup = s.startup
      ∧ (enterHalted cause s).config = s.config ∧ (enterHalted cause s).inputs = s.inputs
      ∧ (enterHalted cause s).channels = s.channels ∧ (enterHalted cause s).flow = s.flow
      ∧ (enterHalted cause s).watch = s.watch ∧ (enterHalted cause s).valves = s.valves
      ∧ (enterHalted cause s).line = s.line ∧ (enterHalted cause s).peers = s.peers
      ∧ (enterHalted cause s).zones = s.zones ∧ (enterHalted cause s).doors = s.doors
      ∧ (enterHalted cause s).sirens = s.sirens ∧ (enterHalted cause s).service = s.service
      ∧ (enterHalted cause s).configMemory = s.configMemory ∧ (enterHalted cause s).freeCount = s.freeCount
      ∧ (enterHalted cause s).pending = s.pending := by
  refine ⟨?_, ?_, ?_, ?_, ?_, ?_, ?_, ?_, ?_, ?_, ?_, ?_, ?_, ?_, ?_, ?_, ?_⟩ <;> rfl

/-- `enterDamperClosing` changes only sequencer, log. -/
@[simp] theorem enterDamperClosing_frame (s : State) :
    (enterDamperClosing s).time = s.time ∧ (enterDamperClosing s).startup = s.startup
      ∧ (enterDamperClosing s).config = s.config ∧ (enterDamperClosing s).inputs = s.inputs
      ∧ (enterDamperClosing s).channels = s.channels ∧ (enterDamperClosing s).flow = s.flow
      ∧ (enterDamperClosing s).watch = s.watch ∧ (enterDamperClosing s).valves = s.valves
      ∧ (enterDamperClosing s).line = s.line ∧ (enterDamperClosing s).peers = s.peers
      ∧ (enterDamperClosing s).zones = s.zones ∧ (enterDamperClosing s).doors = s.doors
      ∧ (enterDamperClosing s).sirens = s.sirens ∧ (enterDamperClosing s).service = s.service
      ∧ (enterDamperClosing s).configMemory = s.configMemory ∧ (enterDamperClosing s).freeCount = s.freeCount
      ∧ (enterDamperClosing s).pending = s.pending := by
  refine ⟨?_, ?_, ?_, ?_, ?_, ?_, ?_, ?_, ?_, ?_, ?_, ?_, ?_, ?_, ?_, ?_, ?_⟩ <;> (unfold enterDamperClosing enterStep; dsimp only; (repeat' split) <;> simp)

/-- `enterFanStopping` changes only sequencer, log. -/
@[simp] theorem enterFanStopping_frame (s : State) :
    (enterFanStopping s).time = s.time ∧ (enterFanStopping s).startup = s.startup
      ∧ (enterFanStopping s).config = s.config ∧ (enterFanStopping s).inputs = s.inputs
      ∧ (enterFanStopping s).channels = s.channels ∧ (enterFanStopping s).flow = s.flow
      ∧ (enterFanStopping s).watch = s.watch ∧ (enterFanStopping s).valves = s.valves
      ∧ (enterFanStopping s).line = s.line ∧ (enterFanStopping s).peers = s.peers
      ∧ (enterFanStopping s).zones = s.zones ∧ (enterFanStopping s).doors = s.doors
      ∧ (enterFanStopping s).sirens = s.sirens ∧ (enterFanStopping s).service = s.service
      ∧ (enterFanStopping s).configMemory = s.configMemory ∧ (enterFanStopping s).freeCount = s.freeCount
      ∧ (enterFanStopping s).pending = s.pending := by
  refine ⟨?_, ?_, ?_, ?_, ?_, ?_, ?_, ?_, ?_, ?_, ?_, ?_, ?_, ?_, ?_, ?_, ?_⟩ <;> (unfold enterFanStopping enterStep; dsimp only; (repeat' split) <;> simp)

/-- `enterRunOn` changes only sequencer, log. -/
@[simp] theorem enterRunOn_frame (s : State) :
    (enterRunOn s).time = s.time ∧ (enterRunOn s).startup = s.startup ∧ (enterRunOn s).config = s.config
      ∧ (enterRunOn s).inputs = s.inputs ∧ (enterRunOn s).channels = s.channels ∧ (enterRunOn s).flow = s.flow
      ∧ (enterRunOn s).watch = s.watch ∧ (enterRunOn s).valves = s.valves ∧ (enterRunOn s).line = s.line
      ∧ (enterRunOn s).peers = s.peers ∧ (enterRunOn s).zones = s.zones ∧ (enterRunOn s).doors = s.doors
      ∧ (enterRunOn s).sirens = s.sirens ∧ (enterRunOn s).service = s.service
      ∧ (enterRunOn s).configMemory = s.configMemory ∧ (enterRunOn s).freeCount = s.freeCount
      ∧ (enterRunOn s).pending = s.pending := by
  refine ⟨?_, ?_, ?_, ?_, ?_, ?_, ?_, ?_, ?_, ?_, ?_, ?_, ?_, ?_, ?_, ?_, ?_⟩ <;> (unfold enterRunOn enterStep; dsimp only; (repeat' split) <;> simp)

/-- `enterVenting` changes only sequencer, log. -/
@[simp] theorem enterVenting_frame (s : State) :
    (enterVenting s).time = s.time ∧ (enterVenting s).startup = s.startup ∧ (enterVenting s).config = s.config
      ∧ (enterVenting s).inputs = s.inputs ∧ (enterVenting s).channels = s.channels
      ∧ (enterVenting s).flow = s.flow ∧ (enterVenting s).watch = s.watch ∧ (enterVenting s).valves = s.valves
      ∧ (enterVenting s).line = s.line ∧ (enterVenting s).peers = s.peers ∧ (enterVenting s).zones = s.zones
      ∧ (enterVenting s).doors = s.doors ∧ (enterVenting s).sirens = s.sirens
      ∧ (enterVenting s).service = s.service ∧ (enterVenting s).configMemory = s.configMemory
      ∧ (enterVenting s).freeCount = s.freeCount ∧ (enterVenting s).pending = s.pending := by
  refine ⟨?_, ?_, ?_, ?_, ?_, ?_, ?_, ?_, ?_, ?_, ?_, ?_, ?_, ?_, ?_, ?_, ?_⟩ <;> (unfold enterVenting enterStep; dsimp only; (repeat' split) <;> simp)

/-- `enterFeedStopping` changes only sequencer, log. -/
@[simp] theorem enterFeedStopping_frame (s : State) :
    (enterFeedStopping s).time = s.time ∧ (enterFeedStopping s).startup = s.startup
      ∧ (enterFeedStopping s).config = s.config ∧ (enterFeedStopping s).inputs = s.inputs
      ∧ (enterFeedStopping s).channels = s.channels ∧ (enterFeedStopping s).flow = s.flow
      ∧ (enterFeedStopping s).watch = s.watch ∧ (enterFeedStopping s).valves = s.valves
      ∧ (enterFeedStopping s).line = s.line ∧ (enterFeedStopping s).peers = s.peers
      ∧ (enterFeedStopping s).zones = s.zones ∧ (enterFeedStopping s).doors = s.doors
      ∧ (enterFeedStopping s).sirens = s.sirens ∧ (enterFeedStopping s).service = s.service
      ∧ (enterFeedStopping s).configMemory = s.configMemory ∧ (enterFeedStopping s).freeCount = s.freeCount
      ∧ (enterFeedStopping s).pending = s.pending := by
  refine ⟨?_, ?_, ?_, ?_, ?_, ?_, ?_, ?_, ?_, ?_, ?_, ?_, ?_, ?_, ?_, ?_, ?_⟩ <;> (unfold enterFeedStopping enterStep; dsimp only; (repeat' split) <;> simp)

/-- `enterRunning` changes only sequencer, log. -/
@[simp] theorem enterRunning_frame (s : State) :
    (enterRunning s).time = s.time ∧ (enterRunning s).startup = s.startup ∧ (enterRunning s).config = s.config
      ∧ (enterRunning s).inputs = s.inputs ∧ (enterRunning s).channels = s.channels
      ∧ (enterRunning s).flow = s.flow ∧ (enterRunning s).watch = s.watch ∧ (enterRunning s).valves = s.valves
      ∧ (enterRunning s).line = s.line ∧ (enterRunning s).peers = s.peers ∧ (enterRunning s).zones = s.zones
      ∧ (enterRunning s).doors = s.doors ∧ (enterRunning s).sirens = s.sirens
      ∧ (enterRunning s).service = s.service ∧ (enterRunning s).configMemory = s.configMemory
      ∧ (enterRunning s).freeCount = s.freeCount ∧ (enterRunning s).pending = s.pending := by
  refine ⟨?_, ?_, ?_, ?_, ?_, ?_, ?_, ?_, ?_, ?_, ?_, ?_, ?_, ?_, ?_, ?_, ?_⟩ <;> rfl

/-- `enterFeedWait` changes only sequencer, log. -/
@[simp] theorem enterFeedWait_frame (s : State) :
    (enterFeedWait s).time = s.time ∧ (enterFeedWait s).startup = s.startup
      ∧ (enterFeedWait s).config = s.config ∧ (enterFeedWait s).inputs = s.inputs
      ∧ (enterFeedWait s).channels = s.channels ∧ (enterFeedWait s).flow = s.flow
      ∧ (enterFeedWait s).watch = s.watch ∧ (enterFeedWait s).valves = s.valves
      ∧ (enterFeedWait s).line = s.line ∧ (enterFeedWait s).peers = s.peers ∧ (enterFeedWait s).zones = s.zones
      ∧ (enterFeedWait s).doors = s.doors ∧ (enterFeedWait s).sirens = s.sirens
      ∧ (enterFeedWait s).service = s.service ∧ (enterFeedWait s).configMemory = s.configMemory
      ∧ (enterFeedWait s).freeCount = s.freeCount ∧ (enterFeedWait s).pending = s.pending := by
  refine ⟨?_, ?_, ?_, ?_, ?_, ?_, ?_, ?_, ?_, ?_, ?_, ?_, ?_, ?_, ?_, ?_, ?_⟩ <;> (unfold enterFeedWait; dsimp only; (repeat' split) <;> simp)

/-- `enterGateReturning` changes only sequencer, log. -/
@[simp] theorem enterGateReturning_frame (s : State) :
    (enterGateReturning s).time = s.time ∧ (enterGateReturning s).startup = s.startup
      ∧ (enterGateReturning s).config = s.config ∧ (enterGateReturning s).inputs = s.inputs
      ∧ (enterGateReturning s).channels = s.channels ∧ (enterGateReturning s).flow = s.flow
      ∧ (enterGateReturning s).watch = s.watch ∧ (enterGateReturning s).valves = s.valves
      ∧ (enterGateReturning s).line = s.line ∧ (enterGateReturning s).peers = s.peers
      ∧ (enterGateReturning s).zones = s.zones ∧ (enterGateReturning s).doors = s.doors
      ∧ (enterGateReturning s).sirens = s.sirens ∧ (enterGateReturning s).service = s.service
      ∧ (enterGateReturning s).configMemory = s.configMemory ∧ (enterGateReturning s).freeCount = s.freeCount
      ∧ (enterGateReturning s).pending = s.pending := by
  refine ⟨?_, ?_, ?_, ?_, ?_, ?_, ?_, ?_, ?_, ?_, ?_, ?_, ?_, ?_, ?_, ?_, ?_⟩ <;> (unfold enterGateReturning enterStep; dsimp only; (repeat' split) <;> simp)

/-- `enterFanStarting` changes only sequencer, log. -/
@[simp] theorem enterFanStarting_frame (s : State) :
    (enterFanStarting s).time = s.time ∧ (enterFanStarting s).startup = s.startup
      ∧ (enterFanStarting s).config = s.config ∧ (enterFanStarting s).inputs = s.inputs
      ∧ (enterFanStarting s).channels = s.channels ∧ (enterFanStarting s).flow = s.flow
      ∧ (enterFanStarting s).watch = s.watch ∧ (enterFanStarting s).valves = s.valves
      ∧ (enterFanStarting s).line = s.line ∧ (enterFanStarting s).peers = s.peers
      ∧ (enterFanStarting s).zones = s.zones ∧ (enterFanStarting s).doors = s.doors
      ∧ (enterFanStarting s).sirens = s.sirens ∧ (enterFanStarting s).service = s.service
      ∧ (enterFanStarting s).configMemory = s.configMemory ∧ (enterFanStarting s).freeCount = s.freeCount
      ∧ (enterFanStarting s).pending = s.pending := by
  refine ⟨?_, ?_, ?_, ?_, ?_, ?_, ?_, ?_, ?_, ?_, ?_, ?_, ?_, ?_, ?_, ?_, ?_⟩ <;> (unfold enterFanStarting enterStep; dsimp only; (repeat' split) <;> simp)

/-- `enterDamperOpening` changes only sequencer, log. -/
@[simp] theorem enterDamperOpening_frame (s : State) :
    (enterDamperOpening s).time = s.time ∧ (enterDamperOpening s).startup = s.startup
      ∧ (enterDamperOpening s).config = s.config ∧ (enterDamperOpening s).inputs = s.inputs
      ∧ (enterDamperOpening s).channels = s.channels ∧ (enterDamperOpening s).flow = s.flow
      ∧ (enterDamperOpening s).watch = s.watch ∧ (enterDamperOpening s).valves = s.valves
      ∧ (enterDamperOpening s).line = s.line ∧ (enterDamperOpening s).peers = s.peers
      ∧ (enterDamperOpening s).zones = s.zones ∧ (enterDamperOpening s).doors = s.doors
      ∧ (enterDamperOpening s).sirens = s.sirens ∧ (enterDamperOpening s).service = s.service
      ∧ (enterDamperOpening s).configMemory = s.configMemory ∧ (enterDamperOpening s).freeCount = s.freeCount
      ∧ (enterDamperOpening s).pending = s.pending := by
  refine ⟨?_, ?_, ?_, ?_, ?_, ?_, ?_, ?_, ?_, ?_, ?_, ?_, ?_, ?_, ?_, ?_, ?_⟩ <;> (unfold enterDamperOpening enterStep; dsimp only; (repeat' split) <;> simp)

/-- `nextStep` changes only sequencer, log. -/
@[simp] theorem nextStep_frame (st : SeqState) (s : State) :
    (nextStep st s).time = s.time ∧ (nextStep st s).startup = s.startup ∧ (nextStep st s).config = s.config
      ∧ (nextStep st s).inputs = s.inputs ∧ (nextStep st s).channels = s.channels
      ∧ (nextStep st s).flow = s.flow ∧ (nextStep st s).watch = s.watch ∧ (nextStep st s).valves = s.valves
      ∧ (nextStep st s).line = s.line ∧ (nextStep st s).peers = s.peers ∧ (nextStep st s).zones = s.zones
      ∧ (nextStep st s).doors = s.doors ∧ (nextStep st s).sirens = s.sirens
      ∧ (nextStep st s).service = s.service ∧ (nextStep st s).configMemory = s.configMemory
      ∧ (nextStep st s).freeCount = s.freeCount ∧ (nextStep st s).pending = s.pending := by
  refine ⟨?_, ?_, ?_, ?_, ?_, ?_, ?_, ?_, ?_, ?_, ?_, ?_, ?_, ?_, ?_, ?_, ?_⟩ <;> (unfold nextStep; (repeat' split) <;> simp)

/-- `completeStep` changes only sequencer, log. -/
@[simp] theorem completeStep_frame (code : Nat) (s : State) :
    (completeStep code s).time = s.time ∧ (completeStep code s).startup = s.startup
      ∧ (completeStep code s).config = s.config ∧ (completeStep code s).inputs = s.inputs
      ∧ (completeStep code s).channels = s.channels ∧ (completeStep code s).flow = s.flow
      ∧ (completeStep code s).watch = s.watch ∧ (completeStep code s).valves = s.valves
      ∧ (completeStep code s).line = s.line ∧ (completeStep code s).peers = s.peers
      ∧ (completeStep code s).zones = s.zones ∧ (completeStep code s).doors = s.doors
      ∧ (completeStep code s).sirens = s.sirens ∧ (completeStep code s).service = s.service
      ∧ (completeStep code s).configMemory = s.configMemory ∧ (completeStep code s).freeCount = s.freeCount
      ∧ (completeStep code s).pending = s.pending := by
  refine ⟨?_, ?_, ?_, ?_, ?_, ?_, ?_, ?_, ?_, ?_, ?_, ?_, ?_, ?_, ?_, ?_, ?_⟩ <;> simp [completeStep]

/-- `setStepFault` changes only sequencer, sirens, log. -/
@[simp] theorem setStepFault_frame (b : Bool) (s : State) :
    (setStepFault b s).time = s.time ∧ (setStepFault b s).startup = s.startup
      ∧ (setStepFault b s).config = s.config ∧ (setStepFault b s).inputs = s.inputs
      ∧ (setStepFault b s).channels = s.channels ∧ (setStepFault b s).flow = s.flow
      ∧ (setStepFault b s).watch = s.watch ∧ (setStepFault b s).valves = s.valves
      ∧ (setStepFault b s).line = s.line ∧ (setStepFault b s).peers = s.peers
      ∧ (setStepFault b s).zones = s.zones ∧ (setStepFault b s).doors = s.doors
      ∧ (setStepFault b s).service = s.service ∧ (setStepFault b s).configMemory = s.configMemory
      ∧ (setStepFault b s).freeCount = s.freeCount ∧ (setStepFault b s).pending = s.pending := by
  refine ⟨?_, ?_, ?_, ?_, ?_, ?_, ?_, ?_, ?_, ?_, ?_, ?_, ?_, ?_, ?_, ?_⟩ <;> simp [setStepFault]

/-- `faultStep` changes only sequencer, sirens, log. -/
@[simp] theorem faultStep_frame (s : State) :
    (faultStep s).time = s.time ∧ (faultStep s).startup = s.startup ∧ (faultStep s).config = s.config
      ∧ (faultStep s).inputs = s.inputs ∧ (faultStep s).channels = s.channels ∧ (faultStep s).flow = s.flow
      ∧ (faultStep s).watch = s.watch ∧ (faultStep s).valves = s.valves ∧ (faultStep s).line = s.line
      ∧ (faultStep s).peers = s.peers ∧ (faultStep s).zones = s.zones ∧ (faultStep s).doors = s.doors
      ∧ (faultStep s).service = s.service ∧ (faultStep s).configMemory = s.configMemory
      ∧ (faultStep s).freeCount = s.freeCount ∧ (faultStep s).pending = s.pending := by
  refine ⟨?_, ?_, ?_, ?_, ?_, ?_, ?_, ?_, ?_, ?_, ?_, ?_, ?_, ?_, ?_, ?_⟩ <;> (unfold faultStep; dsimp only; (repeat' split) <;> simp)

/-- `reversalStep` changes only sequencer, log. -/
@[simp] theorem reversalStep_frame (st : SeqState) (s : State) :
    (reversalStep st s).time = s.time ∧ (reversalStep st s).startup = s.startup
      ∧ (reversalStep st s).config = s.config ∧ (reversalStep st s).inputs = s.inputs
      ∧ (reversalStep st s).channels = s.channels ∧ (reversalStep st s).flow = s.flow
      ∧ (reversalStep st s).watch = s.watch ∧ (reversalStep st s).valves = s.valves
      ∧ (reversalStep st s).line = s.line ∧ (reversalStep st s).peers = s.peers
      ∧ (reversalStep st s).zones = s.zones ∧ (reversalStep st s).doors = s.doors
      ∧ (reversalStep st s).sirens = s.sirens ∧ (reversalStep st s).service = s.service
      ∧ (reversalStep st s).configMemory = s.configMemory ∧ (reversalStep st s).freeCount = s.freeCount
      ∧ (reversalStep st s).pending = s.pending := by
  refine ⟨?_, ?_, ?_, ?_, ?_, ?_, ?_, ?_, ?_, ?_, ?_, ?_, ?_, ?_, ?_, ?_, ?_⟩ <;> (unfold reversalStep; (repeat' split) <;> simp)

/-- `sequencerNotice` changes only sequencer, log. -/
@[simp] theorem sequencerNotice_frame (view : Level) (s : State) :
    (sequencerNotice view s).time = s.time ∧ (sequencerNotice view s).startup = s.startup
      ∧ (sequencerNotice view s).config = s.config ∧ (sequencerNotice view s).inputs = s.inputs
      ∧ (sequencerNotice view s).channels = s.channels ∧ (sequencerNotice view s).flow = s.flow
      ∧ (sequencerNotice view s).watch = s.watch ∧ (sequencerNotice view s).valves = s.valves
      ∧ (sequencerNotice view s).line = s.line ∧ (sequencerNotice view s).peers = s.peers
      ∧ (sequencerNotice view s).zones = s.zones ∧ (sequencerNotice view s).doors = s.doors
      ∧ (sequencerNotice view s).sirens = s.sirens ∧ (sequencerNotice view s).service = s.service
      ∧ (sequencerNotice view s).configMemory = s.configMemory
      ∧ (sequencerNotice view s).freeCount = s.freeCount ∧ (sequencerNotice view s).pending = s.pending := by
  refine ⟨?_, ?_, ?_, ?_, ?_, ?_, ?_, ?_, ?_, ?_, ?_, ?_, ?_, ?_, ?_, ?_, ?_⟩ <;> (unfold sequencerNotice; (repeat' split) <;> simp)

/-- `confirmByInput` changes only sequencer, log. -/
@[simp] theorem confirmByInput_frame (i : ConfirmInput) (s : State) :
    (confirmByInput i s).time = s.time ∧ (confirmByInput i s).startup = s.startup
      ∧ (confirmByInput i s).config = s.config ∧ (confirmByInput i s).inputs = s.inputs
      ∧ (confirmByInput i s).channels = s.channels ∧ (confirmByInput i s).flow = s.flow
      ∧ (confirmByInput i s).watch = s.watch ∧ (confirmByInput i s).valves = s.valves
      ∧ (confirmByInput i s).line = s.line ∧ (confirmByInput i s).peers = s.peers
      ∧ (confirmByInput i s).zones = s.zones ∧ (confirmByInput i s).doors = s.doors
      ∧ (confirmByInput i s).sirens = s.sirens ∧ (confirmByInput i s).service = s.service
      ∧ (confirmByInput i s).configMemory = s.configMemory ∧ (confirmByInput i s).freeCount = s.freeCount
      ∧ (confirmByInput i s).pending = s.pending := by
  refine ⟨?_, ?_, ?_, ?_, ?_, ?_, ?_, ?_, ?_, ?_, ?_, ?_, ?_, ?_, ?_, ?_, ?_⟩ <;> (unfold confirmByInput; (repeat' split) <;> simp)

/-- `confirmByFlow` changes only sequencer, log. -/
@[simp] theorem confirmByFlow_frame (s : State) :
    (confirmByFlow s).time = s.time ∧ (confirmByFlow s).startup = s.startup
      ∧ (confirmByFlow s).config = s.config ∧ (confirmByFlow s).inputs = s.inputs
      ∧ (confirmByFlow s).channels = s.channels ∧ (confirmByFlow s).flow = s.flow
      ∧ (confirmByFlow s).watch = s.watch ∧ (confirmByFlow s).valves = s.valves
      ∧ (confirmByFlow s).line = s.line ∧ (confirmByFlow s).peers = s.peers ∧ (confirmByFlow s).zones = s.zones
      ∧ (confirmByFlow s).doors = s.doors ∧ (confirmByFlow s).sirens = s.sirens
      ∧ (confirmByFlow s).service = s.service ∧ (confirmByFlow s).configMemory = s.configMemory
      ∧ (confirmByFlow s).freeCount = s.freeCount ∧ (confirmByFlow s).pending = s.pending := by
  refine ⟨?_, ?_, ?_, ?_, ?_, ?_, ?_, ?_, ?_, ?_, ?_, ?_, ?_, ?_, ?_, ?_, ?_⟩ <;> (unfold confirmByFlow; (repeat' split) <;> simp)

/-- `setFeedHold` changes only sequencer. -/
@[simp] theorem setFeedHold_frame (b : Bool) (s : State) :
    (setFeedHold b s).time = s.time ∧ (setFeedHold b s).startup = s.startup
      ∧ (setFeedHold b s).config = s.config ∧ (setFeedHold b s).inputs = s.inputs
      ∧ (setFeedHold b s).channels = s.channels ∧ (setFeedHold b s).flow = s.flow
      ∧ (setFeedHold b s).watch = s.watch ∧ (setFeedHold b s).valves = s.valves
      ∧ (setFeedHold b s).line = s.line ∧ (setFeedHold b s).peers = s.peers ∧ (setFeedHold b s).zones = s.zones
      ∧ (setFeedHold b s).doors = s.doors ∧ (setFeedHold b s).sirens = s.sirens ∧ (setFeedHold b s).log = s.log
      ∧ (setFeedHold b s).service = s.service ∧ (setFeedHold b s).configMemory = s.configMemory
      ∧ (setFeedHold b s).freeCount = s.freeCount ∧ (setFeedHold b s).pending = s.pending := by
  refine ⟨?_, ?_, ?_, ?_, ?_, ?_, ?_, ?_, ?_, ?_, ?_, ?_, ?_, ?_, ?_, ?_, ?_, ?_⟩ <;> rfl

/-- `placeDemand` changes only sequencer, log. -/
@[simp] theorem placeDemand_frame (d : Fin 2) (s : State) :
    (placeDemand d s).time = s.time ∧ (placeDemand d s).startup = s.startup
      ∧ (placeDemand d s).config = s.config ∧ (placeDemand d s).inputs = s.inputs
      ∧ (placeDemand d s).channels = s.channels ∧ (placeDemand d s).flow = s.flow
      ∧ (placeDemand d s).watch = s.watch ∧ (placeDemand d s).valves = s.valves
      ∧ (placeDemand d s).line = s.line ∧ (placeDemand d s).peers = s.peers ∧ (placeDemand d s).zones = s.zones
      ∧ (placeDemand d s).doors = s.doors ∧ (placeDemand d s).sirens = s.sirens
      ∧ (placeDemand d s).service = s.service ∧ (placeDemand d s).configMemory = s.configMemory
      ∧ (placeDemand d s).freeCount = s.freeCount ∧ (placeDemand d s).pending = s.pending := by
  refine ⟨?_, ?_, ?_, ?_, ?_, ?_, ?_, ?_, ?_, ?_, ?_, ?_, ?_, ?_, ?_, ?_, ?_⟩ <;> (unfold placeDemand; dsimp only; (repeat' split) <;> simp)

/-- `withdrawDemand` changes only sequencer, log. -/
@[simp] theorem withdrawDemand_frame (d : Fin 2) (s : State) :
    (withdrawDemand d s).time = s.time ∧ (withdrawDemand d s).startup = s.startup
      ∧ (withdrawDemand d s).config = s.config ∧ (withdrawDemand d s).inputs = s.inputs
      ∧ (withdrawDemand d s).channels = s.channels ∧ (withdrawDemand d s).flow = s.flow
      ∧ (withdrawDemand d s).watch = s.watch ∧ (withdrawDemand d s).valves = s.valves
      ∧ (withdrawDemand d s).line = s.line ∧ (withdrawDemand d s).peers = s.peers
      ∧ (withdrawDemand d s).zones = s.zones ∧ (withdrawDemand d s).doors = s.doors
      ∧ (withdrawDemand d s).sirens = s.sirens ∧ (withdrawDemand d s).service = s.service
      ∧ (withdrawDemand d s).configMemory = s.configMemory ∧ (withdrawDemand d s).freeCount = s.freeCount
      ∧ (withdrawDemand d s).pending = s.pending := by
  refine ⟨?_, ?_, ?_, ?_, ?_, ?_, ?_, ?_, ?_, ?_, ?_, ?_, ?_, ?_, ?_, ?_, ?_⟩ <;> (unfold withdrawDemand; dsimp only; (repeat' split) <;> simp)

/-- `syncDemand` changes only sequencer, doors, log. -/
@[simp] theorem syncDemand_frame (d : Fin 2) (s : State) :
    (syncDemand d s).time = s.time ∧ (syncDemand d s).startup = s.startup ∧ (syncDemand d s).config = s.config
      ∧ (syncDemand d s).inputs = s.inputs ∧ (syncDemand d s).channels = s.channels
      ∧ (syncDemand d s).flow = s.flow ∧ (syncDemand d s).watch = s.watch ∧ (syncDemand d s).valves = s.valves
      ∧ (syncDemand d s).line = s.line ∧ (syncDemand d s).peers = s.peers ∧ (syncDemand d s).zones = s.zones
      ∧ (syncDemand d s).sirens = s.sirens ∧ (syncDemand d s).service = s.service
      ∧ (syncDemand d s).configMemory = s.configMemory ∧ (syncDemand d s).freeCount = s.freeCount
      ∧ (syncDemand d s).pending = s.pending := by
  refine ⟨?_, ?_, ?_, ?_, ?_, ?_, ?_, ?_, ?_, ?_, ?_, ?_, ?_, ?_, ?_, ?_⟩ <;> (unfold syncDemand; dsimp only; (repeat' split) <;> simp)

/-- `setDoor` changes only sequencer, doors, sirens, log. -/
@[simp] theorem setDoor_frame (d : Fin 2) (st : DoorState) (cause : Nat) (s : State) :
    (setDoor d st cause s).time = s.time ∧ (setDoor d st cause s).startup = s.startup
      ∧ (setDoor d st cause s).config = s.config ∧ (setDoor d st cause s).inputs = s.inputs
      ∧ (setDoor d st cause s).channels = s.channels ∧ (setDoor d st cause s).flow = s.flow
      ∧ (setDoor d st cause s).watch = s.watch ∧ (setDoor d st cause s).valves = s.valves
      ∧ (setDoor d st cause s).line = s.line ∧ (setDoor d st cause s).peers = s.peers
      ∧ (setDoor d st cause s).zones = s.zones ∧ (setDoor d st cause s).service = s.service
      ∧ (setDoor d st cause s).configMemory = s.configMemory ∧ (setDoor d st cause s).freeCount = s.freeCount
      ∧ (setDoor d st cause s).pending = s.pending := by
  refine ⟨?_, ?_, ?_, ?_, ?_, ?_, ?_, ?_, ?_, ?_, ?_, ?_, ?_, ?_, ?_⟩ <;> simp [setDoor]

/-- `closeDoor` changes only sequencer, doors, sirens, log. -/
@[simp] theorem closeDoor_frame (d : Fin 2) (s : State) :
    (closeDoor d s).time = s.time ∧ (closeDoor d s).startup = s.startup ∧ (closeDoor d s).config = s.config
      ∧ (closeDoor d s).inputs = s.inputs ∧ (closeDoor d s).channels = s.channels
      ∧ (closeDoor d s).flow = s.flow ∧ (closeDoor d s).watch = s.watch ∧ (closeDoor d s).valves = s.valves
      ∧ (closeDoor d s).line = s.line ∧ (closeDoor d s).peers = s.peers ∧ (closeDoor d s).zones = s.zones
      ∧ (closeDoor d s).service = s.service ∧ (closeDoor d s).configMemory = s.configMemory
      ∧ (closeDoor d s).freeCount = s.freeCount ∧ (closeDoor d s).pending = s.pending := by
  refine ⟨?_, ?_, ?_, ?_, ?_, ?_, ?_, ?_, ?_, ?_, ?_, ?_, ?_, ?_, ?_⟩ <;> (unfold closeDoor; dsimp only; (repeat' split) <;> simp)

/-- `releaseDoor` changes only sequencer, doors, sirens, log. -/
@[simp] theorem releaseDoor_frame (d : Fin 2) (cause : Nat) (s : State) :
    (releaseDoor d cause s).time = s.time ∧ (releaseDoor d cause s).startup = s.startup
      ∧ (releaseDoor d cause s).config = s.config ∧ (releaseDoor d cause s).inputs = s.inputs
      ∧ (releaseDoor d cause s).channels = s.channels ∧ (releaseDoor d cause s).flow = s.flow
      ∧ (releaseDoor d cause s).watch = s.watch ∧ (releaseDoor d cause s).valves = s.valves
      ∧ (releaseDoor d cause s).line = s.line ∧ (releaseDoor d cause s).peers = s.peers
      ∧ (releaseDoor d cause s).zones = s.zones ∧ (releaseDoor d cause s).service = s.service
      ∧ (releaseDoor d cause s).configMemory = s.configMemory ∧ (releaseDoor d cause s).freeCount = s.freeCount
      ∧ (releaseDoor d cause s).pending = s.pending := by
  refine ⟨?_, ?_, ?_, ?_, ?_, ?_, ?_, ?_, ?_, ?_, ?_, ?_, ?_, ?_, ?_⟩ <;> (unfold releaseDoor; dsimp only; (repeat' split) <;> simp)

/-- `clearDoor` changes only sequencer, doors, sirens, log. -/
@[simp] theorem clearDoor_frame (d : Fin 2) (s : State) :
    (clearDoor d s).time = s.time ∧ (clearDoor d s).startup = s.startup ∧ (clearDoor d s).config = s.config
      ∧ (clearDoor d s).inputs = s.inputs ∧ (clearDoor d s).channels = s.channels
      ∧ (clearDoor d s).flow = s.flow ∧ (clearDoor d s).watch = s.watch ∧ (clearDoor d s).valves = s.valves
      ∧ (clearDoor d s).line = s.line ∧ (clearDoor d s).peers = s.peers ∧ (clearDoor d s).zones = s.zones
      ∧ (clearDoor d s).service = s.service ∧ (clearDoor d s).configMemory = s.configMemory
      ∧ (clearDoor d s).freeCount = s.freeCount ∧ (clearDoor d s).pending = s.pending := by
  refine ⟨?_, ?_, ?_, ?_, ?_, ?_, ?_, ?_, ?_, ?_, ?_, ?_, ?_, ?_, ?_⟩ <;> (unfold clearDoor; dsimp only; (repeat' split) <;> simp)

/-- `doorNotice` changes only sequencer, doors, sirens, log. -/
@[simp] theorem doorNotice_frame (z : Nat) (view : Level) (d : Fin 2) (s : State) :
    (doorNotice z view d s).time = s.time ∧ (doorNotice z view d s).startup = s.startup
      ∧ (doorNotice z view d s).config = s.config ∧ (doorNotice z view d s).inputs = s.inputs
      ∧ (doorNotice z view d s).channels = s.channels ∧ (doorNotice z view d s).flow = s.flow
      ∧ (doorNotice z view d s).watch = s.watch ∧ (doorNotice z view d s).valves = s.valves
      ∧ (doorNotice z view d s).line = s.line ∧ (doorNotice z view d s).peers = s.peers
      ∧ (doorNotice z view d s).zones = s.zones ∧ (doorNotice z view d s).service = s.service
      ∧ (doorNotice z view d s).configMemory = s.configMemory ∧ (doorNotice z view d s).freeCount = s.freeCount
      ∧ (doorNotice z view d s).pending = s.pending := by
  refine ⟨?_, ?_, ?_, ?_, ?_, ?_, ?_, ?_, ?_, ?_, ?_, ?_, ?_, ?_, ?_⟩ <;> (unfold doorNotice; dsimp only; (repeat' split) <;> simp)

/-- `sound` changes only sirens, log. -/
@[simp] theorem sound_frame (i : Fin 2) (p : Pattern) (s : State) :
    (sound i p s).time = s.time ∧ (sound i p s).startup = s.startup ∧ (sound i p s).config = s.config
      ∧ (sound i p s).inputs = s.inputs ∧ (sound i p s).channels = s.channels ∧ (sound i p s).flow = s.flow
      ∧ (sound i p s).watch = s.watch ∧ (sound i p s).valves = s.valves ∧ (sound i p s).line = s.line
      ∧ (sound i p s).peers = s.peers ∧ (sound i p s).zones = s.zones ∧ (sound i p s).sequencer = s.sequencer
      ∧ (sound i p s).doors = s.doors ∧ (sound i p s).service = s.service
      ∧ (sound i p s).configMemory = s.configMemory ∧ (sound i p s).freeCount = s.freeCount
      ∧ (sound i p s).pending = s.pending := by
  refine ⟨?_, ?_, ?_, ?_, ?_, ?_, ?_, ?_, ?_, ?_, ?_, ?_, ?_, ?_, ?_, ?_, ?_⟩ <;> rfl

/-- `takeGrant` changes only sirens, log. -/
@[simp] theorem takeGrant_frame (i : Fin 2) (old : Pattern) (new : Pattern) (s : State) :
    (takeGrant i old new s).time = s.time ∧ (takeGrant i old new s).startup = s.startup
      ∧ (takeGrant i old new s).config = s.config ∧ (takeGrant i old new s).inputs = s.inputs
      ∧ (takeGrant i old new s).channels = s.channels ∧ (takeGrant i old new s).flow = s.flow
      ∧ (takeGrant i old new s).watch = s.watch ∧ (takeGrant i old new s).valves = s.valves
      ∧ (takeGrant i old new s).line = s.line ∧ (takeGrant i old new s).peers = s.peers
      ∧ (takeGrant i old new s).zones = s.zones ∧ (takeGrant i old new s).sequencer = s.sequencer
      ∧ (takeGrant i old new s).doors = s.doors ∧ (takeGrant i old new s).service = s.service
      ∧ (takeGrant i old new s).configMemory = s.configMemory ∧ (takeGrant i old new s).freeCount = s.freeCount
      ∧ (takeGrant i old new s).pending = s.pending := by
  refine ⟨?_, ?_, ?_, ?_, ?_, ?_, ?_, ?_, ?_, ?_, ?_, ?_, ?_, ?_, ?_, ?_, ?_⟩ <;> (unfold takeGrant; dsimp only; (repeat' split) <;> simp)

/-- `endSilence` changes only sirens, log. -/
@[simp] theorem endSilence_frame (i : Fin 2) (cause : Nat) (s : State) :
    (endSilence i cause s).time = s.time ∧ (endSilence i cause s).startup = s.startup
      ∧ (endSilence i cause s).config = s.config ∧ (endSilence i cause s).inputs = s.inputs
      ∧ (endSilence i cause s).channels = s.channels ∧ (endSilence i cause s).flow = s.flow
      ∧ (endSilence i cause s).watch = s.watch ∧ (endSilence i cause s).valves = s.valves
      ∧ (endSilence i cause s).line = s.line ∧ (endSilence i cause s).peers = s.peers
      ∧ (endSilence i cause s).zones = s.zones ∧ (endSilence i cause s).sequencer = s.sequencer
      ∧ (endSilence i cause s).doors = s.doors ∧ (endSilence i cause s).service = s.service
      ∧ (endSilence i cause s).configMemory = s.configMemory ∧ (endSilence i cause s).freeCount = s.freeCount
      ∧ (endSilence i cause s).pending = s.pending := by
  refine ⟨?_, ?_, ?_, ?_, ?_, ?_, ?_, ?_, ?_, ?_, ?_, ?_, ?_, ?_, ?_, ?_, ?_⟩ <;> rfl

/-- `judgeSilence` changes only sirens, log. -/
@[simp] theorem judgeSilence_frame (i : Fin 2) (level : Level) (s : State) :
    (judgeSilence i level s).time = s.time ∧ (judgeSilence i level s).startup = s.startup
      ∧ (judgeSilence i level s).config = s.config ∧ (judgeSilence i level s).inputs = s.inputs
      ∧ (judgeSilence i level s).channels = s.channels ∧ (judgeSilence i level s).flow = s.flow
      ∧ (judgeSilence i level s).watch = s.watch ∧ (judgeSilence i level s).valves = s.valves
      ∧ (judgeSilence i level s).line = s.line ∧ (judgeSilence i level s).peers = s.peers
      ∧ (judgeSilence i level s).zones = s.zones ∧ (judgeSilence i level s).sequencer = s.sequencer
      ∧ (judgeSilence i level s).doors = s.doors ∧ (judgeSilence i level s).service = s.service
      ∧ (judgeSilence i level s).configMemory = s.configMemory
      ∧ (judgeSilence i level s).freeCount = s.freeCount ∧ (judgeSilence i level s).pending = s.pending := by
  refine ⟨?_, ?_, ?_, ?_, ?_, ?_, ?_, ?_, ?_, ?_, ?_, ?_, ?_, ?_, ?_, ?_, ?_⟩ <;> (unfold judgeSilence; dsimp only; (repeat' split) <;> simp)

/-- `sirenNotice` changes only sirens, log. -/
@[simp] theorem sirenNotice_frame (z : Nat) (view : Level) (i : Fin 2) (s : State) :
    (sirenNotice z view i s).time = s.time ∧ (sirenNotice z view i s).startup = s.startup
      ∧ (sirenNotice z view i s).config = s.config ∧ (sirenNotice z view i s).inputs = s.inputs
      ∧ (sirenNotice z view i s).channels = s.channels ∧ (sirenNotice z view i s).flow = s.flow
      ∧ (sirenNotice z view i s).watch = s.watch ∧ (sirenNotice z view i s).valves = s.valves
      ∧ (sirenNotice z view i s).line = s.line ∧ (sirenNotice z view i s).peers = s.peers
      ∧ (sirenNotice z view i s).zones = s.zones ∧ (sirenNotice z view i s).sequencer = s.sequencer
      ∧ (sirenNotice z view i s).doors = s.doors ∧ (sirenNotice z view i s).service = s.service
      ∧ (sirenNotice z view i s).configMemory = s.configMemory
      ∧ (sirenNotice z view i s).freeCount = s.freeCount ∧ (sirenNotice z view i s).pending = s.pending := by
  refine ⟨?_, ?_, ?_, ?_, ?_, ?_, ?_, ?_, ?_, ?_, ?_, ?_, ?_, ?_, ?_, ?_, ?_⟩ <;> (unfold sirenNotice; dsimp only; (repeat' split) <;> simp)

/-- `silence` changes only sirens, log. -/
@[simp] theorem silence_frame (i : Fin 2) (s : State) :
    (silence i s).time = s.time ∧ (silence i s).startup = s.startup ∧ (silence i s).config = s.config
      ∧ (silence i s).inputs = s.inputs ∧ (silence i s).channels = s.channels ∧ (silence i s).flow = s.flow
      ∧ (silence i s).watch = s.watch ∧ (silence i s).valves = s.valves ∧ (silence i s).line = s.line
      ∧ (silence i s).peers = s.peers ∧ (silence i s).zones = s.zones ∧ (silence i s).sequencer = s.sequencer
      ∧ (silence i s).doors = s.doors ∧ (silence i s).service = s.service
      ∧ (silence i s).configMemory = s.configMemory ∧ (silence i s).freeCount = s.freeCount
      ∧ (silence i s).pending = s.pending := by
  refine ⟨?_, ?_, ?_, ?_, ?_, ?_, ?_, ?_, ?_, ?_, ?_, ?_, ?_, ?_, ?_, ?_, ?_⟩ <;> (unfold silence; dsimp only; (repeat' split) <;> simp)

/-- `setRingDeadline` changes only zones. -/
@[simp] theorem setRingDeadline_frame (s : State) :
    (setRingDeadline s).time = s.time ∧ (setRingDeadline s).startup = s.startup
      ∧ (setRingDeadline s).config = s.config ∧ (setRingDeadline s).inputs = s.inputs
      ∧ (setRingDeadline s).channels = s.channels ∧ (setRingDeadline s).flow = s.flow
      ∧ (setRingDeadline s).watch = s.watch ∧ (setRingDeadline s).valves = s.valves
      ∧ (setRingDeadline s).line = s.line ∧ (setRingDeadline s).peers = s.peers
      ∧ (setRingDeadline s).sequencer = s.sequencer ∧ (setRingDeadline s).doors = s.doors
      ∧ (setRingDeadline s).sirens = s.sirens ∧ (setRingDeadline s).log = s.log
      ∧ (setRingDeadline s).service = s.service ∧ (setRingDeadline s).configMemory = s.configMemory
      ∧ (setRingDeadline s).freeCount = s.freeCount ∧ (setRingDeadline s).pending = s.pending := by
  refine ⟨?_, ?_, ?_, ?_, ?_, ?_, ?_, ?_, ?_, ?_, ?_, ?_, ?_, ?_, ?_, ?_, ?_, ?_⟩ <;> rfl

/-- `dropOldEntries` changes only zones. -/
@[simp] theorem dropOldEntries_frame (s : State) :
    (dropOldEntries s).time = s.time ∧ (dropOldEntries s).startup = s.startup
      ∧ (dropOldEntries s).config = s.config ∧ (dropOldEntries s).inputs = s.inputs
      ∧ (dropOldEntries s).channels = s.channels ∧ (dropOldEntries s).flow = s.flow
      ∧ (dropOldEntries s).watch = s.watch ∧ (dropOldEntries s).valves = s.valves
      ∧ (dropOldEntries s).line = s.line ∧ (dropOldEntries s).peers = s.peers
      ∧ (dropOldEntries s).sequencer = s.sequencer ∧ (dropOldEntries s).doors = s.doors
      ∧ (dropOldEntries s).sirens = s.sirens ∧ (dropOldEntries s).log = s.log
      ∧ (dropOldEntries s).service = s.service ∧ (dropOldEntries s).configMemory = s.configMemory
      ∧ (dropOldEntries s).freeCount = s.freeCount ∧ (dropOldEntries s).pending = s.pending := by
  refine ⟨?_, ?_, ?_, ?_, ?_, ?_, ?_, ?_, ?_, ?_, ?_, ?_, ?_, ?_, ?_, ?_, ?_, ?_⟩ <;> rfl

/-- `postVote` changes only log. -/
@[simp] theorem postVote_frame (s : State) :
    (postVote s).time = s.time ∧ (postVote s).startup = s.startup ∧ (postVote s).config = s.config
      ∧ (postVote s).inputs = s.inputs ∧ (postVote s).channels = s.channels ∧ (postVote s).flow = s.flow
      ∧ (postVote s).watch = s.watch ∧ (postVote s).valves = s.valves ∧ (postVote s).line = s.line
      ∧ (postVote s).peers = s.peers ∧ (postVote s).zones = s.zones ∧ (postVote s).sequencer = s.sequencer
      ∧ (postVote s).doors = s.doors ∧ (postVote s).sirens = s.sirens ∧ (postVote s).service = s.service
      ∧ (postVote s).configMemory = s.configMemory ∧ (postVote s).freeCount = s.freeCount
      ∧ (postVote s).pending = s.pending := by
  refine ⟨?_, ?_, ?_, ?_, ?_, ?_, ?_, ?_, ?_, ?_, ?_, ?_, ?_, ?_, ?_, ?_, ?_, ?_⟩ <;> rfl

/-- `updateZone` changes only zones. -/
@[simp] theorem updateZone_frame (z : Nat) (f : Zone → Zone) (s : State) :
    (updateZone z f s).time = s.time ∧ (updateZone z f s).startup = s.startup
      ∧ (updateZone z f s).config = s.config ∧ (updateZone z f s).inputs = s.inputs
      ∧ (updateZone z f s).channels = s.channels ∧ (updateZone z f s).flow = s.flow
      ∧ (updateZone z f s).watch = s.watch ∧ (updateZone z f s).valves = s.valves
      ∧ (updateZone z f s).line = s.line ∧ (updateZone z f s).peers = s.peers
      ∧ (updateZone z f s).sequencer = s.sequencer ∧ (updateZone z f s).doors = s.doors
      ∧ (updateZone z f s).sirens = s.sirens ∧ (updateZone z f s).log = s.log
      ∧ (updateZone z f s).service = s.service ∧ (updateZone z f s).configMemory = s.configMemory
      ∧ (updateZone z f s).freeCount = s.freeCount ∧ (updateZone z f s).pending = s.pending := by
  refine ⟨?_, ?_, ?_, ?_, ?_, ?_, ?_, ?_, ?_, ?_, ?_, ?_, ?_, ?_, ?_, ?_, ?_, ?_⟩ <;> rfl

/-- `notifyView` changes only sequencer, doors, sirens, log. -/
@[simp] theorem notifyView_frame (z : Nat) (old : Level) (new : Level) (s : State) :
    (notifyView z old new s).time = s.time ∧ (notifyView z old new s).startup = s.startup
      ∧ (notifyView z old new s).config = s.config ∧ (notifyView z old new s).inputs = s.inputs
      ∧ (notifyView z old new s).channels = s.channels ∧ (notifyView z old new s).flow = s.flow
      ∧ (notifyView z old new s).watch = s.watch ∧ (notifyView z old new s).valves = s.valves
      ∧ (notifyView z old new s).line = s.line ∧ (notifyView z old new s).peers = s.peers
      ∧ (notifyView z old new s).zones = s.zones ∧ (notifyView z old new s).service = s.service
      ∧ (notifyView z old new s).configMemory = s.configMemory
      ∧ (notifyView z old new s).freeCount = s.freeCount ∧ (notifyView z old new s).pending = s.pending := by
  refine ⟨?_, ?_, ?_, ?_, ?_, ?_, ?_, ?_, ?_, ?_, ?_, ?_, ?_, ?_, ?_⟩ <;> (unfold notifyView; dsimp only; (repeat' split) <;> simp)

end Sys2Proof.Machine
end

