-- ==== Sys2Proof/Laws/ZoneFrames.lean ====
section
/-! SUPPORT. What the zone unit's recounts leave as they stand, and with them every operation that reports to the zone
unit: conditions, valves, detections, lines and peers. -/

namespace Sys2Proof.Machine

/-- A reading of the state that no recount of the zone unit changes. -/
structure Steady {β : Type} (g : State → β) : Prop where
  notify : ∀ z old new s, g (notifyView z old new s) = g s
  post : ∀ k a b c d s, g (Sys2Proof.Machine.post k a b c d s) = g s
  zones : ∀ (s : State) (u : ZoneUnit), g { s with zones := u } = g s
  vote : ∀ v s, g (handVote v s) = g s

/-- A recount of a zone keeps every steady reading that `onHalt` keeps. -/
theorem recountZoneWith_keeps {β : Type} {g : State → β} (h : Steady g) {onHalt : State → State}
    (ho : ∀ s, g (onHalt s) = g s) (z : Nat) (s : State) : g (recountZoneWith onHalt z s) = g s := by
  unfold recountZoneWith
  dsimp only
  (repeat' split) <;> simp [ho, h.notify, h.post, updateZone, h.zones]

/-- A recount of the own vote keeps every steady reading that `onHalt` keeps. -/
theorem recountOwnWith_keeps {β : Type} {g : State → β} (h : Steady g) {onHalt : State → State}
    (ho : ∀ s, g (onHalt s) = g s) (s : State) : g (recountOwnWith onHalt s) = g s := by
  unfold recountOwnWith
  dsimp only
  split
  · exact h.zones s _
  · rw [recountZoneWith_keeps h ho]
    simp [postVote, h.post, h.vote, h.zones]

/-- The report of HALTED keeps every steady reading. -/
theorem reportHalted_keeps {β : Type} {g : State → β} (h : Steady g) (s : State) :
    g (reportHalted s) = g s := by
  unfold reportHalted
  rw [recountOwnWith_keeps h (fun _ => rfl)]
  exact h.zones s _

/-- A recount of the own vote keeps every steady reading. -/
theorem recountOwn_keeps {β : Type} {g : State → β} (h : Steady g) (s : State) : g (recountOwn s) = g s :=
  recountOwnWith_keeps h (reportHalted_keeps h) s

/-- A recount of a zone keeps every steady reading. -/
theorem recountZone_keeps {β : Type} {g : State → β} (h : Steady g) (z : Nat) (s : State) :
    g (recountZone z s) = g s :=
  recountZoneWith_keeps h (reportHalted_keeps h) z s

/-- A fold keeps a reading that each of its steps keeps. -/
theorem foldl_keeps {α β : Type} {g : State → β} {f : State → α → State} (h : ∀ s a, g (f s a) = g s)
    (l : List α) (s : State) : g (l.foldl f s) = g s := by
  induction l generalizing s with
  | nil => rfl
  | cons a t ih => simpa [h] using ih (f s a)

/-- The recount of every zone keeps every steady reading. -/
theorem recountAllZones_keeps {β : Type} {g : State → β} (h : Steady g) (s : State) :
    g (recountAllZones s) = g s :=
  foldl_keeps (fun t z => recountZone_keeps h z t) _ s

/-- `time` is a steady reading. -/
theorem steady_time : Steady (fun s => s.time) :=
  ⟨by simp, by simp, fun _ _ => rfl, by simp⟩

/-- `startup` is a steady reading. -/
theorem steady_startup : Steady (fun s => s.startup) :=
  ⟨by simp, by simp, fun _ _ => rfl, by simp⟩

/-- `config` is a steady reading. -/
theorem steady_config : Steady (fun s => s.config) :=
  ⟨by simp, by simp, fun _ _ => rfl, by simp⟩

/-- `inputs` is a steady reading. -/
theorem steady_inputs : Steady (fun s => s.inputs) :=
  ⟨by simp, by simp, fun _ _ => rfl, by simp⟩

/-- `channels` is a steady reading. -/
theorem steady_channels : Steady (fun s => s.channels) :=
  ⟨by simp, by simp, fun _ _ => rfl, by simp⟩

/-- `flow` is a steady reading. -/
theorem steady_flow : Steady (fun s => s.flow) :=
  ⟨by simp, by simp, fun _ _ => rfl, by simp⟩

/-- `watch` is a steady reading. -/
theorem steady_watch : Steady (fun s => s.watch) :=
  ⟨by simp, by simp, fun _ _ => rfl, by simp⟩

/-- `valves` is a steady reading. -/
theorem steady_valves : Steady (fun s => s.valves) :=
  ⟨by simp, by simp, fun _ _ => rfl, by simp⟩

/-- `peers` is a steady reading. -/
theorem steady_peers : Steady (fun s => s.peers) :=
  ⟨by simp, by simp, fun _ _ => rfl, by simp⟩

/-- `service` is a steady reading. -/
theorem steady_service : Steady (fun s => s.service) :=
  ⟨by simp, by simp, fun _ _ => rfl, by simp⟩

/-- `configMemory` is a steady reading. -/
theorem steady_configMemory : Steady (fun s => s.configMemory) :=
  ⟨by simp, by simp, fun _ _ => rfl, by simp⟩

/-- `freeCount` is a steady reading. -/
theorem steady_freeCount : Steady (fun s => s.freeCount) :=
  ⟨by simp, by simp, fun _ _ => rfl, by simp⟩

/-- `pending` is a steady reading. -/
theorem steady_pending : Steady (fun s => s.pending) :=
  ⟨by simp, by simp, fun _ _ => rfl, by simp⟩

/-- `recountOwn` changes only line, zones, sequencer, doors, sirens, log. -/
@[simp] theorem recountOwn_frame (s : State) :
    (recountOwn s).time = s.time ∧ (recountOwn s).startup = s.startup ∧ (recountOwn s).config = s.config
      ∧ (recountOwn s).inputs = s.inputs ∧ (recountOwn s).channels = s.channels ∧ (recountOwn s).flow = s.flow
      ∧ (recountOwn s).watch = s.watch ∧ (recountOwn s).valves = s.valves ∧ (recountOwn s).peers = s.peers
      ∧ (recountOwn s).service = s.service ∧ (recountOwn s).configMemory = s.configMemory
      ∧ (recountOwn s).freeCount = s.freeCount ∧ (recountOwn s).pending = s.pending :=
  ⟨recountOwn_keeps steady_time s, recountOwn_keeps steady_startup s, recountOwn_keeps steady_config s,
   recountOwn_keeps steady_inputs s, recountOwn_keeps steady_channels s, recountOwn_keeps steady_flow s,
   recountOwn_keeps steady_watch s, recountOwn_keeps steady_valves s, recountOwn_keeps steady_peers s,
   recountOwn_keeps steady_service s, recountOwn_keeps steady_configMemory s,
   recountOwn_keeps steady_freeCount s, recountOwn_keeps steady_pending s⟩

/-- `recountZone` changes only line, zones, sequencer, doors, sirens, log. -/
@[simp] theorem recountZone_frame (z : Nat) (s : State) :
    (recountZone z s).time = s.time ∧ (recountZone z s).startup = s.startup
      ∧ (recountZone z s).config = s.config ∧ (recountZone z s).inputs = s.inputs
      ∧ (recountZone z s).channels = s.channels ∧ (recountZone z s).flow = s.flow
      ∧ (recountZone z s).watch = s.watch ∧ (recountZone z s).valves = s.valves
      ∧ (recountZone z s).peers = s.peers ∧ (recountZone z s).service = s.service
      ∧ (recountZone z s).configMemory = s.configMemory ∧ (recountZone z s).freeCount = s.freeCount
      ∧ (recountZone z s).pending = s.pending :=
  ⟨recountZone_keeps steady_time z s, recountZone_keeps steady_startup z s, recountZone_keeps steady_config z s,
   recountZone_keeps steady_inputs z s, recountZone_keeps steady_channels z s, recountZone_keeps steady_flow z s,
   recountZone_keeps steady_watch z s, recountZone_keeps steady_valves z s, recountZone_keeps steady_peers z s,
   recountZone_keeps steady_service z s, recountZone_keeps steady_configMemory z s,
   recountZone_keeps steady_freeCount z s, recountZone_keeps steady_pending z s⟩

/-- `reportHalted` changes only line, zones, sequencer, doors, sirens, log. -/
@[simp] theorem reportHalted_frame (s : State) :
    (reportHalted s).time = s.time ∧ (reportHalted s).startup = s.startup ∧ (reportHalted s).config = s.config
      ∧ (reportHalted s).inputs = s.inputs ∧ (reportHalted s).channels = s.channels
      ∧ (reportHalted s).flow = s.flow ∧ (reportHalted s).watch = s.watch ∧ (reportHalted s).valves = s.valves
      ∧ (reportHalted s).peers = s.peers ∧ (reportHalted s).service = s.service
      ∧ (reportHalted s).configMemory = s.configMemory ∧ (reportHalted s).freeCount = s.freeCount
      ∧ (reportHalted s).pending = s.pending :=
  ⟨reportHalted_keeps steady_time s, reportHalted_keeps steady_startup s, reportHalted_keeps steady_config s,
   reportHalted_keeps steady_inputs s, reportHalted_keeps steady_channels s, reportHalted_keeps steady_flow s,
   reportHalted_keeps steady_watch s, reportHalted_keeps steady_valves s, reportHalted_keeps steady_peers s,
   reportHalted_keeps steady_service s, reportHalted_keeps steady_configMemory s,
   reportHalted_keeps steady_freeCount s, reportHalted_keeps steady_pending s⟩

/-- `recountAllZones` changes only line, zones, sequencer, doors, sirens, log. -/
@[simp] theorem recountAllZones_frame (s : State) :
    (recountAllZones s).time = s.time ∧ (recountAllZones s).startup = s.startup
      ∧ (recountAllZones s).config = s.config ∧ (recountAllZones s).inputs = s.inputs
      ∧ (recountAllZones s).channels = s.channels ∧ (recountAllZones s).flow = s.flow
      ∧ (recountAllZones s).watch = s.watch ∧ (recountAllZones s).valves = s.valves
      ∧ (recountAllZones s).peers = s.peers ∧ (recountAllZones s).service = s.service
      ∧ (recountAllZones s).configMemory = s.configMemory ∧ (recountAllZones s).freeCount = s.freeCount
      ∧ (recountAllZones s).pending = s.pending :=
  ⟨recountAllZones_keeps steady_time s, recountAllZones_keeps steady_startup s,
   recountAllZones_keeps steady_config s, recountAllZones_keeps steady_inputs s,
   recountAllZones_keeps steady_channels s, recountAllZones_keeps steady_flow s,
   recountAllZones_keeps steady_watch s, recountAllZones_keeps steady_valves s,
   recountAllZones_keeps steady_peers s, recountAllZones_keeps steady_service s,
   recountAllZones_keeps steady_configMemory s, recountAllZones_keeps steady_freeCount s,
   recountAllZones_keeps steady_pending s⟩

/-- A sequencer action that keeps a steady reading keeps it with its report. -/
theorem reportingHalt_keeps {β : Type} {g : State → β} (h : Steady g) {f : State → State}
    (hf : ∀ s, g (f s) = g s) (s : State) : g (reportingHalt f s) = g s := by
  unfold reportingHalt
  split <;> simp [reportHalted_keeps h, hf]

/-- `reportConditions` changes only line, zones, sequencer, doors, sirens, log. -/
@[simp] theorem reportConditions_frame (c : Conditions) (s : State) :
    (reportConditions c s).time = s.time ∧ (reportConditions c s).startup = s.startup
      ∧ (reportConditions c s).config = s.config ∧ (reportConditions c s).inputs = s.inputs
      ∧ (reportConditions c s).channels = s.channels ∧ (reportConditions c s).flow = s.flow
      ∧ (reportConditions c s).watch = s.watch ∧ (reportConditions c s).valves = s.valves
      ∧ (reportConditions c s).peers = s.peers ∧ (reportConditions c s).service = s.service
      ∧ (reportConditions c s).configMemory = s.configMemory ∧ (reportConditions c s).freeCount = s.freeCount
      ∧ (reportConditions c s).pending = s.pending := by
  refine ⟨?_, ?_, ?_, ?_, ?_, ?_, ?_, ?_, ?_, ?_, ?_, ?_, ?_⟩ <;> (unfold reportConditions; dsimp only; (repeat' split) <;> simp)

/-- `ringDetection` changes only line, zones, sequencer, doors, sirens, log. -/
@[simp] theorem ringDetection_frame (s : State) :
    (ringDetection s).time = s.time ∧ (ringDetection s).startup = s.startup
      ∧ (ringDetection s).config = s.config ∧ (ringDetection s).inputs = s.inputs
      ∧ (ringDetection s).channels = s.channels ∧ (ringDetection s).flow = s.flow
      ∧ (ringDetection s).watch = s.watch ∧ (ringDetection s).valves = s.valves
      ∧ (ringDetection s).peers = s.peers ∧ (ringDetection s).service = s.service
      ∧ (ringDetection s).configMemory = s.configMemory ∧ (ringDetection s).freeCount = s.freeCount
      ∧ (ringDetection s).pending = s.pending := by
  refine ⟨?_, ?_, ?_, ?_, ?_, ?_, ?_, ?_, ?_, ?_, ?_, ?_, ?_⟩ <;> simp [ringDetection]

/-- `beginRestart` changes only line, zones, sequencer, doors, sirens, log. -/
@[simp] theorem beginRestart_frame (localRestart : Bool) (s : State) :
    (beginRestart localRestart s).time = s.time ∧ (beginRestart localRestart s).startup = s.startup
      ∧ (beginRestart localRestart s).config = s.config ∧ (beginRestart localRestart s).inputs = s.inputs
      ∧ (beginRestart localRestart s).channels = s.channels ∧ (beginRestart localRestart s).flow = s.flow
      ∧ (beginRestart localRestart s).watch = s.watch ∧ (beginRestart localRestart s).valves = s.valves
      ∧ (beginRestart localRestart s).peers = s.peers ∧ (beginRestart localRestart s).service = s.service
      ∧ (beginRestart localRestart s).configMemory = s.configMemory
      ∧ (beginRestart localRestart s).freeCount = s.freeCount
      ∧ (beginRestart localRestart s).pending = s.pending := by
  refine ⟨?_, ?_, ?_, ?_, ?_, ?_, ?_, ?_, ?_, ?_, ?_, ?_, ?_⟩ <;> (unfold beginRestart; dsimp only; (repeat' split) <;> simp)

/-- `clearStoredVotes` changes only peers. -/
@[simp] theorem clearStoredVotes_frame (z : Nat) (s : State) :
    (clearStoredVotes z s).time = s.time ∧ (clearStoredVotes z s).startup = s.startup
      ∧ (clearStoredVotes z s).config = s.config ∧ (clearStoredVotes z s).inputs = s.inputs
      ∧ (clearStoredVotes z s).channels = s.channels ∧ (clearStoredVotes z s).flow = s.flow
      ∧ (clearStoredVotes z s).watch = s.watch ∧ (clearStoredVotes z s).valves = s.valves
      ∧ (clearStoredVotes z s).line = s.line ∧ (clearStoredVotes z s).zones = s.zones
      ∧ (clearStoredVotes z s).sequencer = s.sequencer ∧ (clearStoredVotes z s).doors = s.doors
      ∧ (clearStoredVotes z s).sirens = s.sirens ∧ (clearStoredVotes z s).log = s.log
      ∧ (clearStoredVotes z s).service = s.service ∧ (clearStoredVotes z s).configMemory = s.configMemory
      ∧ (clearStoredVotes z s).freeCount = s.freeCount ∧ (clearStoredVotes z s).pending = s.pending := by
  refine ⟨?_, ?_, ?_, ?_, ?_, ?_, ?_, ?_, ?_, ?_, ?_, ?_, ?_, ?_, ?_, ?_, ?_, ?_⟩ <;> rfl

/-- `acceptRestart` changes only line, zones, sequencer, doors, sirens, log, peers. -/
@[simp] theorem acceptRestart_frame (source : Nat) (s : State) :
    (acceptRestart source s).time = s.time ∧ (acceptRestart source s).startup = s.startup
      ∧ (acceptRestart source s).config = s.config ∧ (acceptRestart source s).inputs = s.inputs
      ∧ (acceptRestart source s).channels = s.channels ∧ (acceptRestart source s).flow = s.flow
      ∧ (acceptRestart source s).watch = s.watch ∧ (acceptRestart source s).valves = s.valves
      ∧ (acceptRestart source s).service = s.service ∧ (acceptRestart source s).configMemory = s.configMemory
      ∧ (acceptRestart source s).freeCount = s.freeCount ∧ (acceptRestart source s).pending = s.pending := by
  refine ⟨?_, ?_, ?_, ?_, ?_, ?_, ?_, ?_, ?_, ?_, ?_, ?_⟩ <;> (unfold acceptRestart; dsimp only; (repeat' split) <;> simp)

/-- `refuseRestart` changes only line, log. -/
@[simp] theorem refuseRestart_frame (source : Nat) (s : State) :
    (refuseRestart source s).time = s.time ∧ (refuseRestart source s).startup = s.startup
      ∧ (refuseRestart source s).config = s.config ∧ (refuseRestart source s).inputs = s.inputs
      ∧ (refuseRestart source s).channels = s.channels ∧ (refuseRestart source s).flow = s.flow
      ∧ (refuseRestart source s).watch = s.watch ∧ (refuseRestart source s).valves = s.valves
      ∧ (refuseRestart source s).peers = s.peers ∧ (refuseRestart source s).zones = s.zones
      ∧ (refuseRestart source s).sequencer = s.sequencer ∧ (refuseRestart source s).doors = s.doors
      ∧ (refuseRestart source s).sirens = s.sirens ∧ (refuseRestart source s).service = s.service
      ∧ (refuseRestart source s).configMemory = s.configMemory
      ∧ (refuseRestart source s).freeCount = s.freeCount ∧ (refuseRestart source s).pending = s.pending := by
  refine ⟨?_, ?_, ?_, ?_, ?_, ?_, ?_, ?_, ?_, ?_, ?_, ?_, ?_, ?_, ?_, ?_, ?_⟩ <;> rfl

/-- `restartOther` changes only line, zones, sequencer, doors, sirens, log, peers. -/
@[simp] theorem restartOther_frame (z : Nat) (source : Nat) (s : State) :
    (restartOther z source s).time = s.time ∧ (restartOther z source s).startup = s.startup
      ∧ (restartOther z source s).config = s.config ∧ (restartOther z source s).inputs = s.inputs
      ∧ (restartOther z source s).channels = s.channels ∧ (restartOther z source s).flow = s.flow
      ∧ (restartOther z source s).watch = s.watch ∧ (restartOther z source s).valves = s.valves
      ∧ (restartOther z source s).service = s.service ∧ (restartOther z source s).configMemory = s.configMemory
      ∧ (restartOther z source s).freeCount = s.freeCount ∧ (restartOther z source s).pending = s.pending := by
  refine ⟨?_, ?_, ?_, ?_, ?_, ?_, ?_, ?_, ?_, ?_, ?_, ?_⟩ <;> simp [restartOther]

/-- `takeRestart` changes only line, zones, sequencer, doors, sirens, log, peers. -/
@[simp] theorem takeRestart_frame (z : Nat) (source : Nat) (s : State) :
    (takeRestart z source s).time = s.time ∧ (takeRestart z source s).startup = s.startup
      ∧ (takeRestart z source s).config = s.config ∧ (takeRestart z source s).inputs = s.inputs
      ∧ (takeRestart z source s).channels = s.channels ∧ (takeRestart z source s).flow = s.flow
      ∧ (takeRestart z source s).watch = s.watch ∧ (takeRestart z source s).valves = s.valves
      ∧ (takeRestart z source s).service = s.service ∧ (takeRestart z source s).configMemory = s.configMemory
      ∧ (takeRestart z source s).freeCount = s.freeCount ∧ (takeRestart z source s).pending = s.pending := by
  refine ⟨?_, ?_, ?_, ?_, ?_, ?_, ?_, ?_, ?_, ?_, ?_, ?_⟩ <;> (unfold takeRestart; (repeat' split) <;> simp)

/-- `requestRestart` changes only line, zones, sequencer, doors, sirens, log, peers. -/
@[simp] theorem requestRestart_frame (s : State) :
    (requestRestart s).time = s.time ∧ (requestRestart s).startup = s.startup
      ∧ (requestRestart s).config = s.config ∧ (requestRestart s).inputs = s.inputs
      ∧ (requestRestart s).channels = s.channels ∧ (requestRestart s).flow = s.flow
      ∧ (requestRestart s).watch = s.watch ∧ (requestRestart s).valves = s.valves
      ∧ (requestRestart s).service = s.service ∧ (requestRestart s).configMemory = s.configMemory
      ∧ (requestRestart s).freeCount = s.freeCount ∧ (requestRestart s).pending = s.pending := by
  refine ⟨?_, ?_, ?_, ?_, ?_, ?_, ?_, ?_, ?_, ?_, ?_, ?_⟩ <;> (unfold requestRestart; dsimp only; (repeat' split) <;> simp)

/-- `reportValves` changes only line, zones, sequencer, doors, sirens, log. -/
@[simp] theorem reportValves_frame (s : State) :
    (reportValves s).time = s.time ∧ (reportValves s).startup = s.startup ∧ (reportValves s).config = s.config
      ∧ (reportValves s).inputs = s.inputs ∧ (reportValves s).channels = s.channels
      ∧ (reportValves s).flow = s.flow ∧ (reportValves s).watch = s.watch ∧ (reportValves s).valves = s.valves
      ∧ (reportValves s).peers = s.peers ∧ (reportValves s).service = s.service
      ∧ (reportValves s).configMemory = s.configMemory ∧ (reportValves s).freeCount = s.freeCount
      ∧ (reportValves s).pending = s.pending := by
  refine ⟨?_, ?_, ?_, ?_, ?_, ?_, ?_, ?_, ?_, ?_, ?_, ?_, ?_⟩ <;> simp [reportValves]

/-- `setValve` changes only valves. -/
@[simp] theorem setValve_frame (v : Fin 2) (x : Valve) (s : State) :
    (setValve v x s).time = s.time ∧ (setValve v x s).startup = s.startup ∧ (setValve v x s).config = s.config
      ∧ (setValve v x s).inputs = s.inputs ∧ (setValve v x s).channels = s.channels
      ∧ (setValve v x s).flow = s.flow ∧ (setValve v x s).watch = s.watch ∧ (setValve v x s).line = s.line
      ∧ (setValve v x s).peers = s.peers ∧ (setValve v x s).zones = s.zones
      ∧ (setValve v x s).sequencer = s.sequencer ∧ (setValve v x s).doors = s.doors
      ∧ (setValve v x s).sirens = s.sirens ∧ (setValve v x s).log = s.log ∧ (setValve v x s).service = s.service
      ∧ (setValve v x s).configMemory = s.configMemory ∧ (setValve v x s).freeCount = s.freeCount
      ∧ (setValve v x s).pending = s.pending := by
  refine ⟨?_, ?_, ?_, ?_, ?_, ?_, ?_, ?_, ?_, ?_, ?_, ?_, ?_, ?_, ?_, ?_, ?_, ?_⟩ <;> rfl

/-- `beginHead` changes only line, zones, sequencer, doors, sirens, log, valves. -/
@[simp] theorem beginHead_frame (v : Fin 2) (s : State) :
    (beginHead v s).time = s.time ∧ (beginHead v s).startup = s.startup ∧ (beginHead v s).config = s.config
      ∧ (beginHead v s).inputs = s.inputs ∧ (beginHead v s).channels = s.channels
      ∧ (beginHead v s).flow = s.flow ∧ (beginHead v s).watch = s.watch ∧ (beginHead v s).peers = s.peers
      ∧ (beginHead v s).service = s.service ∧ (beginHead v s).configMemory = s.configMemory
      ∧ (beginHead v s).freeCount = s.freeCount ∧ (beginHead v s).pending = s.pending := by
  refine ⟨?_, ?_, ?_, ?_, ?_, ?_, ?_, ?_, ?_, ?_, ?_, ?_⟩ <;> (unfold beginHead; dsimp only; (repeat' split) <;> simp)

/-- `addWindow` changes only line, zones, sequencer, doors, sirens, log, valves. -/
@[simp] theorem addWindow_frame (v : Fin 2) (w : Window) (s : State) :
    (addWindow v w s).time = s.time ∧ (addWindow v w s).startup = s.startup
      ∧ (addWindow v w s).config = s.config ∧ (addWindow v w s).inputs = s.inputs
      ∧ (addWindow v w s).channels = s.channels ∧ (addWindow v w s).flow = s.flow
      ∧ (addWindow v w s).watch = s.watch ∧ (addWindow v w s).peers = s.peers
      ∧ (addWindow v w s).service = s.service ∧ (addWindow v w s).configMemory = s.configMemory
      ∧ (addWindow v w s).freeCount = s.freeCount ∧ (addWindow v w s).pending = s.pending := by
  refine ⟨?_, ?_, ?_, ?_, ?_, ?_, ?_, ?_, ?_, ?_, ?_, ?_⟩ <;> (unfold addWindow; dsimp only; (repeat' split) <;> simp)

/-- `closeHead` changes only line, zones, sequencer, doors, sirens, log, valves. -/
@[simp] theorem closeHead_frame (v : Fin 2) (s : State) :
    (closeHead v s).time = s.time ∧ (closeHead v s).startup = s.startup ∧ (closeHead v s).config = s.config
      ∧ (closeHead v s).inputs = s.inputs ∧ (closeHead v s).channels = s.channels
      ∧ (closeHead v s).flow = s.flow ∧ (closeHead v s).watch = s.watch ∧ (closeHead v s).peers = s.peers
      ∧ (closeHead v s).service = s.service ∧ (closeHead v s).configMemory = s.configMemory
      ∧ (closeHead v s).freeCount = s.freeCount ∧ (closeHead v s).pending = s.pending := by
  refine ⟨?_, ?_, ?_, ?_, ?_, ?_, ?_, ?_, ?_, ?_, ?_, ?_⟩ <;> (unfold closeHead; dsimp only; (repeat' split) <;> simp)

/-- `missNotice` changes only line, zones, sequencer, doors, sirens, log, valves. -/
@[simp] theorem missNotice_frame (v : Fin 2) (origin : Nat) (closeAt : Instant) (substituted : Bool) (s : State) :
    (missNotice v origin closeAt substituted s).time = s.time
      ∧ (missNotice v origin closeAt substituted s).startup = s.startup
      ∧ (missNotice v origin closeAt substituted s).config = s.config
      ∧ (missNotice v origin closeAt substituted s).inputs = s.inputs
      ∧ (missNotice v origin closeAt substituted s).channels = s.channels
      ∧ (missNotice v origin closeAt substituted s).flow = s.flow
      ∧ (missNotice v origin closeAt substituted s).watch = s.watch
      ∧ (missNotice v origin closeAt substituted s).peers = s.peers
      ∧ (missNotice v origin closeAt substituted s).service = s.service
      ∧ (missNotice v origin closeAt substituted s).configMemory = s.configMemory
      ∧ (missNotice v origin closeAt substituted s).freeCount = s.freeCount
      ∧ (missNotice v origin closeAt substituted s).pending = s.pending := by
  refine ⟨?_, ?_, ?_, ?_, ?_, ?_, ?_, ?_, ?_, ?_, ?_, ?_⟩ <;> simp [missNotice]

/-- `predict` changes only line, zones, sequencer, doors, sirens, log, valves. -/
@[simp] theorem predict_frame (station : Nat) (first : Instant) (last : Instant) (e : WatchEntry) (v : Fin 2) (s : State) :
    (predict station first last e v s).time = s.time ∧ (predict station first last e v s).startup = s.startup
      ∧ (predict station first last e v s).config = s.config
      ∧ (predict station first last e v s).inputs = s.inputs
      ∧ (predict station first last e v s).channels = s.channels
      ∧ (predict station first last e v s).flow = s.flow ∧ (predict station first last e v s).watch = s.watch
      ∧ (predict station first last e v s).peers = s.peers
      ∧ (predict station first last e v s).service = s.service
      ∧ (predict station first last e v s).configMemory = s.configMemory
      ∧ (predict station first last e v s).freeCount = s.freeCount
      ∧ (predict station first last e v s).pending = s.pending := by
  refine ⟨?_, ?_, ?_, ?_, ?_, ?_, ?_, ?_, ?_, ?_, ?_, ?_⟩ <;> (unfold predict; dsimp only; (repeat' split) <;> simp)

/-- `predictEntry` changes only line, zones, sequencer, doors, sirens, log, valves. -/
@[simp] theorem predictEntry_frame (station : Nat) (channel : Nat) (first : Instant) (last : Instant) (e : WatchEntry) (s : State) :
    (predictEntry station channel first last e s).time = s.time
      ∧ (predictEntry station channel first last e s).startup = s.startup
      ∧ (predictEntry station channel first last e s).config = s.config
      ∧ (predictEntry station channel first last e s).inputs = s.inputs
      ∧ (predictEntry station channel first last e s).channels = s.channels
      ∧ (predictEntry station channel first last e s).flow = s.flow
      ∧ (predictEntry station channel first last e s).watch = s.watch
      ∧ (predictEntry station channel first last e s).peers = s.peers
      ∧ (predictEntry station channel first last e s).service = s.service
      ∧ (predictEntry station channel first last e s).configMemory = s.configMemory
      ∧ (predictEntry station channel first last e s).freeCount = s.freeCount
      ∧ (predictEntry station channel first last e s).pending = s.pending := by
  refine ⟨?_, ?_, ?_, ?_, ?_, ?_, ?_, ?_, ?_, ?_, ?_, ?_⟩ <;> (unfold predictEntry; dsimp only; (repeat' split) <;> simp)

/-- `markOrigin` changes only line, zones, sequencer, doors, sirens, log, watch. -/
@[simp] theorem markOrigin_frame (station : Nat) (silent : Bool) (s : State) :
    (markOrigin station silent s).time = s.time ∧ (markOrigin station silent s).startup = s.startup
      ∧ (markOrigin station silent s).config = s.config ∧ (markOrigin station silent s).inputs = s.inputs
      ∧ (markOrigin station silent s).channels = s.channels ∧ (markOrigin station silent s).flow = s.flow
      ∧ (markOrigin station silent s).valves = s.valves ∧ (markOrigin station silent s).peers = s.peers
      ∧ (markOrigin station silent s).service = s.service
      ∧ (markOrigin station silent s).configMemory = s.configMemory
      ∧ (markOrigin station silent s).freeCount = s.freeCount
      ∧ (markOrigin station silent s).pending = s.pending := by
  refine ⟨?_, ?_, ?_, ?_, ?_, ?_, ?_, ?_, ?_, ?_, ?_, ?_⟩ <;> simp [markOrigin]

/-- `reportChannels` changes only line, zones, sequencer, doors, sirens, log. -/
@[simp] theorem reportChannels_frame (s : State) :
    (reportChannels s).time = s.time ∧ (reportChannels s).startup = s.startup
      ∧ (reportChannels s).config = s.config ∧ (reportChannels s).inputs = s.inputs
      ∧ (reportChannels s).channels = s.channels ∧ (reportChannels s).flow = s.flow
      ∧ (reportChannels s).watch = s.watch ∧ (reportChannels s).valves = s.valves
      ∧ (reportChannels s).peers = s.peers ∧ (reportChannels s).service = s.service
      ∧ (reportChannels s).configMemory = s.configMemory ∧ (reportChannels s).freeCount = s.freeCount
      ∧ (reportChannels s).pending = s.pending := by
  refine ⟨?_, ?_, ?_, ?_, ?_, ?_, ?_, ?_, ?_, ?_, ?_, ?_, ?_⟩ <;> simp [reportChannels]

/-- `postChannel` changes only log. -/
@[simp] theorem postChannel_frame (ch : Fin 4) (s : State) :
    (postChannel ch s).time = s.time ∧ (postChannel ch s).startup = s.startup
      ∧ (postChannel ch s).config = s.config ∧ (postChannel ch s).inputs = s.inputs
      ∧ (postChannel ch s).channels = s.channels ∧ (postChannel ch s).flow = s.flow
      ∧ (postChannel ch s).watch = s.watch ∧ (postChannel ch s).valves = s.valves
      ∧ (postChannel ch s).line = s.line ∧ (postChannel ch s).peers = s.peers
      ∧ (postChannel ch s).zones = s.zones ∧ (postChannel ch s).sequencer = s.sequencer
      ∧ (postChannel ch s).doors = s.doors ∧ (postChannel ch s).sirens = s.sirens
      ∧ (postChannel ch s).service = s.service ∧ (postChannel ch s).configMemory = s.configMemory
      ∧ (postChannel ch s).freeCount = s.freeCount ∧ (postChannel ch s).pending = s.pending := by
  refine ⟨?_, ?_, ?_, ?_, ?_, ?_, ?_, ?_, ?_, ?_, ?_, ?_, ?_, ?_, ?_, ?_, ?_, ?_⟩ <;> rfl

end Sys2Proof.Machine
end

