-- ==== Sys2Proof/Laws/ArrivalFrames.lean ====
section
/-! SUPPORT. What the arrivals' own operations leave as it stands. -/

namespace Sys2Proof.Machine

/-- A fold of a step that keeps a reading keeps it: the transit predictor's taking of a detection. -/
theorem takeDetection_keeps {β : Type} {g : State → β}
    (h : ∀ station channel first last e s, g (predictEntry station channel first last e s) = g s)
    (station channel : Nat) (first last : Instant) (s : State) :
    g (takeDetection station channel first last s) = g s :=
  foldl_keeps (fun t e => h station channel first last e t) _ s

/-- `takeDetection` changes only line, zones, sequencer, doors, sirens, log, valves. -/
@[simp] theorem takeDetection_frame (station : Nat) (channel : Nat) (first : Instant) (last : Instant) (s : State) :
    (takeDetection station channel first last s).time = s.time
      ∧ (takeDetection station channel first last s).startup = s.startup
      ∧ (takeDetection station channel first last s).config = s.config
      ∧ (takeDetection station channel first last s).inputs = s.inputs
      ∧ (takeDetection station channel first last s).channels = s.channels
      ∧ (takeDetection station channel first last s).flow = s.flow
      ∧ (takeDetection station channel first last s).watch = s.watch
      ∧ (takeDetection station channel first last s).peers = s.peers
      ∧ (takeDetection station channel first last s).service = s.service
      ∧ (takeDetection station channel first last s).configMemory = s.configMemory
      ∧ (takeDetection station channel first last s).freeCount = s.freeCount
      ∧ (takeDetection station channel first last s).pending = s.pending :=
  ⟨takeDetection_keeps (g := fun t => t.time) (by simp) station channel first last s,
   takeDetection_keeps (g := fun t => t.startup) (by simp) station channel first last s,
   takeDetection_keeps (g := fun t => t.config) (by simp) station channel first last s,
   takeDetection_keeps (g := fun t => t.inputs) (by simp) station channel first last s,
   takeDetection_keeps (g := fun t => t.channels) (by simp) station channel first last s,
   takeDetection_keeps (g := fun t => t.flow) (by simp) station channel first last s,
   takeDetection_keeps (g := fun t => t.watch) (by simp) station channel first last s,
   takeDetection_keeps (g := fun t => t.peers) (by simp) station channel first last s,
   takeDetection_keeps (g := fun t => t.service) (by simp) station channel first last s,
   takeDetection_keeps (g := fun t => t.configMemory) (by simp) station channel first last s,
   takeDetection_keeps (g := fun t => t.freeCount) (by simp) station channel first last s,
   takeDetection_keeps (g := fun t => t.pending) (by simp) station channel first last s⟩

/-- `detection` changes only line, zones, sequencer, doors, sirens, log, valves. -/
@[simp] theorem detection_frame (ch : Fin 4) (s : State) :
    (detection ch s).time = s.time ∧ (detection ch s).startup = s.startup ∧ (detection ch s).config = s.config
      ∧ (detection ch s).inputs = s.inputs ∧ (detection ch s).channels = s.channels
      ∧ (detection ch s).flow = s.flow ∧ (detection ch s).watch = s.watch ∧ (detection ch s).peers = s.peers
      ∧ (detection ch s).service = s.service ∧ (detection ch s).configMemory = s.configMemory
      ∧ (detection ch s).freeCount = s.freeCount ∧ (detection ch s).pending = s.pending := by
  refine ⟨?_, ?_, ?_, ?_, ?_, ?_, ?_, ?_, ?_, ?_, ?_, ?_⟩ <;> (unfold detection; dsimp only; (repeat' split) <;> simp)

/-- `takeSample` changes only line, zones, sequencer, doors, sirens, log, valves, channels. -/
@[simp] theorem takeSample_frame (ch : Fin 4) (x : Nat) (s : State) :
    (takeSample ch x s).time = s.time ∧ (takeSample ch x s).startup = s.startup
      ∧ (takeSample ch x s).config = s.config ∧ (takeSample ch x s).inputs = s.inputs
      ∧ (takeSample ch x s).flow = s.flow ∧ (takeSample ch x s).watch = s.watch
      ∧ (takeSample ch x s).peers = s.peers ∧ (takeSample ch x s).service = s.service
      ∧ (takeSample ch x s).configMemory = s.configMemory ∧ (takeSample ch x s).freeCount = s.freeCount
      ∧ (takeSample ch x s).pending = s.pending := by
  refine ⟨?_, ?_, ?_, ?_, ?_, ?_, ?_, ?_, ?_, ?_, ?_⟩ <;> (unfold takeSample; dsimp only; (repeat' split) <;> simp)

/-- `enterGlow` changes only line, zones, sequencer, doors, sirens, log, channels. -/
@[simp] theorem enterGlow_frame (ch : Fin 4) (s : State) :
    (enterGlow ch s).time = s.time ∧ (enterGlow ch s).startup = s.startup ∧ (enterGlow ch s).config = s.config
      ∧ (enterGlow ch s).inputs = s.inputs ∧ (enterGlow ch s).flow = s.flow ∧ (enterGlow ch s).watch = s.watch
      ∧ (enterGlow ch s).valves = s.valves ∧ (enterGlow ch s).peers = s.peers
      ∧ (enterGlow ch s).service = s.service ∧ (enterGlow ch s).configMemory = s.configMemory
      ∧ (enterGlow ch s).freeCount = s.freeCount ∧ (enterGlow ch s).pending = s.pending := by
  refine ⟨?_, ?_, ?_, ?_, ?_, ?_, ?_, ?_, ?_, ?_, ?_, ?_⟩ <;> simp [enterGlow]

/-- `reportFlow` changes only line, zones, sequencer, doors, sirens, log. -/
@[simp] theorem reportFlow_frame (s : State) :
    (reportFlow s).time = s.time ∧ (reportFlow s).startup = s.startup ∧ (reportFlow s).config = s.config
      ∧ (reportFlow s).inputs = s.inputs ∧ (reportFlow s).channels = s.channels ∧ (reportFlow s).flow = s.flow
      ∧ (reportFlow s).watch = s.watch ∧ (reportFlow s).valves = s.valves ∧ (reportFlow s).peers = s.peers
      ∧ (reportFlow s).service = s.service ∧ (reportFlow s).configMemory = s.configMemory
      ∧ (reportFlow s).freeCount = s.freeCount ∧ (reportFlow s).pending = s.pending := by
  refine ⟨?_, ?_, ?_, ?_, ?_, ?_, ?_, ?_, ?_, ?_, ?_, ?_, ?_⟩
  · unfold reportFlow; dsimp only; split <;> simp [reportingHalt_keeps steady_time (f := confirmByFlow) (by simp)]
  · unfold reportFlow; dsimp only; split <;> simp [reportingHalt_keeps steady_startup (f := confirmByFlow) (by simp)]
  · unfold reportFlow; dsimp only; split <;> simp [reportingHalt_keeps steady_config (f := confirmByFlow) (by simp)]
  · unfold reportFlow; dsimp only; split <;> simp [reportingHalt_keeps steady_inputs (f := confirmByFlow) (by simp)]
  · unfold reportFlow; dsimp only; split <;> simp [reportingHalt_keeps steady_channels (f := confirmByFlow) (by simp)]
  · unfold reportFlow; dsimp only; split <;> simp [reportingHalt_keeps steady_flow (f := confirmByFlow) (by simp)]
  · unfold reportFlow; dsimp only; split <;> simp [reportingHalt_keeps steady_watch (f := confirmByFlow) (by simp)]
  · unfold reportFlow; dsimp only; split <;> simp [reportingHalt_keeps steady_valves (f := confirmByFlow) (by simp)]
  · unfold reportFlow; dsimp only; split <;> simp [reportingHalt_keeps steady_peers (f := confirmByFlow) (by simp)]
  · unfold reportFlow; dsimp only; split <;> simp [reportingHalt_keeps steady_service (f := confirmByFlow) (by simp)]
  · unfold reportFlow; dsimp only; split <;> simp [reportingHalt_keeps steady_configMemory (f := confirmByFlow) (by simp)]
  · unfold reportFlow; dsimp only; split <;> simp [reportingHalt_keeps steady_freeCount (f := confirmByFlow) (by simp)]
  · unfold reportFlow; dsimp only; split <;> simp [reportingHalt_keeps steady_pending (f := confirmByFlow) (by simp)]

/-- `setFlow` changes only line, zones, sequencer, doors, sirens, log, flow. -/
@[simp] theorem setFlow_frame (f : Flow) (s : State) :
    (setFlow f s).time = s.time ∧ (setFlow f s).startup = s.startup ∧ (setFlow f s).config = s.config
      ∧ (setFlow f s).inputs = s.inputs ∧ (setFlow f s).channels = s.channels ∧ (setFlow f s).watch = s.watch
      ∧ (setFlow f s).valves = s.valves ∧ (setFlow f s).peers = s.peers ∧ (setFlow f s).service = s.service
      ∧ (setFlow f s).configMemory = s.configMemory ∧ (setFlow f s).freeCount = s.freeCount
      ∧ (setFlow f s).pending = s.pending := by
  refine ⟨?_, ?_, ?_, ?_, ?_, ?_, ?_, ?_, ?_, ?_, ?_, ?_⟩ <;> (unfold setFlow; dsimp only; (repeat' split) <;> simp)

/-- `expireMissHold` changes only line, zones, sequencer, doors, sirens, log, valves. -/
@[simp] theorem expireMissHold_frame (v : Fin 2) (s : State) :
    (expireMissHold v s).time = s.time ∧ (expireMissHold v s).startup = s.startup
      ∧ (expireMissHold v s).config = s.config ∧ (expireMissHold v s).inputs = s.inputs
      ∧ (expireMissHold v s).channels = s.channels ∧ (expireMissHold v s).flow = s.flow
      ∧ (expireMissHold v s).watch = s.watch ∧ (expireMissHold v s).peers = s.peers
      ∧ (expireMissHold v s).service = s.service ∧ (expireMissHold v s).configMemory = s.configMemory
      ∧ (expireMissHold v s).freeCount = s.freeCount ∧ (expireMissHold v s).pending = s.pending := by
  refine ⟨?_, ?_, ?_, ?_, ?_, ?_, ?_, ?_, ?_, ?_, ?_, ?_⟩ <;> simp [expireMissHold]

/-- `postValve` changes only log. -/
@[simp] theorem postValve_frame (v : Fin 2) (code : Nat) (s : State) :
    (postValve v code s).time = s.time ∧ (postValve v code s).startup = s.startup
      ∧ (postValve v code s).config = s.config ∧ (postValve v code s).inputs = s.inputs
      ∧ (postValve v code s).channels = s.channels ∧ (postValve v code s).flow = s.flow
      ∧ (postValve v code s).watch = s.watch ∧ (postValve v code s).valves = s.valves
      ∧ (postValve v code s).line = s.line ∧ (postValve v code s).peers = s.peers
      ∧ (postValve v code s).zones = s.zones ∧ (postValve v code s).sequencer = s.sequencer
      ∧ (postValve v code s).doors = s.doors ∧ (postValve v code s).sirens = s.sirens
      ∧ (postValve v code s).service = s.service ∧ (postValve v code s).configMemory = s.configMemory
      ∧ (postValve v code s).freeCount = s.freeCount ∧ (postValve v code s).pending = s.pending := by
  refine ⟨?_, ?_, ?_, ?_, ?_, ?_, ?_, ?_, ?_, ?_, ?_, ?_, ?_, ?_, ?_, ?_, ?_, ?_⟩ <;> rfl

/-- `expireFlowConfirm` changes only line, zones, sequencer, doors, sirens, log, valves. -/
@[simp] theorem expireFlowConfirm_frame (v : Fin 2) (s : State) :
    (expireFlowConfirm v s).time = s.time ∧ (expireFlowConfirm v s).startup = s.startup
      ∧ (expireFlowConfirm v s).config = s.config ∧ (expireFlowConfirm v s).inputs = s.inputs
      ∧ (expireFlowConfirm v s).channels = s.channels ∧ (expireFlowConfirm v s).flow = s.flow
      ∧ (expireFlowConfirm v s).watch = s.watch ∧ (expireFlowConfirm v s).peers = s.peers
      ∧ (expireFlowConfirm v s).service = s.service ∧ (expireFlowConfirm v s).configMemory = s.configMemory
      ∧ (expireFlowConfirm v s).freeCount = s.freeCount ∧ (expireFlowConfirm v s).pending = s.pending := by
  refine ⟨?_, ?_, ?_, ?_, ?_, ?_, ?_, ?_, ?_, ?_, ?_, ?_⟩ <;> (unfold expireFlowConfirm; dsimp only; (repeat' split) <;> simp)

/-- `expireLeak` changes only line, zones, sequencer, doors, sirens, log, valves. -/
@[simp] theorem expireLeak_frame (v : Fin 2) (s : State) :
    (expireLeak v s).time = s.time ∧ (expireLeak v s).startup = s.startup ∧ (expireLeak v s).config = s.config
      ∧ (expireLeak v s).inputs = s.inputs ∧ (expireLeak v s).channels = s.channels
      ∧ (expireLeak v s).flow = s.flow ∧ (expireLeak v s).watch = s.watch ∧ (expireLeak v s).peers = s.peers
      ∧ (expireLeak v s).service = s.service ∧ (expireLeak v s).configMemory = s.configMemory
      ∧ (expireLeak v s).freeCount = s.freeCount ∧ (expireLeak v s).pending = s.pending := by
  refine ⟨?_, ?_, ?_, ?_, ?_, ?_, ?_, ?_, ?_, ?_, ?_, ?_⟩ <;> (unfold expireLeak; dsimp only; (repeat' split) <;> simp)

/-- `flowSeen` changes only line, zones, sequencer, doors, sirens, log, valves. -/
@[simp] theorem flowSeen_frame (v : Fin 2) (s : State) :
    (flowSeen v s).time = s.time ∧ (flowSeen v s).startup = s.startup ∧ (flowSeen v s).config = s.config
      ∧ (flowSeen v s).inputs = s.inputs ∧ (flowSeen v s).channels = s.channels ∧ (flowSeen v s).flow = s.flow
      ∧ (flowSeen v s).watch = s.watch ∧ (flowSeen v s).peers = s.peers ∧ (flowSeen v s).service = s.service
      ∧ (flowSeen v s).configMemory = s.configMemory ∧ (flowSeen v s).freeCount = s.freeCount
      ∧ (flowSeen v s).pending = s.pending := by
  refine ⟨?_, ?_, ?_, ?_, ?_, ?_, ?_, ?_, ?_, ?_, ?_, ?_⟩ <;> (unfold flowSeen; dsimp only; (repeat' split) <;> simp)

/-- `flowGone` changes only line, zones, sequencer, doors, sirens, log, valves. -/
@[simp] theorem flowGone_frame (v : Fin 2) (s : State) :
    (flowGone v s).time = s.time ∧ (flowGone v s).startup = s.startup ∧ (flowGone v s).config = s.config
      ∧ (flowGone v s).inputs = s.inputs ∧ (flowGone v s).channels = s.channels ∧ (flowGone v s).flow = s.flow
      ∧ (flowGone v s).watch = s.watch ∧ (flowGone v s).peers = s.peers ∧ (flowGone v s).service = s.service
      ∧ (flowGone v s).configMemory = s.configMemory ∧ (flowGone v s).freeCount = s.freeCount
      ∧ (flowGone v s).pending = s.pending := by
  refine ⟨?_, ?_, ?_, ?_, ?_, ?_, ?_, ?_, ?_, ?_, ?_, ?_⟩ <;> (unfold flowGone; dsimp only; (repeat' split) <;> simp)

/-- `flowSwitch` changes only line, zones, sequencer, doors, sirens, log, valves. -/
@[simp] theorem flowSwitch_frame (v : Fin 2) (active : Bool) (s : State) :
    (flowSwitch v active s).time = s.time ∧ (flowSwitch v active s).startup = s.startup
      ∧ (flowSwitch v active s).config = s.config ∧ (flowSwitch v active s).inputs = s.inputs
      ∧ (flowSwitch v active s).channels = s.channels ∧ (flowSwitch v active s).flow = s.flow
      ∧ (flowSwitch v active s).watch = s.watch ∧ (flowSwitch v active s).peers = s.peers
      ∧ (flowSwitch v active s).service = s.service ∧ (flowSwitch v active s).configMemory = s.configMemory
      ∧ (flowSwitch v active s).freeCount = s.freeCount ∧ (flowSwitch v active s).pending = s.pending := by
  refine ⟨?_, ?_, ?_, ?_, ?_, ?_, ?_, ?_, ?_, ?_, ?_, ?_⟩ <;> (unfold flowSwitch; (repeat' split) <;> simp)

/-- `takeWater` changes only line, zones, sequencer, doors, sirens, log, valves. -/
@[simp] theorem takeWater_frame (p : Nat) (s : State) :
    (takeWater p s).time = s.time ∧ (takeWater p s).startup = s.startup ∧ (takeWater p s).config = s.config
      ∧ (takeWater p s).inputs = s.inputs ∧ (takeWater p s).channels = s.channels
      ∧ (takeWater p s).flow = s.flow ∧ (takeWater p s).watch = s.watch ∧ (takeWater p s).peers = s.peers
      ∧ (takeWater p s).service = s.service ∧ (takeWater p s).configMemory = s.configMemory
      ∧ (takeWater p s).freeCount = s.freeCount ∧ (takeWater p s).pending = s.pending := by
  refine ⟨?_, ?_, ?_, ?_, ?_, ?_, ?_, ?_, ?_, ?_, ?_, ?_⟩ <;> (unfold takeWater; dsimp only; (repeat' split) <;> simp)

/-- `reportDegraded` changes only line, zones, sequencer, doors, sirens, log. -/
@[simp] theorem reportDegraded_frame (b : Bool) (s : State) :
    (reportDegraded b s).time = s.time ∧ (reportDegraded b s).startup = s.startup
      ∧ (reportDegraded b s).config = s.config ∧ (reportDegraded b s).inputs = s.inputs
      ∧ (reportDegraded b s).channels = s.channels ∧ (reportDegraded b s).flow = s.flow
      ∧ (reportDegraded b s).watch = s.watch ∧ (reportDegraded b s).valves = s.valves
      ∧ (reportDegraded b s).peers = s.peers ∧ (reportDegraded b s).service = s.service
      ∧ (reportDegraded b s).configMemory = s.configMemory ∧ (reportDegraded b s).freeCount = s.freeCount
      ∧ (reportDegraded b s).pending = s.pending := by
  refine ⟨?_, ?_, ?_, ?_, ?_, ?_, ?_, ?_, ?_, ?_, ?_, ?_, ?_⟩ <;> (unfold reportDegraded; dsimp only; (repeat' split) <;> simp)

/-- `lineError` changes only line, zones, sequencer, doors, sirens, log. -/
@[simp] theorem lineError_frame (s : State) :
    (lineError s).time = s.time ∧ (lineError s).startup = s.startup ∧ (lineError s).config = s.config
      ∧ (lineError s).inputs = s.inputs ∧ (lineError s).channels = s.channels ∧ (lineError s).flow = s.flow
      ∧ (lineError s).watch = s.watch ∧ (lineError s).valves = s.valves ∧ (lineError s).peers = s.peers
      ∧ (lineError s).service = s.service ∧ (lineError s).configMemory = s.configMemory
      ∧ (lineError s).freeCount = s.freeCount ∧ (lineError s).pending = s.pending := by
  refine ⟨?_, ?_, ?_, ?_, ?_, ?_, ?_, ?_, ?_, ?_, ?_, ?_, ?_⟩ <;> (unfold lineError; dsimp only; (repeat' split) <;> simp)

/-- `expireDegraded` changes only line, zones, sequencer, doors, sirens, log. -/
@[simp] theorem expireDegraded_frame (s : State) :
    (expireDegraded s).time = s.time ∧ (expireDegraded s).startup = s.startup
      ∧ (expireDegraded s).config = s.config ∧ (expireDegraded s).inputs = s.inputs
      ∧ (expireDegraded s).channels = s.channels ∧ (expireDegraded s).flow = s.flow
      ∧ (expireDegraded s).watch = s.watch ∧ (expireDegraded s).valves = s.valves
      ∧ (expireDegraded s).peers = s.peers ∧ (expireDegraded s).service = s.service
      ∧ (expireDegraded s).configMemory = s.configMemory ∧ (expireDegraded s).freeCount = s.freeCount
      ∧ (expireDegraded s).pending = s.pending := by
  refine ⟨?_, ?_, ?_, ?_, ?_, ?_, ?_, ?_, ?_, ?_, ?_, ?_, ?_⟩ <;> (unfold expireDegraded; dsimp only; (repeat' split) <;> simp)

/-- `reportHeard` changes only startup. -/
@[simp] theorem reportHeard_frame (s : State) :
    (reportHeard s).time = s.time ∧ (reportHeard s).config = s.config ∧ (reportHeard s).inputs = s.inputs
      ∧ (reportHeard s).channels = s.channels ∧ (reportHeard s).flow = s.flow ∧ (reportHeard s).watch = s.watch
      ∧ (reportHeard s).valves = s.valves ∧ (reportHeard s).line = s.line ∧ (reportHeard s).peers = s.peers
      ∧ (reportHeard s).zones = s.zones ∧ (reportHeard s).sequencer = s.sequencer
      ∧ (reportHeard s).doors = s.doors ∧ (reportHeard s).sirens = s.sirens ∧ (reportHeard s).log = s.log
      ∧ (reportHeard s).service = s.service ∧ (reportHeard s).configMemory = s.configMemory
      ∧ (reportHeard s).freeCount = s.freeCount ∧ (reportHeard s).pending = s.pending := by
  refine ⟨?_, ?_, ?_, ?_, ?_, ?_, ?_, ?_, ?_, ?_, ?_, ?_, ?_, ?_, ?_, ?_, ?_, ?_⟩ <;> (unfold reportHeard; dsimp only; (repeat' split) <;> simp)

/-- `passEcho` changes only startup. -/
@[simp] theorem passEcho_frame (s : State) :
    (passEcho s).time = s.time ∧ (passEcho s).config = s.config ∧ (passEcho s).inputs = s.inputs
      ∧ (passEcho s).channels = s.channels ∧ (passEcho s).flow = s.flow ∧ (passEcho s).watch = s.watch
      ∧ (passEcho s).valves = s.valves ∧ (passEcho s).line = s.line ∧ (passEcho s).peers = s.peers
      ∧ (passEcho s).zones = s.zones ∧ (passEcho s).sequencer = s.sequencer ∧ (passEcho s).doors = s.doors
      ∧ (passEcho s).sirens = s.sirens ∧ (passEcho s).log = s.log ∧ (passEcho s).service = s.service
      ∧ (passEcho s).configMemory = s.configMemory ∧ (passEcho s).freeCount = s.freeCount
      ∧ (passEcho s).pending = s.pending := by
  refine ⟨?_, ?_, ?_, ?_, ?_, ?_, ?_, ?_, ?_, ?_, ?_, ?_, ?_, ?_, ?_, ?_, ?_, ?_⟩ <;> rfl

/-- `passOn` changes only line, startup. -/
@[simp] theorem passOn_frame (s : State) :
    (passOn s).time = s.time ∧ (passOn s).config = s.config ∧ (passOn s).inputs = s.inputs
      ∧ (passOn s).channels = s.channels ∧ (passOn s).flow = s.flow ∧ (passOn s).watch = s.watch
      ∧ (passOn s).valves = s.valves ∧ (passOn s).peers = s.peers ∧ (passOn s).zones = s.zones
      ∧ (passOn s).sequencer = s.sequencer ∧ (passOn s).doors = s.doors ∧ (passOn s).sirens = s.sirens
      ∧ (passOn s).log = s.log ∧ (passOn s).service = s.service ∧ (passOn s).configMemory = s.configMemory
      ∧ (passOn s).freeCount = s.freeCount ∧ (passOn s).pending = s.pending := by
  refine ⟨?_, ?_, ?_, ?_, ?_, ?_, ?_, ?_, ?_, ?_, ?_, ?_, ?_, ?_, ?_, ?_, ?_⟩ <;> simp [passOn]

/-- An empty stage gives the queue nothing back. -/
@[simp] theorem takeBack_none (s : State) (q : List OutFrame) : s.takeBack none q = q := rfl

/-- R85, R181: in STARTUP_FAILED no frame returns to the queue. -/
theorem takeBack_failed {s : State} (h : s.startup.state = .failed) (f : Option OutFrame) (q : List OutFrame) :
    s.takeBack f q = q := by
  cases f <;> simp [State.takeBack, h]

/-- R78: in every other start-up state the frame of a stage returns to the queue. -/
theorem takeBack_some {s : State} (h : s.startup.state ≠ .failed) (f : OutFrame) (q : List OutFrame) :
    s.takeBack (some f) q = returnFrame f q := by
  simp [State.takeBack, h]

/-- R66: while the node drives no frame, it reads back no byte. -/
theorem readOwn_of_not_own {l : Line} (h : l.activity ≠ .own) (now : Instant) (rate : Nat) :
    readOwn now rate l = l := by
  unfold readOwn; split <;> simp_all

/-- R66: with the shift stage empty the node reads back no byte. -/
theorem readOwn_of_empty {l : Line} (h : l.shift = none) (now : Instant) (rate : Nat) : readOwn now rate l = l := by
  unfold readOwn; split <;> simp_all

/-- R66, R77: while the node drives a frame, the bytes read back stand in the receiver's partial frame. -/
theorem readOwn_own {l : Line} {d : DrivenFrame} (h : l.activity = .own) (hd : l.shift = some d) (now : Instant)
    (rate : Nat) :
    readOwn now rate l = { l with receiver := l.receiver.readFirst (d.readBack now rate) d.bytes } := by
  simp [readOwn, h, hd]

/-- What is on the line stands when no own byte is cut. -/
theorem stopDriving_of_not_own {l : Line} (h : l.activity ≠ .own) (now : Instant) (rate : Nat) :
    stopDriving now rate l = l.activity := by
  unfold stopDriving; split <;> simp_all

/-- What is on the line stands when the shift stage is empty. -/
theorem stopDriving_of_empty {l : Line} (h : l.shift = none) (now : Instant) (rate : Nat) :
    stopDriving now rate l = l.activity := by
  unfold stopDriving; split <;> simp_all

/-- R69, R79: the byte that the node drives is the last. -/
theorem stopDriving_own {l : Line} {d : DrivenFrame} (h : l.activity = .own) (hd : l.shift = some d) (now : Instant)
    (rate : Nat) : stopDriving now rate l = .ownLast (d.present now rate) := by
  simp [stopDriving, h, hd]

/-- R69, R79: with nothing in the shift stage only the holding stage's frame is taken back. -/
theorem returnStages_of_empty {s : State} (h : s.line.shift = none) :
    returnStages s = { s.line with queue := s.takeBack s.line.holding s.line.queue, holding := none } := by
  simp [returnStages, readOwn_of_empty h, stopDriving_of_empty h, h]

/-- R85, R181: in STARTUP_FAILED the frames of both stages are dropped, and the queue stands. -/
theorem returnStages_failed {s : State} (h : s.startup.state = .failed) :
    returnStages s =
      { readOwn s.time s.rate s.line with
        queue := s.line.queue, holding := none, shift := none, activity := stopDriving s.time s.rate s.line } := by
  simp [returnStages, takeBack_failed h]

/-- `enterListenOnly` changes only line, sirens, log. -/
@[simp] theorem enterListenOnly_frame (kind : FrameKind) (s : State) :
    (enterListenOnly kind s).time = s.time ∧ (enterListenOnly kind s).startup = s.startup
      ∧ (enterListenOnly kind s).config = s.config ∧ (enterListenOnly kind s).inputs = s.inputs
      ∧ (enterListenOnly kind s).channels = s.channels ∧ (enterListenOnly kind s).flow = s.flow
      ∧ (enterListenOnly kind s).watch = s.watch ∧ (enterListenOnly kind s).valves = s.valves
      ∧ (enterListenOnly kind s).peers = s.peers ∧ (enterListenOnly kind s).zones = s.zones
      ∧ (enterListenOnly kind s).sequencer = s.sequencer ∧ (enterListenOnly kind s).doors = s.doors
      ∧ (enterListenOnly kind s).service = s.service ∧ (enterListenOnly kind s).configMemory = s.configMemory
      ∧ (enterListenOnly kind s).freeCount = s.freeCount ∧ (enterListenOnly kind s).pending = s.pending := by
  refine ⟨?_, ?_, ?_, ?_, ?_, ?_, ?_, ?_, ?_, ?_, ?_, ?_, ?_, ?_, ?_, ?_⟩ <;> (unfold enterListenOnly; dsimp only; (repeat' split) <;> simp)

/-- `takeDuplicate` changes only line, sirens, log, startup. -/
@[simp] theorem takeDuplicate_frame (kind : FrameKind) (s : State) :
    (takeDuplicate kind s).time = s.time ∧ (takeDuplicate kind s).config = s.config
      ∧ (takeDuplicate kind s).inputs = s.inputs ∧ (takeDuplicate kind s).channels = s.channels
      ∧ (takeDuplicate kind s).flow = s.flow ∧ (takeDuplicate kind s).watch = s.watch
      ∧ (takeDuplicate kind s).valves = s.valves ∧ (takeDuplicate kind s).peers = s.peers
      ∧ (takeDuplicate kind s).zones = s.zones ∧ (takeDuplicate kind s).sequencer = s.sequencer
      ∧ (takeDuplicate kind s).doors = s.doors ∧ (takeDuplicate kind s).service = s.service
      ∧ (takeDuplicate kind s).configMemory = s.configMemory ∧ (takeDuplicate kind s).freeCount = s.freeCount
      ∧ (takeDuplicate kind s).pending = s.pending := by
  refine ⟨?_, ?_, ?_, ?_, ?_, ?_, ?_, ?_, ?_, ?_, ?_, ?_, ?_, ?_, ?_⟩ <;> simp [takeDuplicate]

/-- `takeBadFrame` changes only line, zones, sequencer, doors, sirens, log. -/
@[simp] theorem takeBadFrame_frame (s : State) :
    (takeBadFrame s).time = s.time ∧ (takeBadFrame s).startup = s.startup ∧ (takeBadFrame s).config = s.config
      ∧ (takeBadFrame s).inputs = s.inputs ∧ (takeBadFrame s).channels = s.channels
      ∧ (takeBadFrame s).flow = s.flow ∧ (takeBadFrame s).watch = s.watch ∧ (takeBadFrame s).valves = s.valves
      ∧ (takeBadFrame s).peers = s.peers ∧ (takeBadFrame s).service = s.service
      ∧ (takeBadFrame s).configMemory = s.configMemory ∧ (takeBadFrame s).freeCount = s.freeCount
      ∧ (takeBadFrame s).pending = s.pending := by
  refine ⟨?_, ?_, ?_, ?_, ?_, ?_, ?_, ?_, ?_, ?_, ?_, ?_, ?_⟩ <;> simp [takeBadFrame]

/-- `takeByteError` changes only line, zones, sequencer, doors, sirens, log. -/
@[simp] theorem takeByteError_frame (s : State) :
    (takeByteError s).time = s.time ∧ (takeByteError s).startup = s.startup
      ∧ (takeByteError s).config = s.config ∧ (takeByteError s).inputs = s.inputs
      ∧ (takeByteError s).channels = s.channels ∧ (takeByteError s).flow = s.flow
      ∧ (takeByteError s).watch = s.watch ∧ (takeByteError s).valves = s.valves
      ∧ (takeByteError s).peers = s.peers ∧ (takeByteError s).service = s.service
      ∧ (takeByteError s).configMemory = s.configMemory ∧ (takeByteError s).freeCount = s.freeCount
      ∧ (takeByteError s).pending = s.pending := by
  refine ⟨?_, ?_, ?_, ?_, ?_, ?_, ?_, ?_, ?_, ?_, ?_, ?_, ?_⟩ <;> (unfold takeByteError; dsimp only; (repeat' split) <;> simp)

/-- `breakOff` changes only line, zones, sequencer, doors, sirens, log. -/
@[simp] theorem breakOff_frame (s : State) :
    (breakOff s).time = s.time ∧ (breakOff s).startup = s.startup ∧ (breakOff s).config = s.config
      ∧ (breakOff s).inputs = s.inputs ∧ (breakOff s).channels = s.channels ∧ (breakOff s).flow = s.flow
      ∧ (breakOff s).watch = s.watch ∧ (breakOff s).valves = s.valves ∧ (breakOff s).peers = s.peers
      ∧ (breakOff s).service = s.service ∧ (breakOff s).configMemory = s.configMemory
      ∧ (breakOff s).freeCount = s.freeCount ∧ (breakOff s).pending = s.pending := by
  refine ⟨?_, ?_, ?_, ?_, ?_, ?_, ?_, ?_, ?_, ?_, ?_, ?_, ?_⟩ <;> simp [breakOff]

/-- `breakOffAt` changes only line, zones, sequencer, doors, sirens, log. -/
@[simp] theorem breakOffAt_frame (quiet : Nat) (s : State) :
    (breakOffAt quiet s).time = s.time ∧ (breakOffAt quiet s).startup = s.startup
      ∧ (breakOffAt quiet s).config = s.config ∧ (breakOffAt quiet s).inputs = s.inputs
      ∧ (breakOffAt quiet s).channels = s.channels ∧ (breakOffAt quiet s).flow = s.flow
      ∧ (breakOffAt quiet s).watch = s.watch ∧ (breakOffAt quiet s).valves = s.valves
      ∧ (breakOffAt quiet s).peers = s.peers ∧ (breakOffAt quiet s).service = s.service
      ∧ (breakOffAt quiet s).configMemory = s.configMemory ∧ (breakOffAt quiet s).freeCount = s.freeCount
      ∧ (breakOffAt quiet s).pending = s.pending := by
  refine ⟨?_, ?_, ?_, ?_, ?_, ?_, ?_, ?_, ?_, ?_, ?_, ?_, ?_⟩ <;> (unfold breakOffAt; (repeat' split) <;> simp)

/-- `leaveStuck` changes only line, sirens, log. -/
@[simp] theorem leaveStuck_frame (s : State) :
    (leaveStuck s).time = s.time ∧ (leaveStuck s).startup = s.startup ∧ (leaveStuck s).config = s.config
      ∧ (leaveStuck s).inputs = s.inputs ∧ (leaveStuck s).channels = s.channels ∧ (leaveStuck s).flow = s.flow
      ∧ (leaveStuck s).watch = s.watch ∧ (leaveStuck s).valves = s.valves ∧ (leaveStuck s).peers = s.peers
      ∧ (leaveStuck s).zones = s.zones ∧ (leaveStuck s).sequencer = s.sequencer ∧ (leaveStuck s).doors = s.doors
      ∧ (leaveStuck s).service = s.service ∧ (leaveStuck s).configMemory = s.configMemory
      ∧ (leaveStuck s).freeCount = s.freeCount ∧ (leaveStuck s).pending = s.pending := by
  refine ⟨?_, ?_, ?_, ?_, ?_, ?_, ?_, ?_, ?_, ?_, ?_, ?_, ?_, ?_, ?_, ?_⟩ <;> (unfold leaveStuck; dsimp only; (repeat' split) <;> simp)

/-- `reachQuiet` changes only line, zones, sequencer, doors, sirens, log. -/
@[simp] theorem reachQuiet_frame (quiet : Nat) (s : State) :
    (reachQuiet quiet s).time = s.time ∧ (reachQuiet quiet s).startup = s.startup
      ∧ (reachQuiet quiet s).config = s.config ∧ (reachQuiet quiet s).inputs = s.inputs
      ∧ (reachQuiet quiet s).channels = s.channels ∧ (reachQuiet quiet s).flow = s.flow
      ∧ (reachQuiet quiet s).watch = s.watch ∧ (reachQuiet quiet s).valves = s.valves
      ∧ (reachQuiet quiet s).peers = s.peers ∧ (reachQuiet quiet s).service = s.service
      ∧ (reachQuiet quiet s).configMemory = s.configMemory ∧ (reachQuiet quiet s).freeCount = s.freeCount
      ∧ (reachQuiet quiet s).pending = s.pending := by
  refine ⟨?_, ?_, ?_, ?_, ?_, ?_, ?_, ?_, ?_, ?_, ?_, ?_, ?_⟩ <;> (unfold reachQuiet; dsimp only; (repeat' split) <;> simp)

/-- `State.settled` changes only line, zones, sequencer, doors, sirens, log. -/
@[simp] theorem State.settled_frame (s : State) :
    s.settled.time = s.time ∧ s.settled.startup = s.startup
      ∧ s.settled.config = s.config ∧ s.settled.inputs = s.inputs
      ∧ s.settled.channels = s.channels ∧ s.settled.flow = s.flow
      ∧ s.settled.watch = s.watch ∧ s.settled.valves = s.valves
      ∧ s.settled.peers = s.peers ∧ s.settled.service = s.service
      ∧ s.settled.configMemory = s.configMemory ∧ s.settled.freeCount = s.freeCount
      ∧ s.settled.pending = s.pending := by
  refine ⟨?_, ?_, ?_, ?_, ?_, ?_, ?_, ?_, ?_, ?_, ?_, ?_, ?_⟩ <;> (unfold State.settled; (repeat' split) <;> simp)

/-- `expireGap` changes only line, zones, sequencer, doors, sirens, log. -/
@[simp] theorem expireGap_frame (s : State) :
    (expireGap s).time = s.time ∧ (expireGap s).startup = s.startup ∧ (expireGap s).config = s.config
      ∧ (expireGap s).inputs = s.inputs ∧ (expireGap s).channels = s.channels ∧ (expireGap s).flow = s.flow
      ∧ (expireGap s).watch = s.watch ∧ (expireGap s).valves = s.valves ∧ (expireGap s).peers = s.peers
      ∧ (expireGap s).service = s.service ∧ (expireGap s).configMemory = s.configMemory
      ∧ (expireGap s).freeCount = s.freeCount ∧ (expireGap s).pending = s.pending := by
  refine ⟨?_, ?_, ?_, ?_, ?_, ?_, ?_, ?_, ?_, ?_, ?_, ?_, ?_⟩ <;> (unfold expireGap; dsimp only; (repeat' split) <;> simp)

/-- `driveHeld` changes only line. -/
@[simp] theorem driveHeld_frame (s : State) :
    (driveHeld s).time = s.time ∧ (driveHeld s).startup = s.startup ∧ (driveHeld s).config = s.config
      ∧ (driveHeld s).inputs = s.inputs ∧ (driveHeld s).channels = s.channels ∧ (driveHeld s).flow = s.flow
      ∧ (driveHeld s).watch = s.watch ∧ (driveHeld s).valves = s.valves ∧ (driveHeld s).peers = s.peers
      ∧ (driveHeld s).zones = s.zones ∧ (driveHeld s).sequencer = s.sequencer ∧ (driveHeld s).doors = s.doors
      ∧ (driveHeld s).sirens = s.sirens ∧ (driveHeld s).log = s.log ∧ (driveHeld s).service = s.service
      ∧ (driveHeld s).configMemory = s.configMemory ∧ (driveHeld s).freeCount = s.freeCount
      ∧ (driveHeld s).pending = s.pending := by
  refine ⟨?_, ?_, ?_, ?_, ?_, ?_, ?_, ?_, ?_, ?_, ?_, ?_, ?_, ?_, ?_, ?_, ?_, ?_⟩ <;> (unfold driveHeld; dsimp only; (repeat' split) <;> simp)

/-- `takeStartBit` changes only line, zones, sequencer, doors, sirens, log. -/
@[simp] theorem takeStartBit_frame (b : StartBit) (s : State) :
    (takeStartBit b s).time = s.time ∧ (takeStartBit b s).startup = s.startup
      ∧ (takeStartBit b s).config = s.config ∧ (takeStartBit b s).inputs = s.inputs
      ∧ (takeStartBit b s).channels = s.channels ∧ (takeStartBit b s).flow = s.flow
      ∧ (takeStartBit b s).watch = s.watch ∧ (takeStartBit b s).valves = s.valves
      ∧ (takeStartBit b s).peers = s.peers ∧ (takeStartBit b s).service = s.service
      ∧ (takeStartBit b s).configMemory = s.configMemory ∧ (takeStartBit b s).freeCount = s.freeCount
      ∧ (takeStartBit b s).pending = s.pending := by
  refine ⟨?_, ?_, ?_, ?_, ?_, ?_, ?_, ?_, ?_, ?_, ?_, ?_, ?_⟩ <;> simp [takeStartBit]

/-- `collide` changes only line, log. -/
@[simp] theorem collide_frame (r : Misread) (s : State) :
    (collide r s).time = s.time ∧ (collide r s).startup = s.startup ∧ (collide r s).config = s.config
      ∧ (collide r s).inputs = s.inputs ∧ (collide r s).channels = s.channels ∧ (collide r s).flow = s.flow
      ∧ (collide r s).watch = s.watch ∧ (collide r s).valves = s.valves ∧ (collide r s).peers = s.peers
      ∧ (collide r s).zones = s.zones ∧ (collide r s).sequencer = s.sequencer ∧ (collide r s).doors = s.doors
      ∧ (collide r s).sirens = s.sirens ∧ (collide r s).service = s.service
      ∧ (collide r s).configMemory = s.configMemory ∧ (collide r s).freeCount = s.freeCount
      ∧ (collide r s).pending = s.pending := by
  refine ⟨?_, ?_, ?_, ?_, ?_, ?_, ?_, ?_, ?_, ?_, ?_, ?_, ?_, ?_, ?_, ?_, ?_⟩ <;> (unfold collide; dsimp only; (repeat' split) <;> simp)

/-- `takeLateEcho` changes only line, startup. -/
@[simp] theorem takeLateEcho_frame (s : State) :
    (takeLateEcho s).time = s.time ∧ (takeLateEcho s).config = s.config ∧ (takeLateEcho s).inputs = s.inputs
      ∧ (takeLateEcho s).channels = s.channels ∧ (takeLateEcho s).flow = s.flow ∧ (takeLateEcho s).watch = s.watch
      ∧ (takeLateEcho s).valves = s.valves ∧ (takeLateEcho s).peers = s.peers ∧ (takeLateEcho s).zones = s.zones
      ∧ (takeLateEcho s).sequencer = s.sequencer ∧ (takeLateEcho s).doors = s.doors ∧ (takeLateEcho s).sirens = s.sirens
      ∧ (takeLateEcho s).log = s.log ∧ (takeLateEcho s).service = s.service ∧ (takeLateEcho s).configMemory = s.configMemory
      ∧ (takeLateEcho s).freeCount = s.freeCount ∧ (takeLateEcho s).pending = s.pending := by
  refine ⟨?_, ?_, ?_, ?_, ?_, ?_, ?_, ?_, ?_, ?_, ?_, ?_, ?_, ?_, ?_, ?_, ?_⟩ <;> simp [takeLateEcho]

/-- `takeEcho` changes only line, startup. -/
@[simp] theorem takeEcho_frame (s : State) :
    (takeEcho s).time = s.time ∧ (takeEcho s).config = s.config ∧ (takeEcho s).inputs = s.inputs
      ∧ (takeEcho s).channels = s.channels ∧ (takeEcho s).flow = s.flow ∧ (takeEcho s).watch = s.watch
      ∧ (takeEcho s).valves = s.valves ∧ (takeEcho s).peers = s.peers ∧ (takeEcho s).zones = s.zones
      ∧ (takeEcho s).sequencer = s.sequencer ∧ (takeEcho s).doors = s.doors ∧ (takeEcho s).sirens = s.sirens
      ∧ (takeEcho s).log = s.log ∧ (takeEcho s).service = s.service ∧ (takeEcho s).configMemory = s.configMemory
      ∧ (takeEcho s).freeCount = s.freeCount ∧ (takeEcho s).pending = s.pending := by
  refine ⟨?_, ?_, ?_, ?_, ?_, ?_, ?_, ?_, ?_, ?_, ?_, ?_, ?_, ?_, ?_, ?_, ?_⟩ <;>
    (unfold takeEcho; dsimp only; (repeat' split) <;> first | rfl | simp)

/-- `expireStuckWatch` changes only line, sirens, log. -/
@[simp] theorem expireStuckWatch_frame (s : State) :
    (expireStuckWatch s).time = s.time ∧ (expireStuckWatch s).startup = s.startup
      ∧ (expireStuckWatch s).config = s.config ∧ (expireStuckWatch s).inputs = s.inputs
      ∧ (expireStuckWatch s).channels = s.channels ∧ (expireStuckWatch s).flow = s.flow
      ∧ (expireStuckWatch s).watch = s.watch ∧ (expireStuckWatch s).valves = s.valves
      ∧ (expireStuckWatch s).peers = s.peers ∧ (expireStuckWatch s).zones = s.zones
      ∧ (expireStuckWatch s).sequencer = s.sequencer ∧ (expireStuckWatch s).doors = s.doors
      ∧ (expireStuckWatch s).service = s.service ∧ (expireStuckWatch s).configMemory = s.configMemory
      ∧ (expireStuckWatch s).freeCount = s.freeCount ∧ (expireStuckWatch s).pending = s.pending := by
  refine ⟨?_, ?_, ?_, ?_, ?_, ?_, ?_, ?_, ?_, ?_, ?_, ?_, ?_, ?_, ?_, ?_⟩ <;> (unfold expireStuckWatch; dsimp only; (repeat' split) <;> simp)

/-- `exitStuck` changes only line, zones, sequencer, doors, sirens, log. -/
@[simp] theorem exitStuck_frame (s : State) :
    (exitStuck s).time = s.time ∧ (exitStuck s).startup = s.startup ∧ (exitStuck s).config = s.config
      ∧ (exitStuck s).inputs = s.inputs ∧ (exitStuck s).channels = s.channels ∧ (exitStuck s).flow = s.flow
      ∧ (exitStuck s).watch = s.watch ∧ (exitStuck s).valves = s.valves ∧ (exitStuck s).peers = s.peers
      ∧ (exitStuck s).service = s.service ∧ (exitStuck s).configMemory = s.configMemory
      ∧ (exitStuck s).freeCount = s.freeCount ∧ (exitStuck s).pending = s.pending := by
  refine ⟨?_, ?_, ?_, ?_, ?_, ?_, ?_, ?_, ?_, ?_, ?_, ?_, ?_⟩ <;> (unfold exitStuck; dsimp only; (repeat' split) <;> simp)

/-- `expirePresence` changes only line. -/
@[simp] theorem expirePresence_frame (d : Instant) (s : State) :
    (expirePresence d s).time = s.time ∧ (expirePresence d s).startup = s.startup
      ∧ (expirePresence d s).config = s.config ∧ (expirePresence d s).inputs = s.inputs
      ∧ (expirePresence d s).channels = s.channels ∧ (expirePresence d s).flow = s.flow
      ∧ (expirePresence d s).watch = s.watch ∧ (expirePresence d s).valves = s.valves
      ∧ (expirePresence d s).peers = s.peers ∧ (expirePresence d s).zones = s.zones
      ∧ (expirePresence d s).sequencer = s.sequencer ∧ (expirePresence d s).doors = s.doors
      ∧ (expirePresence d s).sirens = s.sirens ∧ (expirePresence d s).log = s.log
      ∧ (expirePresence d s).service = s.service ∧ (expirePresence d s).configMemory = s.configMemory
      ∧ (expirePresence d s).freeCount = s.freeCount ∧ (expirePresence d s).pending = s.pending := by
  refine ⟨?_, ?_, ?_, ?_, ?_, ?_, ?_, ?_, ?_, ?_, ?_, ?_, ?_, ?_, ?_, ?_, ?_, ?_⟩ <;> rfl

/-- `postStation` changes only log. -/
@[simp] theorem postStation_frame (i : Fin 32) (s : State) :
    (postStation i s).time = s.time ∧ (postStation i s).startup = s.startup
      ∧ (postStation i s).config = s.config ∧ (postStation i s).inputs = s.inputs
      ∧ (postStation i s).channels = s.channels ∧ (postStation i s).flow = s.flow
      ∧ (postStation i s).watch = s.watch ∧ (postStation i s).valves = s.valves
      ∧ (postStation i s).line = s.line ∧ (postStation i s).peers = s.peers ∧ (postStation i s).zones = s.zones
      ∧ (postStation i s).sequencer = s.sequencer ∧ (postStation i s).doors = s.doors
      ∧ (postStation i s).sirens = s.sirens ∧ (postStation i s).service = s.service
      ∧ (postStation i s).configMemory = s.configMemory ∧ (postStation i s).freeCount = s.freeCount
      ∧ (postStation i s).pending = s.pending := by
  refine ⟨?_, ?_, ?_, ?_, ?_, ?_, ?_, ?_, ?_, ?_, ?_, ?_, ?_, ?_, ?_, ?_, ?_, ?_⟩ <;> rfl

/-- `recountHome` changes only line, zones, sequencer, doors, sirens, log. -/
@[simp] theorem recountHome_frame (z : Option Nat) (s : State) :
    (recountHome z s).time = s.time ∧ (recountHome z s).startup = s.startup
      ∧ (recountHome z s).config = s.config ∧ (recountHome z s).inputs = s.inputs
      ∧ (recountHome z s).channels = s.channels ∧ (recountHome z s).flow = s.flow
      ∧ (recountHome z s).watch = s.watch ∧ (recountHome z s).valves = s.valves
      ∧ (recountHome z s).peers = s.peers ∧ (recountHome z s).service = s.service
      ∧ (recountHome z s).configMemory = s.configMemory ∧ (recountHome z s).freeCount = s.freeCount
      ∧ (recountHome z s).pending = s.pending := by
  refine ⟨?_, ?_, ?_, ?_, ?_, ?_, ?_, ?_, ?_, ?_, ?_, ?_, ?_⟩ <;> (unfold recountHome; (repeat' split) <;> simp)

/-- `reportPeer` changes only line, zones, sequencer, doors, sirens, log. -/
@[simp] theorem reportPeer_frame (old : Peer) (new : Peer) (s : State) :
    (reportPeer old new s).time = s.time ∧ (reportPeer old new s).startup = s.startup
      ∧ (reportPeer old new s).config = s.config ∧ (reportPeer old new s).inputs = s.inputs
      ∧ (reportPeer old new s).channels = s.channels ∧ (reportPeer old new s).flow = s.flow
      ∧ (reportPeer old new s).watch = s.watch ∧ (reportPeer old new s).valves = s.valves
      ∧ (reportPeer old new s).peers = s.peers ∧ (reportPeer old new s).service = s.service
      ∧ (reportPeer old new s).configMemory = s.configMemory ∧ (reportPeer old new s).freeCount = s.freeCount
      ∧ (reportPeer old new s).pending = s.pending := by
  refine ⟨?_, ?_, ?_, ?_, ?_, ?_, ?_, ?_, ?_, ?_, ?_, ?_, ?_⟩ <;> (unfold reportPeer; dsimp only; (repeat' split) <;> simp)

/-- `hearPeer` changes only line, zones, sequencer, doors, sirens, log, peers, watch. -/
@[simp] theorem hearPeer_frame (i : Fin 32) (change : Peer → Peer) (s : State) :
    (hearPeer i change s).time = s.time ∧ (hearPeer i change s).startup = s.startup
      ∧ (hearPeer i change s).config = s.config ∧ (hearPeer i change s).inputs = s.inputs
      ∧ (hearPeer i change s).channels = s.channels ∧ (hearPeer i change s).flow = s.flow
      ∧ (hearPeer i change s).valves = s.valves ∧ (hearPeer i change s).service = s.service
      ∧ (hearPeer i change s).configMemory = s.configMemory ∧ (hearPeer i change s).freeCount = s.freeCount
      ∧ (hearPeer i change s).pending = s.pending := by
  refine ⟨?_, ?_, ?_, ?_, ?_, ?_, ?_, ?_, ?_, ?_, ?_⟩ <;> (unfold hearPeer; dsimp only; (repeat' split) <;> simp)

/-- `silencePeer` changes only line, zones, sequencer, doors, sirens, log, peers, watch. -/
@[simp] theorem silencePeer_frame (i : Fin 32) (s : State) :
    (silencePeer i s).time = s.time ∧ (silencePeer i s).startup = s.startup
      ∧ (silencePeer i s).config = s.config ∧ (silencePeer i s).inputs = s.inputs
      ∧ (silencePeer i s).channels = s.channels ∧ (silencePeer i s).flow = s.flow
      ∧ (silencePeer i s).valves = s.valves ∧ (silencePeer i s).service = s.service
      ∧ (silencePeer i s).configMemory = s.configMemory ∧ (silencePeer i s).freeCount = s.freeCount
      ∧ (silencePeer i s).pending = s.pending := by
  refine ⟨?_, ?_, ?_, ?_, ?_, ?_, ?_, ?_, ?_, ?_, ?_⟩ <;> simp [silencePeer]

/-- `takePeerDetection` changes only line, zones, sequencer, doors, sirens, log, valves. -/
@[simp] theorem takePeerDetection_frame (source : Byte) (channel : Byte) (count : Byte) (age : Half) (span : Half) (start : Instant) (s : State) :
    (takePeerDetection source channel count age span start s).time = s.time
      ∧ (takePeerDetection source channel count age span start s).startup = s.startup
      ∧ (takePeerDetection source channel count age span start s).config = s.config
      ∧ (takePeerDetection source channel count age span start s).inputs = s.inputs
      ∧ (takePeerDetection source channel count age span start s).channels = s.channels
      ∧ (takePeerDetection source channel count age span start s).flow = s.flow
      ∧ (takePeerDetection source channel count age span start s).watch = s.watch
      ∧ (takePeerDetection source channel count age span start s).peers = s.peers
      ∧ (takePeerDetection source channel count age span start s).service = s.service
      ∧ (takePeerDetection source channel count age span start s).configMemory = s.configMemory
      ∧ (takePeerDetection source channel count age span start s).freeCount = s.freeCount
      ∧ (takePeerDetection source channel count age span start s).pending = s.pending := by
  refine ⟨?_, ?_, ?_, ?_, ?_, ?_, ?_, ?_, ?_, ?_, ?_, ?_⟩ <;> (unfold takePeerDetection; dsimp only; (repeat' split) <;> simp)

/-- `takeDetect` changes only line, zones, sequencer, doors, sirens, log, startup, peers, watch, valves. -/
@[simp] theorem takeDetect_frame (source channel count : Byte) (age span : Half) (s : State) :
    (takeDetect source channel count age span s).time = s.time
      ∧ (takeDetect source channel count age span s).config = s.config
      ∧ (takeDetect source channel count age span s).inputs = s.inputs
      ∧ (takeDetect source channel count age span s).channels = s.channels
      ∧ (takeDetect source channel count age span s).flow = s.flow
      ∧ (takeDetect source channel count age span s).service = s.service
      ∧ (takeDetect source channel count age span s).configMemory = s.configMemory
      ∧ (takeDetect source channel count age span s).freeCount = s.freeCount
      ∧ (takeDetect source channel count age span s).pending = s.pending := by
  refine ⟨?_, ?_, ?_, ?_, ?_, ?_, ?_, ?_, ?_⟩ <;> (unfold takeDetect takeFrame; (repeat' split) <;> simp)

/-- `takeVote` changes only line, zones, sequencer, doors, sirens, log, startup, peers, watch. -/
@[simp] theorem takeVote_frame (source zone level reason : Byte) (s : State) :
    (takeVote source zone level reason s).time = s.time
      ∧ (takeVote source zone level reason s).config = s.config
      ∧ (takeVote source zone level reason s).inputs = s.inputs
      ∧ (takeVote source zone level reason s).channels = s.channels
      ∧ (takeVote source zone level reason s).flow = s.flow
      ∧ (takeVote source zone level reason s).valves = s.valves
      ∧ (takeVote source zone level reason s).service = s.service
      ∧ (takeVote source zone level reason s).configMemory = s.configMemory
      ∧ (takeVote source zone level reason s).freeCount = s.freeCount
      ∧ (takeVote source zone level reason s).pending = s.pending := by
  refine ⟨?_, ?_, ?_, ?_, ?_, ?_, ?_, ?_, ?_, ?_⟩ <;> (unfold takeVote takeFrame; (repeat' split) <;> simp)

/-- `takePresence` changes only line, zones, sequencer, doors, sirens, log, startup, peers, watch. -/
@[simp] theorem takePresence_frame (source homeZone level reason extraction : Byte) (velocity : Half) (status : Byte) (s : State) :
    (takePresence source homeZone level reason extraction velocity status s).time = s.time
      ∧ (takePresence source homeZone level reason extraction velocity status s).config = s.config
      ∧ (takePresence source homeZone level reason extraction velocity status s).inputs = s.inputs
      ∧ (takePresence source homeZone level reason extraction velocity status s).channels = s.channels
      ∧ (takePresence source homeZone level reason extraction velocity status s).flow = s.flow
      ∧ (takePresence source homeZone level reason extraction velocity status s).valves = s.valves
      ∧ (takePresence source homeZone level reason extraction velocity status s).service = s.service
      ∧ (takePresence source homeZone level reason extraction velocity status s).configMemory = s.configMemory
      ∧ (takePresence source homeZone level reason extraction velocity status s).freeCount = s.freeCount
      ∧ (takePresence source homeZone level reason extraction velocity status s).pending = s.pending := by
  refine ⟨?_, ?_, ?_, ?_, ?_, ?_, ?_, ?_, ?_, ?_⟩ <;> (unfold takePresence takeFrame; (repeat' split) <;> simp)

/-- `takeRestartFrame` changes only line, zones, sequencer, doors, sirens, log, startup, peers, watch. -/
@[simp] theorem takeRestartFrame_frame (source : Byte) (zone : Half) (s : State) :
    (takeRestartFrame source zone s).time = s.time ∧ (takeRestartFrame source zone s).config = s.config
      ∧ (takeRestartFrame source zone s).inputs = s.inputs
      ∧ (takeRestartFrame source zone s).channels = s.channels
      ∧ (takeRestartFrame source zone s).flow = s.flow ∧ (takeRestartFrame source zone s).valves = s.valves
      ∧ (takeRestartFrame source zone s).service = s.service
      ∧ (takeRestartFrame source zone s).configMemory = s.configMemory
      ∧ (takeRestartFrame source zone s).freeCount = s.freeCount
      ∧ (takeRestartFrame source zone s).pending = s.pending := by
  refine ⟨?_, ?_, ?_, ?_, ?_, ?_, ?_, ?_, ?_, ?_⟩ <;> (unfold takeRestartFrame takeFrame; (repeat' split) <;> simp)

/-- `takeWhole` changes only line, zones, sequencer, doors, sirens, log, startup, peers, watch, valves. -/
@[simp] theorem takeWhole_frame (kind : FrameKind) (bytes : List Byte) (s : State) :
    (takeWhole kind bytes s).time = s.time ∧ (takeWhole kind bytes s).config = s.config
      ∧ (takeWhole kind bytes s).inputs = s.inputs ∧ (takeWhole kind bytes s).channels = s.channels
      ∧ (takeWhole kind bytes s).flow = s.flow ∧ (takeWhole kind bytes s).service = s.service
      ∧ (takeWhole kind bytes s).configMemory = s.configMemory
      ∧ (takeWhole kind bytes s).freeCount = s.freeCount ∧ (takeWhole kind bytes s).pending = s.pending := by
  refine ⟨?_, ?_, ?_, ?_, ?_, ?_, ?_, ?_, ?_⟩ <;> (unfold takeWhole; dsimp only; (repeat' split) <;> simp)

/-- `joinByte` changes only line. -/
@[simp] theorem joinByte_frame (start : Instant) (bytes : List Byte) (stop : StopBit) (s : State) :
    (joinByte start bytes stop s).time = s.time ∧ (joinByte start bytes stop s).startup = s.startup
      ∧ (joinByte start bytes stop s).config = s.config ∧ (joinByte start bytes stop s).inputs = s.inputs
      ∧ (joinByte start bytes stop s).channels = s.channels ∧ (joinByte start bytes stop s).flow = s.flow
      ∧ (joinByte start bytes stop s).watch = s.watch ∧ (joinByte start bytes stop s).valves = s.valves
      ∧ (joinByte start bytes stop s).peers = s.peers ∧ (joinByte start bytes stop s).zones = s.zones
      ∧ (joinByte start bytes stop s).sequencer = s.sequencer ∧ (joinByte start bytes stop s).doors = s.doors
      ∧ (joinByte start bytes stop s).sirens = s.sirens ∧ (joinByte start bytes stop s).log = s.log
      ∧ (joinByte start bytes stop s).service = s.service
      ∧ (joinByte start bytes stop s).configMemory = s.configMemory
      ∧ (joinByte start bytes stop s).freeCount = s.freeCount
      ∧ (joinByte start bytes stop s).pending = s.pending := by
  refine ⟨?_, ?_, ?_, ?_, ?_, ?_, ?_, ?_, ?_, ?_, ?_, ?_, ?_, ?_, ?_, ?_, ?_, ?_⟩ <;> rfl

/-- R66: what the end of a byte of a partial frame can bring: the byte joins, it is an error, or the frame is whole. -/
theorem endFrameByte_cases (whole : FrameKind → List Byte → State → State) (start : Instant) (bytes : List Byte)
    (stop : StopBit) (s : State) :
    endFrameByte whole start bytes stop s = joinByte start bytes stop s
      ∨ endFrameByte whole start bytes stop s = takeByteError s
      ∨ ∃ k, endFrameByte whole start bytes stop s = whole k bytes s := by
  unfold endFrameByte
  (repeat' split) <;> first | exact .inl rfl | exact .inr (.inl rfl) | exact .inr (.inr ⟨_, rfl⟩)

/-- R66: the end of a byte that carries a framing error is an error. -/
theorem endFrameByte_bad {stop : StopBit} (h : stopGood stop = false) (whole : FrameKind → List Byte → State → State)
    (start : Instant) (bytes : List Byte) (s : State) :
    endFrameByte whole start bytes stop s = takeByteError s := by
  simp [endFrameByte, h]

/-- `endFrameByte` of another station's byte changes only line, zones, sequencer, doors, sirens, log, startup, peers,
watch, valves. -/
@[simp] theorem endFrameByte_frame (start : Instant) (bytes : List Byte) (stop : StopBit) (s : State) :
    (endFrameByte takeWhole start bytes stop s).time = s.time ∧ (endFrameByte takeWhole start bytes stop s).config = s.config
      ∧ (endFrameByte takeWhole start bytes stop s).inputs = s.inputs
      ∧ (endFrameByte takeWhole start bytes stop s).channels = s.channels
      ∧ (endFrameByte takeWhole start bytes stop s).flow = s.flow
      ∧ (endFrameByte takeWhole start bytes stop s).service = s.service
      ∧ (endFrameByte takeWhole start bytes stop s).configMemory = s.configMemory
      ∧ (endFrameByte takeWhole start bytes stop s).freeCount = s.freeCount
      ∧ (endFrameByte takeWhole start bytes stop s).pending = s.pending := by
  obtain h | h | ⟨k, h⟩ := endFrameByte_cases takeWhole start bytes stop s <;> simp [h]

/-- `endOwnByte` changes only line, zones, sequencer, doors, sirens, log, startup. -/
@[simp] theorem endOwnByte_frame (data : Byte) (s : State) :
    (endOwnByte data s).time = s.time ∧ (endOwnByte data s).config = s.config
      ∧ (endOwnByte data s).inputs = s.inputs ∧ (endOwnByte data s).channels = s.channels
      ∧ (endOwnByte data s).flow = s.flow ∧ (endOwnByte data s).watch = s.watch
      ∧ (endOwnByte data s).valves = s.valves ∧ (endOwnByte data s).peers = s.peers
      ∧ (endOwnByte data s).service = s.service ∧ (endOwnByte data s).configMemory = s.configMemory
      ∧ (endOwnByte data s).freeCount = s.freeCount ∧ (endOwnByte data s).pending = s.pending := by
  unfold endOwnByte
  split
  · simp
  · rename_i start bytes _
    obtain h | h | ⟨k, h⟩ := endFrameByte_cases (fun _ _ => takeEcho) start (bytes ++ [data]) .mark s <;> simp [h]

/-- `endCutFrame` changes only line, zones, sequencer, doors, sirens, log, startup. -/
@[simp] theorem endCutFrame_frame (s : State) :
    (endCutFrame s).time = s.time ∧ (endCutFrame s).config = s.config
      ∧ (endCutFrame s).inputs = s.inputs ∧ (endCutFrame s).channels = s.channels
      ∧ (endCutFrame s).flow = s.flow ∧ (endCutFrame s).watch = s.watch
      ∧ (endCutFrame s).valves = s.valves ∧ (endCutFrame s).peers = s.peers
      ∧ (endCutFrame s).service = s.service ∧ (endCutFrame s).configMemory = s.configMemory
      ∧ (endCutFrame s).freeCount = s.freeCount ∧ (endCutFrame s).pending = s.pending := by
  unfold endCutFrame
  split <;> simp

/-- `endOtherByte` changes only line, zones, sequencer, doors, sirens, log, startup, peers, watch, valves. -/
@[simp] theorem endOtherByte_frame (data : Byte) (stop : StopBit) (s : State) :
    (endOtherByte data stop s).time = s.time ∧ (endOtherByte data stop s).config = s.config
      ∧ (endOtherByte data stop s).inputs = s.inputs ∧ (endOtherByte data stop s).channels = s.channels
      ∧ (endOtherByte data stop s).flow = s.flow ∧ (endOtherByte data stop s).service = s.service
      ∧ (endOtherByte data stop s).configMemory = s.configMemory
      ∧ (endOtherByte data stop s).freeCount = s.freeCount ∧ (endOtherByte data stop s).pending = s.pending := by
  refine ⟨?_, ?_, ?_, ?_, ?_, ?_, ?_, ?_, ?_⟩ <;> (unfold endOtherByte; (repeat' split) <;> simp)

/-- `endByte` changes only line, zones, sequencer, doors, sirens, log, startup, peers, watch, valves. -/
@[simp] theorem endByte_frame (s : State) :
    (endByte s).time = s.time ∧ (endByte s).config = s.config ∧ (endByte s).inputs = s.inputs
      ∧ (endByte s).channels = s.channels ∧ (endByte s).flow = s.flow ∧ (endByte s).service = s.service
      ∧ (endByte s).configMemory = s.configMemory ∧ (endByte s).freeCount = s.freeCount
      ∧ (endByte s).pending = s.pending := by
  refine ⟨?_, ?_, ?_, ?_, ?_, ?_, ?_, ?_, ?_⟩ <;> (unfold endByte; (repeat' split) <;> simp)

/-- `expireRing` changes only line, zones, sequencer, doors, sirens, log. -/
@[simp] theorem expireRing_frame (s : State) :
    (expireRing s).time = s.time ∧ (expireRing s).startup = s.startup ∧ (expireRing s).config = s.config
      ∧ (expireRing s).inputs = s.inputs ∧ (expireRing s).channels = s.channels ∧ (expireRing s).flow = s.flow
      ∧ (expireRing s).watch = s.watch ∧ (expireRing s).valves = s.valves ∧ (expireRing s).peers = s.peers
      ∧ (expireRing s).service = s.service ∧ (expireRing s).configMemory = s.configMemory
      ∧ (expireRing s).freeCount = s.freeCount ∧ (expireRing s).pending = s.pending := by
  refine ⟨?_, ?_, ?_, ?_, ?_, ?_, ?_, ?_, ?_, ?_, ?_, ?_, ?_⟩ <;> simp [expireRing]

/-- `expireFirePending` changes only line, zones, sequencer, doors, sirens, log. -/
@[simp] theorem expireFirePending_frame (z : Nat) (s : State) :
    (expireFirePending z s).time = s.time ∧ (expireFirePending z s).startup = s.startup
      ∧ (expireFirePending z s).config = s.config ∧ (expireFirePending z s).inputs = s.inputs
      ∧ (expireFirePending z s).channels = s.channels ∧ (expireFirePending z s).flow = s.flow
      ∧ (expireFirePending z s).watch = s.watch ∧ (expireFirePending z s).valves = s.valves
      ∧ (expireFirePending z s).peers = s.peers ∧ (expireFirePending z s).service = s.service
      ∧ (expireFirePending z s).configMemory = s.configMemory ∧ (expireFirePending z s).freeCount = s.freeCount
      ∧ (expireFirePending z s).pending = s.pending := by
  refine ⟨?_, ?_, ?_, ?_, ?_, ?_, ?_, ?_, ?_, ?_, ?_, ?_, ?_⟩ <;> simp [expireFirePending]

/-- `setKey` changes only sequencer. -/
@[simp] theorem setKey_frame (k : KeyState) (deadline : Option Instant) (s : State) :
    (setKey k deadline s).time = s.time ∧ (setKey k deadline s).startup = s.startup
      ∧ (setKey k deadline s).config = s.config ∧ (setKey k deadline s).inputs = s.inputs
      ∧ (setKey k deadline s).channels = s.channels ∧ (setKey k deadline s).flow = s.flow
      ∧ (setKey k deadline s).watch = s.watch ∧ (setKey k deadline s).valves = s.valves
      ∧ (setKey k deadline s).line = s.line ∧ (setKey k deadline s).peers = s.peers
      ∧ (setKey k deadline s).zones = s.zones ∧ (setKey k deadline s).doors = s.doors
      ∧ (setKey k deadline s).sirens = s.sirens ∧ (setKey k deadline s).log = s.log
      ∧ (setKey k deadline s).service = s.service ∧ (setKey k deadline s).configMemory = s.configMemory
      ∧ (setKey k deadline s).freeCount = s.freeCount ∧ (setKey k deadline s).pending = s.pending := by
  refine ⟨?_, ?_, ?_, ?_, ?_, ?_, ?_, ?_, ?_, ?_, ?_, ?_, ?_, ?_, ?_, ?_, ?_, ?_⟩ <;> rfl

/-- `keyTurn` changes only sequencer. -/
@[simp] theorem keyTurn_frame (active : Bool) (s : State) :
    (keyTurn active s).time = s.time ∧ (keyTurn active s).startup = s.startup
      ∧ (keyTurn active s).config = s.config ∧ (keyTurn active s).inputs = s.inputs
      ∧ (keyTurn active s).channels = s.channels ∧ (keyTurn active s).flow = s.flow
      ∧ (keyTurn active s).watch = s.watch ∧ (keyTurn active s).valves = s.valves
      ∧ (keyTurn active s).line = s.line ∧ (keyTurn active s).peers = s.peers
      ∧ (keyTurn active s).zones = s.zones ∧ (keyTurn active s).doors = s.doors
      ∧ (keyTurn active s).sirens = s.sirens ∧ (keyTurn active s).log = s.log
      ∧ (keyTurn active s).service = s.service ∧ (keyTurn active s).configMemory = s.configMemory
      ∧ (keyTurn active s).freeCount = s.freeCount ∧ (keyTurn active s).pending = s.pending := by
  refine ⟨?_, ?_, ?_, ?_, ?_, ?_, ?_, ?_, ?_, ?_, ?_, ?_, ?_, ?_, ?_, ?_, ?_, ?_⟩ <;> (unfold keyTurn; (repeat' split) <;> simp)

/-- `keyPress` changes only line, zones, sequencer, doors, sirens, log, peers. -/
@[simp] theorem keyPress_frame (s : State) :
    (keyPress s).time = s.time ∧ (keyPress s).startup = s.startup ∧ (keyPress s).config = s.config
      ∧ (keyPress s).inputs = s.inputs ∧ (keyPress s).channels = s.channels ∧ (keyPress s).flow = s.flow
      ∧ (keyPress s).watch = s.watch ∧ (keyPress s).valves = s.valves ∧ (keyPress s).service = s.service
      ∧ (keyPress s).configMemory = s.configMemory ∧ (keyPress s).freeCount = s.freeCount
      ∧ (keyPress s).pending = s.pending := by
  refine ⟨?_, ?_, ?_, ?_, ?_, ?_, ?_, ?_, ?_, ?_, ?_, ?_⟩ <;> (unfold keyPress; (repeat' split) <;> simp)

/-- `endRunOn` changes only sequencer, log. -/
@[simp] theorem endRunOn_frame (s : State) :
    (endRunOn s).time = s.time ∧ (endRunOn s).startup = s.startup ∧ (endRunOn s).config = s.config
      ∧ (endRunOn s).inputs = s.inputs ∧ (endRunOn s).channels = s.channels ∧ (endRunOn s).flow = s.flow
      ∧ (endRunOn s).watch = s.watch ∧ (endRunOn s).valves = s.valves ∧ (endRunOn s).line = s.line
      ∧ (endRunOn s).peers = s.peers ∧ (endRunOn s).zones = s.zones ∧ (endRunOn s).doors = s.doors
      ∧ (endRunOn s).sirens = s.sirens ∧ (endRunOn s).service = s.service
      ∧ (endRunOn s).configMemory = s.configMemory ∧ (endRunOn s).freeCount = s.freeCount
      ∧ (endRunOn s).pending = s.pending := by
  refine ⟨?_, ?_, ?_, ?_, ?_, ?_, ?_, ?_, ?_, ?_, ?_, ?_, ?_, ?_, ?_, ?_, ?_⟩ <;> simp [endRunOn]

/-- `expireStep` changes only sequencer, sirens, log. -/
@[simp] theorem expireStep_frame (s : State) :
    (expireStep s).time = s.time ∧ (expireStep s).startup = s.startup ∧ (expireStep s).config = s.config
      ∧ (expireStep s).inputs = s.inputs ∧ (expireStep s).channels = s.channels ∧ (expireStep s).flow = s.flow
      ∧ (expireStep s).watch = s.watch ∧ (expireStep s).valves = s.valves ∧ (expireStep s).line = s.line
      ∧ (expireStep s).peers = s.peers ∧ (expireStep s).zones = s.zones ∧ (expireStep s).doors = s.doors
      ∧ (expireStep s).service = s.service ∧ (expireStep s).configMemory = s.configMemory
      ∧ (expireStep s).freeCount = s.freeCount ∧ (expireStep s).pending = s.pending := by
  refine ⟨?_, ?_, ?_, ?_, ?_, ?_, ?_, ?_, ?_, ?_, ?_, ?_, ?_, ?_, ?_, ?_⟩ <;> (unfold expireStep; (repeat' split) <;> simp)

/-- `closedSwitch` changes only sequencer, doors, sirens, log. -/
@[simp] theorem closedSwitch_frame (d : Fin 2) (active : Bool) (s : State) :
    (closedSwitch d active s).time = s.time ∧ (closedSwitch d active s).startup = s.startup
      ∧ (closedSwitch d active s).config = s.config ∧ (closedSwitch d active s).inputs = s.inputs
      ∧ (closedSwitch d active s).channels = s.channels ∧ (closedSwitch d active s).flow = s.flow
      ∧ (closedSwitch d active s).watch = s.watch ∧ (closedSwitch d active s).valves = s.valves
      ∧ (closedSwitch d active s).line = s.line ∧ (closedSwitch d active s).peers = s.peers
      ∧ (closedSwitch d active s).zones = s.zones ∧ (closedSwitch d active s).service = s.service
      ∧ (closedSwitch d active s).configMemory = s.configMemory
      ∧ (closedSwitch d active s).freeCount = s.freeCount ∧ (closedSwitch d active s).pending = s.pending := by
  refine ⟨?_, ?_, ?_, ?_, ?_, ?_, ?_, ?_, ?_, ?_, ?_, ?_, ?_, ?_, ?_⟩ <;> (unfold closedSwitch; (repeat' split) <;> simp)

/-- `conveyorClear` changes only sequencer, doors, sirens, log. -/
@[simp] theorem conveyorClear_frame (d : Fin 2) (active : Bool) (s : State) :
    (conveyorClear d active s).time = s.time ∧ (conveyorClear d active s).startup = s.startup
      ∧ (conveyorClear d active s).config = s.config ∧ (conveyorClear d active s).inputs = s.inputs
      ∧ (conveyorClear d active s).channels = s.channels ∧ (conveyorClear d active s).flow = s.flow
      ∧ (conveyorClear d active s).watch = s.watch ∧ (conveyorClear d active s).valves = s.valves
      ∧ (conveyorClear d active s).line = s.line ∧ (conveyorClear d active s).peers = s.peers
      ∧ (conveyorClear d active s).zones = s.zones ∧ (conveyorClear d active s).service = s.service
      ∧ (conveyorClear d active s).configMemory = s.configMemory
      ∧ (conveyorClear d active s).freeCount = s.freeCount ∧ (conveyorClear d active s).pending = s.pending := by
  refine ⟨?_, ?_, ?_, ?_, ?_, ?_, ?_, ?_, ?_, ?_, ?_, ?_, ?_, ?_, ?_⟩ <;> (unfold conveyorClear; (repeat' split) <;> simp)

/-- `expireClear` changes only sequencer, doors, sirens, log. -/
@[simp] theorem expireClear_frame (d : Fin 2) (s : State) :
    (expireClear d s).time = s.time ∧ (expireClear d s).startup = s.startup
      ∧ (expireClear d s).config = s.config ∧ (expireClear d s).inputs = s.inputs
      ∧ (expireClear d s).channels = s.channels ∧ (expireClear d s).flow = s.flow
      ∧ (expireClear d s).watch = s.watch ∧ (expireClear d s).valves = s.valves
      ∧ (expireClear d s).line = s.line ∧ (expireClear d s).peers = s.peers ∧ (expireClear d s).zones = s.zones
      ∧ (expireClear d s).service = s.service ∧ (expireClear d s).configMemory = s.configMemory
      ∧ (expireClear d s).freeCount = s.freeCount ∧ (expireClear d s).pending = s.pending := by
  refine ⟨?_, ?_, ?_, ?_, ?_, ?_, ?_, ?_, ?_, ?_, ?_, ?_, ?_, ?_, ?_⟩ <;> simp [expireClear]

/-- `setSiren` changes only sirens. -/
@[simp] theorem setSiren_frame (i : Fin 2) (x : Siren) (s : State) :
    (setSiren i x s).time = s.time ∧ (setSiren i x s).startup = s.startup ∧ (setSiren i x s).config = s.config
      ∧ (setSiren i x s).inputs = s.inputs ∧ (setSiren i x s).channels = s.channels
      ∧ (setSiren i x s).flow = s.flow ∧ (setSiren i x s).watch = s.watch ∧ (setSiren i x s).valves = s.valves
      ∧ (setSiren i x s).line = s.line ∧ (setSiren i x s).peers = s.peers ∧ (setSiren i x s).zones = s.zones
      ∧ (setSiren i x s).sequencer = s.sequencer ∧ (setSiren i x s).doors = s.doors
      ∧ (setSiren i x s).log = s.log ∧ (setSiren i x s).service = s.service
      ∧ (setSiren i x s).configMemory = s.configMemory ∧ (setSiren i x s).freeCount = s.freeCount
      ∧ (setSiren i x s).pending = s.pending := by
  refine ⟨?_, ?_, ?_, ?_, ?_, ?_, ?_, ?_, ?_, ?_, ?_, ?_, ?_, ?_, ?_, ?_, ?_, ?_⟩ <;> rfl

/-- `silenceAll` changes only sirens, log. -/
@[simp] theorem silenceAll_frame (s : State) :
    (silenceAll s).time = s.time ∧ (silenceAll s).startup = s.startup ∧ (silenceAll s).config = s.config
      ∧ (silenceAll s).inputs = s.inputs ∧ (silenceAll s).channels = s.channels ∧ (silenceAll s).flow = s.flow
      ∧ (silenceAll s).watch = s.watch ∧ (silenceAll s).valves = s.valves ∧ (silenceAll s).line = s.line
      ∧ (silenceAll s).peers = s.peers ∧ (silenceAll s).zones = s.zones ∧ (silenceAll s).sequencer = s.sequencer
      ∧ (silenceAll s).doors = s.doors ∧ (silenceAll s).service = s.service
      ∧ (silenceAll s).configMemory = s.configMemory ∧ (silenceAll s).freeCount = s.freeCount
      ∧ (silenceAll s).pending = s.pending := by
  refine ⟨?_, ?_, ?_, ?_, ?_, ?_, ?_, ?_, ?_, ?_, ?_, ?_, ?_, ?_, ?_, ?_, ?_⟩ <;> simp [silenceAll]

/-- `expirePhase` changes only sirens. -/
@[simp] theorem expirePhase_frame (i : Fin 2) (s : State) :
    (expirePhase i s).time = s.time ∧ (expirePhase i s).startup = s.startup
      ∧ (expirePhase i s).config = s.config ∧ (expirePhase i s).inputs = s.inputs
      ∧ (expirePhase i s).channels = s.channels ∧ (expirePhase i s).flow = s.flow
      ∧ (expirePhase i s).watch = s.watch ∧ (expirePhase i s).valves = s.valves
      ∧ (expirePhase i s).line = s.line ∧ (expirePhase i s).peers = s.peers ∧ (expirePhase i s).zones = s.zones
      ∧ (expirePhase i s).sequencer = s.sequencer ∧ (expirePhase i s).doors = s.doors
      ∧ (expirePhase i s).log = s.log ∧ (expirePhase i s).service = s.service
      ∧ (expirePhase i s).configMemory = s.configMemory ∧ (expirePhase i s).freeCount = s.freeCount
      ∧ (expirePhase i s).pending = s.pending := by
  refine ⟨?_, ?_, ?_, ?_, ?_, ?_, ?_, ?_, ?_, ?_, ?_, ?_, ?_, ?_, ?_, ?_, ?_, ?_⟩ <;> rfl

/-- `expireCycle` changes only sirens, log. -/
@[simp] theorem expireCycle_frame (i : Fin 2) (s : State) :
    (expireCycle i s).time = s.time ∧ (expireCycle i s).startup = s.startup
      ∧ (expireCycle i s).config = s.config ∧ (expireCycle i s).inputs = s.inputs
      ∧ (expireCycle i s).channels = s.channels ∧ (expireCycle i s).flow = s.flow
      ∧ (expireCycle i s).watch = s.watch ∧ (expireCycle i s).valves = s.valves
      ∧ (expireCycle i s).line = s.line ∧ (expireCycle i s).peers = s.peers ∧ (expireCycle i s).zones = s.zones
      ∧ (expireCycle i s).sequencer = s.sequencer ∧ (expireCycle i s).doors = s.doors
      ∧ (expireCycle i s).service = s.service ∧ (expireCycle i s).configMemory = s.configMemory
      ∧ (expireCycle i s).freeCount = s.freeCount ∧ (expireCycle i s).pending = s.pending := by
  refine ⟨?_, ?_, ?_, ?_, ?_, ?_, ?_, ?_, ?_, ?_, ?_, ?_, ?_, ?_, ?_, ?_, ?_⟩ <;> (unfold expireCycle; dsimp only; (repeat' split) <;> simp)

/-- `resoundSiren` changes only sirens, log. -/
@[simp] theorem resoundSiren_frame (i : Fin 2) (s : State) :
    (resoundSiren i s).time = s.time ∧ (resoundSiren i s).startup = s.startup
      ∧ (resoundSiren i s).config = s.config ∧ (resoundSiren i s).inputs = s.inputs
      ∧ (resoundSiren i s).channels = s.channels ∧ (resoundSiren i s).flow = s.flow
      ∧ (resoundSiren i s).watch = s.watch ∧ (resoundSiren i s).valves = s.valves
      ∧ (resoundSiren i s).line = s.line ∧ (resoundSiren i s).peers = s.peers
      ∧ (resoundSiren i s).zones = s.zones ∧ (resoundSiren i s).sequencer = s.sequencer
      ∧ (resoundSiren i s).doors = s.doors ∧ (resoundSiren i s).service = s.service
      ∧ (resoundSiren i s).configMemory = s.configMemory ∧ (resoundSiren i s).freeCount = s.freeCount
      ∧ (resoundSiren i s).pending = s.pending := by
  refine ⟨?_, ?_, ?_, ?_, ?_, ?_, ?_, ?_, ?_, ?_, ?_, ?_, ?_, ?_, ?_, ?_, ?_⟩ <;> rfl

/-- `confirmChange` changes only line, zones, sequencer, doors, sirens, log. -/
@[simp] theorem confirmChange_frame (i : ConfirmInput) (active : Bool) (s : State) :
    (confirmChange i active s).time = s.time ∧ (confirmChange i active s).startup = s.startup
      ∧ (confirmChange i active s).config = s.config ∧ (confirmChange i active s).inputs = s.inputs
      ∧ (confirmChange i active s).channels = s.channels ∧ (confirmChange i active s).flow = s.flow
      ∧ (confirmChange i active s).watch = s.watch ∧ (confirmChange i active s).valves = s.valves
      ∧ (confirmChange i active s).peers = s.peers ∧ (confirmChange i active s).service = s.service
      ∧ (confirmChange i active s).configMemory = s.configMemory
      ∧ (confirmChange i active s).freeCount = s.freeCount ∧ (confirmChange i active s).pending = s.pending := by
  refine ⟨?_, ?_, ?_, ?_, ?_, ?_, ?_, ?_, ?_, ?_, ?_, ?_, ?_⟩
  · unfold confirmChange; split <;> simp [reportingHalt_keeps steady_time (f := confirmByInput i) (by simp)]
  · unfold confirmChange; split <;> simp [reportingHalt_keeps steady_startup (f := confirmByInput i) (by simp)]
  · unfold confirmChange; split <;> simp [reportingHalt_keeps steady_config (f := confirmByInput i) (by simp)]
  · unfold confirmChange; split <;> simp [reportingHalt_keeps steady_inputs (f := confirmByInput i) (by simp)]
  · unfold confirmChange; split <;> simp [reportingHalt_keeps steady_channels (f := confirmByInput i) (by simp)]
  · unfold confirmChange; split <;> simp [reportingHalt_keeps steady_flow (f := confirmByInput i) (by simp)]
  · unfold confirmChange; split <;> simp [reportingHalt_keeps steady_watch (f := confirmByInput i) (by simp)]
  · unfold confirmChange; split <;> simp [reportingHalt_keeps steady_valves (f := confirmByInput i) (by simp)]
  · unfold confirmChange; split <;> simp [reportingHalt_keeps steady_peers (f := confirmByInput i) (by simp)]
  · unfold confirmChange; split <;> simp [reportingHalt_keeps steady_service (f := confirmByInput i) (by simp)]
  · unfold confirmChange; split <;> simp [reportingHalt_keeps steady_configMemory (f := confirmByInput i) (by simp)]
  · unfold confirmChange; split <;> simp [reportingHalt_keeps steady_freeCount (f := confirmByInput i) (by simp)]
  · unfold confirmChange; split <;> simp [reportingHalt_keeps steady_pending (f := confirmByInput i) (by simp)]

/-- `contactAction` changes only line, zones, sequencer, doors, sirens, log, valves, peers. -/
@[simp] theorem contactAction_frame (i : Input) (active : Bool) (s : State) :
    (contactAction i active s).time = s.time ∧ (contactAction i active s).startup = s.startup
      ∧ (contactAction i active s).config = s.config ∧ (contactAction i active s).inputs = s.inputs
      ∧ (contactAction i active s).channels = s.channels ∧ (contactAction i active s).flow = s.flow
      ∧ (contactAction i active s).watch = s.watch ∧ (contactAction i active s).service = s.service
      ∧ (contactAction i active s).configMemory = s.configMemory
      ∧ (contactAction i active s).freeCount = s.freeCount ∧ (contactAction i active s).pending = s.pending := by
  refine ⟨?_, ?_, ?_, ?_, ?_, ?_, ?_, ?_, ?_, ?_, ?_⟩ <;> (unfold contactAction; (repeat' split) <;> simp)

/-- `contactChange` changes only line, zones, sequencer, doors, sirens, log, valves, peers, inputs. -/
@[simp] theorem contactChange_frame (i : Input) (active : Bool) (s : State) :
    (contactChange i active s).time = s.time ∧ (contactChange i active s).startup = s.startup
      ∧ (contactChange i active s).config = s.config ∧ (contactChange i active s).channels = s.channels
      ∧ (contactChange i active s).flow = s.flow ∧ (contactChange i active s).watch = s.watch
      ∧ (contactChange i active s).service = s.service
      ∧ (contactChange i active s).configMemory = s.configMemory
      ∧ (contactChange i active s).freeCount = s.freeCount ∧ (contactChange i active s).pending = s.pending := by
  refine ⟨?_, ?_, ?_, ?_, ?_, ?_, ?_, ?_, ?_, ?_⟩ <;> (unfold contactChange; dsimp only; (repeat' split) <;> simp)

/-- `takeContact` changes only line, zones, sequencer, doors, sirens, log, valves, peers, inputs. -/
@[simp] theorem takeContact_frame (i : Input) (active : Bool) (s : State) :
    (takeContact i active s).time = s.time ∧ (takeContact i active s).startup = s.startup
      ∧ (takeContact i active s).config = s.config ∧ (takeContact i active s).channels = s.channels
      ∧ (takeContact i active s).flow = s.flow ∧ (takeContact i active s).watch = s.watch
      ∧ (takeContact i active s).service = s.service ∧ (takeContact i active s).configMemory = s.configMemory
      ∧ (takeContact i active s).freeCount = s.freeCount ∧ (takeContact i active s).pending = s.pending := by
  refine ⟨?_, ?_, ?_, ?_, ?_, ?_, ?_, ?_, ?_, ?_⟩ <;> (unfold takeContact; (repeat' split) <;> simp)

/-- `rawChange` changes only line, zones, sequencer, doors, sirens, log, valves, peers, inputs. -/
@[simp] theorem rawChange_frame (i : Input) (active : Bool) (s : State) :
    (rawChange i active s).time = s.time ∧ (rawChange i active s).startup = s.startup
      ∧ (rawChange i active s).config = s.config ∧ (rawChange i active s).channels = s.channels
      ∧ (rawChange i active s).flow = s.flow ∧ (rawChange i active s).watch = s.watch
      ∧ (rawChange i active s).service = s.service ∧ (rawChange i active s).configMemory = s.configMemory
      ∧ (rawChange i active s).freeCount = s.freeCount ∧ (rawChange i active s).pending = s.pending := by
  refine ⟨?_, ?_, ?_, ?_, ?_, ?_, ?_, ?_, ?_, ?_⟩ <;> (unfold rawChange; dsimp only; (repeat' split) <;> simp)

/-- `complete` changes only service. -/
@[simp] theorem complete_frame (status : Byte) (reply : List Byte) (s : State) :
    (complete status reply s).time = s.time ∧ (complete status reply s).startup = s.startup
      ∧ (complete status reply s).config = s.config ∧ (complete status reply s).inputs = s.inputs
      ∧ (complete status reply s).channels = s.channels ∧ (complete status reply s).flow = s.flow
      ∧ (complete status reply s).watch = s.watch ∧ (complete status reply s).valves = s.valves
      ∧ (complete status reply s).line = s.line ∧ (complete status reply s).peers = s.peers
      ∧ (complete status reply s).zones = s.zones ∧ (complete status reply s).sequencer = s.sequencer
      ∧ (complete status reply s).doors = s.doors ∧ (complete status reply s).sirens = s.sirens
      ∧ (complete status reply s).log = s.log ∧ (complete status reply s).configMemory = s.configMemory
      ∧ (complete status reply s).freeCount = s.freeCount ∧ (complete status reply s).pending = s.pending := by
  refine ⟨?_, ?_, ?_, ?_, ?_, ?_, ?_, ?_, ?_, ?_, ?_, ?_, ?_, ?_, ?_, ?_, ?_, ?_⟩ <;> rfl

/-- `holdCommand` changes only service. -/
@[simp] theorem holdCommand_frame (command : Byte) (params : List Byte) (wait : PortWait) (s : State) :
    (holdCommand command params wait s).time = s.time ∧ (holdCommand command params wait s).startup = s.startup
      ∧ (holdCommand command params wait s).config = s.config
      ∧ (holdCommand command params wait s).inputs = s.inputs
      ∧ (holdCommand command params wait s).channels = s.channels
      ∧ (holdCommand command params wait s).flow = s.flow ∧ (holdCommand command params wait s).watch = s.watch
      ∧ (holdCommand command params wait s).valves = s.valves
      ∧ (holdCommand command params wait s).line = s.line ∧ (holdCommand command params wait s).peers = s.peers
      ∧ (holdCommand command params wait s).zones = s.zones
      ∧ (holdCommand command params wait s).sequencer = s.sequencer
      ∧ (holdCommand command params wait s).doors = s.doors
      ∧ (holdCommand command params wait s).sirens = s.sirens ∧ (holdCommand command params wait s).log = s.log
      ∧ (holdCommand command params wait s).configMemory = s.configMemory
      ∧ (holdCommand command params wait s).freeCount = s.freeCount
      ∧ (holdCommand command params wait s).pending = s.pending := by
  refine ⟨?_, ?_, ?_, ?_, ?_, ?_, ?_, ?_, ?_, ?_, ?_, ?_, ?_, ?_, ?_, ?_, ?_, ?_⟩ <;> rfl

/-- `serveLog` changes only service. -/
@[simp] theorem serveLog_frame (params : List Byte) (s : State) :
    (serveLog params s).time = s.time ∧ (serveLog params s).startup = s.startup
      ∧ (serveLog params s).config = s.config ∧ (serveLog params s).inputs = s.inputs
      ∧ (serveLog params s).channels = s.channels ∧ (serveLog params s).flow = s.flow
      ∧ (serveLog params s).watch = s.watch ∧ (serveLog params s).valves = s.valves
      ∧ (serveLog params s).line = s.line ∧ (serveLog params s).peers = s.peers
      ∧ (serveLog params s).zones = s.zones ∧ (serveLog params s).sequencer = s.sequencer
      ∧ (serveLog params s).doors = s.doors ∧ (serveLog params s).sirens = s.sirens
      ∧ (serveLog params s).log = s.log ∧ (serveLog params s).configMemory = s.configMemory
      ∧ (serveLog params s).freeCount = s.freeCount ∧ (serveLog params s).pending = s.pending := by
  refine ⟨?_, ?_, ?_, ?_, ?_, ?_, ?_, ?_, ?_, ?_, ?_, ?_, ?_, ?_, ?_, ?_, ?_, ?_⟩ <;> (unfold serveLog; dsimp only; (repeat' split) <;> simp)

/-- `serveHeldLog` changes only service. -/
@[simp] theorem serveHeldLog_frame (s : State) :
    (serveHeldLog s).time = s.time ∧ (serveHeldLog s).startup = s.startup ∧ (serveHeldLog s).config = s.config
      ∧ (serveHeldLog s).inputs = s.inputs ∧ (serveHeldLog s).channels = s.channels
      ∧ (serveHeldLog s).flow = s.flow ∧ (serveHeldLog s).watch = s.watch ∧ (serveHeldLog s).valves = s.valves
      ∧ (serveHeldLog s).line = s.line ∧ (serveHeldLog s).peers = s.peers ∧ (serveHeldLog s).zones = s.zones
      ∧ (serveHeldLog s).sequencer = s.sequencer ∧ (serveHeldLog s).doors = s.doors
      ∧ (serveHeldLog s).sirens = s.sirens ∧ (serveHeldLog s).log = s.log
      ∧ (serveHeldLog s).configMemory = s.configMemory ∧ (serveHeldLog s).freeCount = s.freeCount
      ∧ (serveHeldLog s).pending = s.pending := by
  refine ⟨?_, ?_, ?_, ?_, ?_, ?_, ?_, ?_, ?_, ?_, ?_, ?_, ?_, ?_, ?_, ?_, ?_, ?_⟩ <;> (unfold serveHeldLog; (repeat' split) <;> simp)

/-- `clearProtection` changes only sirens, log, service. -/
@[simp] theorem clearProtection_frame (b : Fin 16) (s : State) :
    (clearProtection b s).time = s.time ∧ (clearProtection b s).startup = s.startup
      ∧ (clearProtection b s).config = s.config ∧ (clearProtection b s).inputs = s.inputs
      ∧ (clearProtection b s).channels = s.channels ∧ (clearProtection b s).flow = s.flow
      ∧ (clearProtection b s).watch = s.watch ∧ (clearProtection b s).valves = s.valves
      ∧ (clearProtection b s).line = s.line ∧ (clearProtection b s).peers = s.peers
      ∧ (clearProtection b s).zones = s.zones ∧ (clearProtection b s).sequencer = s.sequencer
      ∧ (clearProtection b s).doors = s.doors ∧ (clearProtection b s).configMemory = s.configMemory
      ∧ (clearProtection b s).freeCount = s.freeCount ∧ (clearProtection b s).pending = s.pending := by
  refine ⟨?_, ?_, ?_, ?_, ?_, ?_, ?_, ?_, ?_, ?_, ?_, ?_, ?_, ?_, ?_, ?_⟩ <;> (unfold clearProtection; dsimp only; (repeat' split) <;> simp)

/-- `flushByCommand` changes only log, service. -/
@[simp] theorem flushByCommand_frame (s : State) :
    (flushByCommand s).time = s.time ∧ (flushByCommand s).startup = s.startup
      ∧ (flushByCommand s).config = s.config ∧ (flushByCommand s).inputs = s.inputs
      ∧ (flushByCommand s).channels = s.channels ∧ (flushByCommand s).flow = s.flow
      ∧ (flushByCommand s).watch = s.watch ∧ (flushByCommand s).valves = s.valves
      ∧ (flushByCommand s).line = s.line ∧ (flushByCommand s).peers = s.peers
      ∧ (flushByCommand s).zones = s.zones ∧ (flushByCommand s).sequencer = s.sequencer
      ∧ (flushByCommand s).doors = s.doors ∧ (flushByCommand s).sirens = s.sirens
      ∧ (flushByCommand s).configMemory = s.configMemory ∧ (flushByCommand s).freeCount = s.freeCount
      ∧ (flushByCommand s).pending = s.pending := by
  refine ⟨?_, ?_, ?_, ?_, ?_, ?_, ?_, ?_, ?_, ?_, ?_, ?_, ?_, ?_, ?_, ?_, ?_⟩ <;> rfl

/-- `requestConfig` changes only startup, service. -/
@[simp] theorem requestConfig_frame (command : Byte) (params : List Byte) (s : State) :
    (requestConfig command params s).time = s.time ∧ (requestConfig command params s).config = s.config
      ∧ (requestConfig command params s).inputs = s.inputs
      ∧ (requestConfig command params s).channels = s.channels ∧ (requestConfig command params s).flow = s.flow
      ∧ (requestConfig command params s).watch = s.watch ∧ (requestConfig command params s).valves = s.valves
      ∧ (requestConfig command params s).line = s.line ∧ (requestConfig command params s).peers = s.peers
      ∧ (requestConfig command params s).zones = s.zones
      ∧ (requestConfig command params s).sequencer = s.sequencer
      ∧ (requestConfig command params s).doors = s.doors ∧ (requestConfig command params s).sirens = s.sirens
      ∧ (requestConfig command params s).log = s.log
      ∧ (requestConfig command params s).configMemory = s.configMemory
      ∧ (requestConfig command params s).freeCount = s.freeCount
      ∧ (requestConfig command params s).pending = s.pending := by
  refine ⟨?_, ?_, ?_, ?_, ?_, ?_, ?_, ?_, ?_, ?_, ?_, ?_, ?_, ?_, ?_, ?_, ?_⟩ <;> (unfold requestConfig; dsimp only; (repeat' split) <;> simp)

/-- `idleLog` changes only log. -/
@[simp] theorem idleLog_frame (whole : Bool) (s : State) :
    (idleLog whole s).time = s.time ∧ (idleLog whole s).startup = s.startup
      ∧ (idleLog whole s).config = s.config ∧ (idleLog whole s).inputs = s.inputs
      ∧ (idleLog whole s).channels = s.channels ∧ (idleLog whole s).flow = s.flow
      ∧ (idleLog whole s).watch = s.watch ∧ (idleLog whole s).valves = s.valves
      ∧ (idleLog whole s).line = s.line ∧ (idleLog whole s).peers = s.peers ∧ (idleLog whole s).zones = s.zones
      ∧ (idleLog whole s).sequencer = s.sequencer ∧ (idleLog whole s).doors = s.doors
      ∧ (idleLog whole s).sirens = s.sirens ∧ (idleLog whole s).service = s.service
      ∧ (idleLog whole s).configMemory = s.configMemory ∧ (idleLog whole s).freeCount = s.freeCount
      ∧ (idleLog whole s).pending = s.pending := by
  refine ⟨?_, ?_, ?_, ?_, ?_, ?_, ?_, ?_, ?_, ?_, ?_, ?_, ?_, ?_, ?_, ?_, ?_, ?_⟩ <;> rfl

/-- `advance` changes only sirens, log. -/
@[simp] theorem advance_frame (b : Fin 16) (p : Fin 16) (s : State) :
    (advance b p s).time = s.time ∧ (advance b p s).startup = s.startup ∧ (advance b p s).config = s.config
      ∧ (advance b p s).inputs = s.inputs ∧ (advance b p s).channels = s.channels
      ∧ (advance b p s).flow = s.flow ∧ (advance b p s).watch = s.watch ∧ (advance b p s).valves = s.valves
      ∧ (advance b p s).line = s.line ∧ (advance b p s).peers = s.peers ∧ (advance b p s).zones = s.zones
      ∧ (advance b p s).sequencer = s.sequencer ∧ (advance b p s).doors = s.doors
      ∧ (advance b p s).service = s.service ∧ (advance b p s).configMemory = s.configMemory
      ∧ (advance b p s).freeCount = s.freeCount ∧ (advance b p s).pending = s.pending := by
  refine ⟨?_, ?_, ?_, ?_, ?_, ?_, ?_, ?_, ?_, ?_, ?_, ?_, ?_, ?_, ?_, ?_, ?_⟩ <;> (unfold advance; dsimp only; (repeat' split) <;> simp)

/-- `programDone` changes only sirens, log, service. -/
@[simp] theorem programDone_frame (b : Fin 16) (p : Fin 16) (s : State) :
    (programDone b p s).time = s.time ∧ (programDone b p s).startup = s.startup
      ∧ (programDone b p s).config = s.config ∧ (programDone b p s).inputs = s.inputs
      ∧ (programDone b p s).channels = s.channels ∧ (programDone b p s).flow = s.flow
      ∧ (programDone b p s).watch = s.watch ∧ (programDone b p s).valves = s.valves
      ∧ (programDone b p s).line = s.line ∧ (programDone b p s).peers = s.peers
      ∧ (programDone b p s).zones = s.zones ∧ (programDone b p s).sequencer = s.sequencer
      ∧ (programDone b p s).doors = s.doors ∧ (programDone b p s).configMemory = s.configMemory
      ∧ (programDone b p s).freeCount = s.freeCount ∧ (programDone b p s).pending = s.pending := by
  refine ⟨?_, ?_, ?_, ?_, ?_, ?_, ?_, ?_, ?_, ?_, ?_, ?_, ?_, ?_, ?_, ?_⟩ <;> (unfold programDone; dsimp only; (repeat' split) <;> simp)

/-- `programFailed` changes only sirens, log, service, freeCount. -/
@[simp] theorem programFailed_frame (b : Fin 16) (p : Fin 16) (s : State) :
    (programFailed b p s).time = s.time ∧ (programFailed b p s).startup = s.startup
      ∧ (programFailed b p s).config = s.config ∧ (programFailed b p s).inputs = s.inputs
      ∧ (programFailed b p s).channels = s.channels ∧ (programFailed b p s).flow = s.flow
      ∧ (programFailed b p s).watch = s.watch ∧ (programFailed b p s).valves = s.valves
      ∧ (programFailed b p s).line = s.line ∧ (programFailed b p s).peers = s.peers
      ∧ (programFailed b p s).zones = s.zones ∧ (programFailed b p s).sequencer = s.sequencer
      ∧ (programFailed b p s).doors = s.doors ∧ (programFailed b p s).configMemory = s.configMemory
      ∧ (programFailed b p s).pending = s.pending := by
  refine ⟨?_, ?_, ?_, ?_, ?_, ?_, ?_, ?_, ?_, ?_, ?_, ?_, ?_, ?_, ?_⟩ <;> simp [programFailed]

/-- `eraseDone` changes only log, service. -/
@[simp] theorem eraseDone_frame (b : Fin 16) (s : State) :
    (eraseDone b s).time = s.time ∧ (eraseDone b s).startup = s.startup ∧ (eraseDone b s).config = s.config
      ∧ (eraseDone b s).inputs = s.inputs ∧ (eraseDone b s).channels = s.channels
      ∧ (eraseDone b s).flow = s.flow ∧ (eraseDone b s).watch = s.watch ∧ (eraseDone b s).valves = s.valves
      ∧ (eraseDone b s).line = s.line ∧ (eraseDone b s).peers = s.peers ∧ (eraseDone b s).zones = s.zones
      ∧ (eraseDone b s).sequencer = s.sequencer ∧ (eraseDone b s).doors = s.doors
      ∧ (eraseDone b s).sirens = s.sirens ∧ (eraseDone b s).configMemory = s.configMemory
      ∧ (eraseDone b s).freeCount = s.freeCount ∧ (eraseDone b s).pending = s.pending := by
  refine ⟨?_, ?_, ?_, ?_, ?_, ?_, ?_, ?_, ?_, ?_, ?_, ?_, ?_, ?_, ?_, ?_, ?_⟩ <;> simp [eraseDone]

/-- `eraseFailed` changes only sirens, log, service, freeCount. -/
@[simp] theorem eraseFailed_frame (b : Fin 16) (s : State) :
    (eraseFailed b s).time = s.time ∧ (eraseFailed b s).startup = s.startup
      ∧ (eraseFailed b s).config = s.config ∧ (eraseFailed b s).inputs = s.inputs
      ∧ (eraseFailed b s).channels = s.channels ∧ (eraseFailed b s).flow = s.flow
      ∧ (eraseFailed b s).watch = s.watch ∧ (eraseFailed b s).valves = s.valves
      ∧ (eraseFailed b s).line = s.line ∧ (eraseFailed b s).peers = s.peers ∧ (eraseFailed b s).zones = s.zones
      ∧ (eraseFailed b s).sequencer = s.sequencer ∧ (eraseFailed b s).doors = s.doors
      ∧ (eraseFailed b s).configMemory = s.configMemory ∧ (eraseFailed b s).pending = s.pending := by
  refine ⟨?_, ?_, ?_, ?_, ?_, ?_, ?_, ?_, ?_, ?_, ?_, ?_, ?_, ?_, ?_⟩ <;> simp [eraseFailed]

/-- `failStart` changes only startup, line. -/
@[simp] theorem failStart_frame (reason : Failure) (s : State) :
    (failStart reason s).time = s.time ∧ (failStart reason s).config = s.config
      ∧ (failStart reason s).inputs = s.inputs ∧ (failStart reason s).channels = s.channels
      ∧ (failStart reason s).flow = s.flow ∧ (failStart reason s).watch = s.watch
      ∧ (failStart reason s).valves = s.valves ∧ (failStart reason s).peers = s.peers
      ∧ (failStart reason s).zones = s.zones ∧ (failStart reason s).sequencer = s.sequencer
      ∧ (failStart reason s).doors = s.doors ∧ (failStart reason s).sirens = s.sirens
      ∧ (failStart reason s).log = s.log ∧ (failStart reason s).service = s.service
      ∧ (failStart reason s).configMemory = s.configMemory ∧ (failStart reason s).freeCount = s.freeCount
      ∧ (failStart reason s).pending = s.pending := by
  refine ⟨?_, ?_, ?_, ?_, ?_, ?_, ?_, ?_, ?_, ?_, ?_, ?_, ?_, ?_, ?_, ?_, ?_⟩ <;> rfl

end Sys2Proof.Machine
end

