-- ==== Sys2Proof/Laws/Memory.lean ====
section
/-! SUPPORT. The laws of the sparse byte memory: a byte written reads back, every other byte stands, and every
operation keeps the canonical form. -/

namespace Sys2Proof.Machine

/-- The form below a first address: every listed address lies above it. -/
theorem Memory.wf_cons {k : Nat} {v : Byte} {t : Memory} :
    Memory.wf ((k, v) :: t) ↔ (∀ c ∈ t, k < c.1) ∧ v ≠ blankByte ∧ Memory.wf t := by
  simp only [Memory.wf, List.pairwise_cons, List.mem_cons, forall_eq_or_imp]
  tauto

/-- A memory whose addresses all lie above `a` reads as blank at `a`. -/
theorem Memory.read_below {m : Memory} {a : Nat} (h : ∀ c ∈ m, a < c.1) : Memory.read m a = blankByte := by
  induction m with
  | nil => rfl
  | cons c t ih =>
    obtain ⟨k, v⟩ := c
    have hk : a < k := h (k, v) (by simp)
    simp only [Memory.read, if_neg (Nat.ne_of_gt hk)]
    exact ih (fun c hc => h c (by simp [hc]))

/-- The addresses that a write leaves listed: those of the memory, and perhaps the one written. -/
theorem Memory.mem_write {a : Nat} {b : Byte} {m : Memory} {c : Host.Cell} (h : c ∈ Memory.write a b m) :
    c ∈ m ∨ c.1 = a := by
  induction m with
  | nil =>
    simp only [Memory.write] at h
    split at h <;> simp_all
  | cons d t ih =>
    obtain ⟨k, v⟩ := d
    simp only [Memory.write] at h
    repeat' split at h
    all_goals simp only [List.mem_cons] at h ⊢
    all_goals aesop

/-- A write keeps the canonical form. -/
theorem Memory.write_wf {a : Nat} {b : Byte} {m : Memory} (h : Memory.wf m) :
    Memory.wf (Memory.write a b m) := by
  induction m with
  | nil =>
    simp only [Memory.write]
    split <;> simp_all [Memory.wf]
  | cons d t ih =>
    obtain ⟨k, v⟩ := d
    rw [Memory.wf_cons] at h
    obtain ⟨hk, hv, ht⟩ := h
    simp only [Memory.write]
    repeat' split
    · exact Memory.wf_cons.2 ⟨hk, hv, ht⟩
    · rename_i hlt hb
      refine Memory.wf_cons.2 ⟨?_, hb, Memory.wf_cons.2 ⟨hk, hv, ht⟩⟩
      rintro c hc
      rcases List.mem_cons.1 hc with rfl | hc
      · exact hlt
      · exact Nat.lt_trans hlt (hk c hc)
    · exact ht
    · rename_i _ heq hb
      exact Memory.wf_cons.2 ⟨fun c hc => heq ▸ hk c hc, hb, ht⟩
    · rename_i hlt hne
      refine Memory.wf_cons.2 ⟨?_, hv, ih ht⟩
      intro c hc
      rcases Memory.mem_write hc with hc | hc
      · exact hk c hc
      · omega

/-- A byte written reads back, in canonical form. -/
theorem Memory.read_write_same {a : Nat} {b : Byte} {m : Memory} (h : Memory.wf m) :
    Memory.read (Memory.write a b m) a = b := by
  induction m with
  | nil =>
    simp only [Memory.write]
    split <;> simp_all [Memory.read]
  | cons d t ih =>
    obtain ⟨k, v⟩ := d
    rw [Memory.wf_cons] at h
    obtain ⟨hk, hv, ht⟩ := h
    simp only [Memory.write]
    repeat' split
    · rename_i hlt hb
      rw [hb]
      refine Memory.read_below (fun c hc => ?_)
      rcases List.mem_cons.1 hc with rfl | hc
      · exact hlt
      · exact Nat.lt_trans hlt (hk c hc)
    · simp [Memory.read]
    · rename_i _ heq hb
      rw [hb]
      exact Memory.read_below (fun c hc => heq ▸ hk c hc)
    · simp [Memory.read]
    · rename_i hlt hne
      simp only [Memory.read, if_neg (Ne.symm hne)]
      exact ih ht

/-- A write leaves every other byte as it was. -/
theorem Memory.read_write_other {a x : Nat} {b : Byte} {m : Memory} (hx : x ≠ a) :
    Memory.read (Memory.write a b m) x = Memory.read m x := by
  induction m with
  | nil =>
    simp only [Memory.write]
    split <;> simp [Memory.read, Ne.symm hx]
  | cons d t ih =>
    obtain ⟨k, v⟩ := d
    simp only [Memory.write]
    repeat' split
    · rfl
    · simp [Memory.read, Ne.symm hx]
    · rename_i _ heq _
      simp [Memory.read, ← heq, Ne.symm hx]
    · rename_i _ heq _
      simp [Memory.read, ← heq, Ne.symm hx]
    · simp only [Memory.read, ih]

/-- Writing bytes keeps the canonical form. -/
theorem Memory.writeBytes_wf {a : Nat} {bs : List Byte} {m : Memory} (h : Memory.wf m) :
    Memory.wf (Memory.writeBytes a bs m) := by
  induction bs generalizing a m with
  | nil => exact h
  | cons b t ih => exact ih (Memory.write_wf h)

/-- Writing some of the bytes keeps the canonical form. -/
theorem Memory.writeSome_wf {which : Nat → Bool} {i a : Nat} {bs : List Byte} {m : Memory}
    (h : Memory.wf m) : Memory.wf (Memory.writeSome which i a bs m) := by
  induction bs generalizing i a m with
  | nil => exact h
  | cons b t ih =>
    simp only [Memory.writeSome]
    split
    · exact ih (Memory.write_wf h)
    · exact ih h

/-- Clearing bytes keeps the canonical form. -/
theorem Memory.clearSome_wf {which : Nat → Bool} {a n : Nat} {m : Memory} (h : Memory.wf m) :
    Memory.wf (Memory.clearSome which a n m) :=
  ⟨h.1.filter _, fun c hc => h.2 c (List.mem_of_mem_filter hc)⟩

/-- Writing bytes leaves every byte outside them as it was. -/
theorem Memory.read_writeBytes_other {a x : Nat} {bs : List Byte} {m : Memory}
    (hx : x < a ∨ a + bs.length ≤ x) : Memory.read (Memory.writeBytes a bs m) x = Memory.read m x := by
  induction bs generalizing a m with
  | nil => rfl
  | cons b t ih =>
    simp only [List.length_cons] at hx
    simp only [Memory.writeBytes]
    rw [ih (by omega), Memory.read_write_other (by omega)]

/-- Bytes written read back, in canonical form. -/
theorem Memory.read_writeBytes_same {a i : Nat} {bs : List Byte} {m : Memory} (h : Memory.wf m)
    (hi : i < bs.length) : Memory.read (Memory.writeBytes a bs m) (a + i) = bs[i] := by
  induction bs generalizing a i m with
  | nil => simp at hi
  | cons b t ih =>
    simp only [Memory.writeBytes]
    cases i with
    | zero =>
      rw [Memory.read_writeBytes_other (by omega)]
      simpa using Memory.read_write_same h
    | succ j =>
      have := ih (a := a + 1) (i := j) (Memory.write_wf (a := a) (b := b) h) (by simpa using hi)
      simpa [show a + 1 + j = a + (j + 1) by omega] using this

/-- Clearing leaves every byte outside the cleared range as it was. -/
theorem Memory.read_clearSome_other {which : Nat → Bool} {a n x : Nat} {m : Memory}
    (hx : x < a ∨ a + n ≤ x) : Memory.read (Memory.clearSome which a n m) x = Memory.read m x := by
  induction m with
  | nil => rfl
  | cons c t ih =>
    obtain ⟨k, v⟩ := c
    simp only [Memory.clearSome, List.filter_cons] at ih ⊢
    by_cases hk : k = x
    · subst hk
      have : (decide (a ≤ k) && decide (k < a + n) && which (k - a)) = false := by
        rcases hx with hx | hx
        · simp [Nat.not_le.2 hx]
        · simp [Nat.not_lt.2 hx]
      simp [this, Memory.read]
    · split
      · simp only [Memory.read, if_neg hk]
        exact ih
      · simp only [Memory.read, if_neg hk]
        exact ih

end Sys2Proof.Machine
end

