-- ==== Sys2Proof/Laws/QuietCount.lean ====
section
/-! SUPPORT. What a quiet count that has been reached brings (R66, R80): nothing, the end of a partial frame, the end of
STUCK, or both. -/

namespace Sys2Proof.Machine

/-! ## What an error leaves of the line interface -/

/-- The line interface but for what a vote that is handed over can reach: the queue and the holding stage. -/
def Line.rest (l : Line) : Line := { l with queue := [], holding := none }

/-- R72: a vote that is handed over changes the queue and the holding stage alone. -/
theorem steady_lineRest : Steady (fun s => s.line.rest) := by
  refine ⟨fun _ _ _ _ => ?_, fun _ _ _ _ _ _ => ?_, fun _ _ => rfl, fun v s => ?_⟩
  · simp
  · simp
  · simp only [handVote, changeQueue, judgeGap, holdHead, Line.rest]
    (repeat' split) <;> rfl

/-- R81, R83: a report of DEGRADED reaches the line interface at most at the queue and the holding stage. -/
@[simp] theorem lineRest_reportDegraded (b : Bool) (s : State) : (reportDegraded b s).line.rest = s.line.rest := by
  have hc : ∀ (c : Conditions) (t : State), (reportConditions c t).line.rest = t.line.rest := fun c t => by
    unfold reportConditions
    split
    · exact recountOwn_keeps steady_lineRest _
    · rfl
  unfold reportDegraded
  dsimp only
  split
  · rw [recountAllZones_keeps steady_lineRest]; simp [hc]
  · simp [hc]

/-- R67, R81: what an error leaves of the line interface: the tally, the window and DEGRADED follow it, and the queue and
the holding stage where DEGRADED changes the vote. -/
theorem lineRest_lineError (s : State) :
    (lineError s).line.rest
      = { (countError s.time s.line).rest with
          degraded := s.line.degraded || errorsTooMany s.time (joinErrors s.time s.line.errors) } := by
  unfold lineError
  dsimp only
  split
  · rename_i h
    rw [lineRest_reportDegraded]
    simp_all [postLine, Line.rest, countError]
  · rename_i h
    cases hd : s.line.degraded <;> simp_all [Line.rest, countError]

/-- An error leaves the line state, the quiet count, the receiver and the shift stage. -/
@[simp] theorem lineError_keeps (s : State) :
    (lineError s).line.state = s.line.state ∧ (lineError s).line.quiet = s.line.quiet
      ∧ (lineError s).line.quietPart = s.line.quietPart ∧ (lineError s).line.activity = s.line.activity
      ∧ (lineError s).line.receiver = s.line.receiver ∧ (lineError s).line.shift = s.line.shift
      ∧ (lineError s).line.stuckWatch = s.line.stuckWatch := by
  have h := lineRest_lineError s
  simp only [Line.rest, countError, Line.mk.injEq] at h
  simp_all

/-- R66: a partial frame that is broken off leaves the line state and the shift stage, and the receiver hunts. -/
@[simp] theorem breakOff_keeps (s : State) :
    (breakOff s).line.state = s.line.state ∧ (breakOff s).line.quiet = max 12 s.line.quiet
      ∧ (breakOff s).line.activity = .mark ∧ (breakOff s).line.receiver = .hunting
      ∧ (breakOff s).line.shift = s.line.shift := by
  simp [breakOff, setQuiet]

/-- R66: breaking off leaves the line state. -/
@[simp] theorem state_breakOffAt (quiet : Nat) (s : State) : (breakOffAt quiet s).line.state = s.line.state := by
  unfold breakOffAt
  split <;> simp

/-- R66: from 12 on the receiver hunts. -/
theorem receiver_breakOffAt {quiet : Nat} (h : 12 ≤ quiet) (s : State) :
    (breakOffAt quiet s).line.receiver = .hunting := by
  unfold breakOffAt
  split
  · simp
  · rename_i hn; simpa [h] using hn

/-! ## What a quiet count that has been reached brings -/

/-- R66: there is nothing to break off below 12, or while the receiver hunts. -/
theorem breakOffAt_hunting {quiet : Nat} {s : State} (h : quiet < 12 ∨ s.line.receiver = .hunting) :
    breakOffAt quiet s = s := by
  unfold breakOffAt
  rw [if_neg]
  rintro ⟨hq, hr⟩
  exact h.elim (fun hlt => absurd hq (by omega)) hr

/-- R66: a partial frame is broken off at 12. -/
theorem breakOffAt_taking {quiet : Nat} {s : State} (hq : 12 ≤ quiet) (hr : s.line.receiver ≠ .hunting) :
    breakOffAt quiet s = breakOff s := if_pos ⟨hq, hr⟩

/-- R80: the line interface where STUCK has been left. -/
@[simp] theorem line_leaveStuck (s : State) :
    (leaveStuck s).line
      = { setQuiet (max 142 s.line.quiet) s.line with
          state := if s.line.state = .stuck then .listening else s.line.state } := by
  unfold leaveStuck
  split <;> simp_all [setQuiet, postLine]

/-- R79: out of STUCK, a quiet count of 142 only discards the stuck watch. -/
theorem leaveStuck_of_not_stuck {s : State} (h : s.line.state ≠ .stuck) :
    leaveStuck s = { s with line := setQuiet (max 142 s.line.quiet) s.line } := by
  simp [leaveStuck, h]

/-- R66, R80: what a quiet count that has been reached brings: the end of a partial frame, and from 142 on the end of
STUCK. -/
theorem reachQuiet_cases (quiet : Nat) (s : State) :
    reachQuiet quiet s = breakOffAt quiet s ∧ (quiet < 142 ∨ s.line.state ≠ .stuck)
      ∨ reachQuiet quiet s = leaveStuck (breakOffAt quiet s) ∧ 142 ≤ quiet ∧ s.line.state = .stuck := by
  unfold reachQuiet
  dsimp only
  rw [state_breakOffAt]
  by_cases h : 142 ≤ quiet ∧ s.line.state = .stuck
  · exact .inr ⟨if_pos h, h⟩
  · exact .inl ⟨if_neg h, (not_and_or.mp h).imp_left Nat.lt_of_not_le⟩

/-- R80: no quiet count of 142 leaves the line STUCK. -/
theorem reachQuiet_not_stuck {quiet : Nat} (s : State) (h : 142 ≤ quiet) : (reachQuiet quiet s).line.state ≠ .stuck := by
  obtain ⟨e, hs⟩ | ⟨e, -, hs⟩ := reachQuiet_cases quiet s
  · simpa [e] using hs.resolve_left (by omega)
  · simp [e, hs]

/-- R66: no quiet count of 12 leaves a partial frame. -/
theorem reachQuiet_hunting {quiet : Nat} (s : State) (h : 12 ≤ quiet) : (reachQuiet quiet s).line.receiver = .hunting := by
  obtain ⟨e, -⟩ | ⟨e, -, -⟩ := reachQuiet_cases quiet s <;> simp [e, setQuiet, receiver_breakOffAt h s]

/-- A quiet count that neither breaks a frame off nor ends STUCK brings nothing. -/
theorem reachQuiet_eq_self {quiet : Nat} {s : State} (hr : quiet < 12 ∨ s.line.receiver = .hunting)
    (hs : quiet < 142 ∨ s.line.state ≠ .stuck) : reachQuiet quiet s = s := by
  obtain ⟨e, -⟩ | ⟨-, hq, hk⟩ := reachQuiet_cases quiet s
  · rw [e, breakOffAt_hunting hr]
  · exact absurd hk (hs.resolve_left (by omega))

/-- Where the quiet count has brought nothing, the settled node is the node. -/
theorem settled_eq_self {s : State} (h : QuietSettled s) : s.settled = s := by
  unfold State.settled Line.counting
  split
  · rename_i hc
    have hm : s.line.activity = .mark := by simp_all
    exact reachQuiet_eq_self (h hm).1 (h hm).2
  · rfl

/-- R66, R80: a quiet count of 12 or more that runs is kept where what it has brought is taken. -/
theorem quiet_reachQuiet (s : State) : (reachQuiet s.line.quiet s).line.quiet = s.line.quiet := by
  have hb : (breakOffAt s.line.quiet s).line.quiet = s.line.quiet := by
    unfold breakOffAt
    split
    · rename_i h; simp [h.1]
    · rfl
  obtain ⟨e, -⟩ | ⟨e, hq, -⟩ := reachQuiet_cases s.line.quiet s
  · rw [e, hb]
  · simp [e, hb, hq, setQuiet]

/-- R66, R80: once what the quiet count has brought is taken, nothing of it is left. -/
theorem settled_quietSettled {s : State} (h : s.handedOver = true) : QuietSettled s.settled := by
  intro _
  unfold State.settled at *
  split
  · rw [quiet_reachQuiet]
    exact ⟨(Nat.lt_or_ge _ 12).imp_right (reachQuiet_hunting s), (Nat.lt_or_ge _ 142).imp_right (reachQuiet_not_stuck s)⟩
  · simp_all [Line.counting]

end Sys2Proof.Machine
end

