-- ==== Sys2Proof/Laws/State.lean ====
section
/-! SUPPORT. The small lemmas of the containers and of the named updates of the state, each true by computation, so
that no later proof unfolds one. -/

namespace Sys2Proof

/-- A member set reads back. -/
@[simp] theorem Pair.get_set_same {α : Type} (p : Pair α) (i : Fin 2) (x : α) : (p.set i x).get i = x := by
  unfold Pair.set Pair.get; split <;> simp [*]

/-- Setting a member leaves the other. -/
theorem Pair.get_set_other {α : Type} (p : Pair α) {i j : Fin 2} (x : α) (h : j ≠ i) :
    (p.set i x).get j = p.get j := by
  unfold Pair.set Pair.get
  split <;> split <;> first | rfl | omega

/-- A channel set reads back. -/
@[simp] theorem Quad.get_set_same {α : Type} (q : Quad α) (i : Fin 4) (x : α) : (q.set i x).get i = x := by
  unfold Quad.set Quad.get; (repeat' split) <;> simp_all

/-- Setting a channel leaves the others. -/
theorem Quad.get_set_other {α : Type} (q : Quad α) {i j : Fin 4} (x : α) (h : j ≠ i) :
    (q.set i x).get j = q.get j := by
  unfold Quad.set Quad.get
  repeat' split
  all_goals first | rfl | (exfalso; omega)

end Sys2Proof

namespace Sys2Proof.Machine

/-! ## Contact levels -/

/-- A level set reads back. -/
@[simp] theorem level_setLevel_same (i : Input) (b : Bool) (s : State) : (setLevel i b s).level i = b := by
  simp [State.level, setLevel]

/-- The input numbers are distinct. -/
theorem inputIndex_injective {i j : Input} (h : inputIndex i = inputIndex j) : i = j := by
  cases i <;> cases j <;> first | rfl | (simp [inputIndex] at h)

/-- Setting one level leaves every other. -/
theorem level_setLevel_other {i j : Input} (b : Bool) (s : State) (h : j ≠ i) :
    (setLevel i b s).level j = s.level j := by
  have hne : (inputIndex i).val ≠ (inputIndex j).val :=
    fun e => h (inputIndex_injective (Fin.ext e)).symm
  simp [State.level, setLevel, Vector.getElem_set_ne, hne]

/-- The raw level follows a level set. -/
@[simp] theorem rawLevel_setLevel_same (i : Input) (b : Bool) (s : State) :
    (setLevel i b s).rawLevel i = b := by
  simp [State.rawLevel, setLevel]

/-! ## Named updates -/

/-- The valve set. -/
@[simp] theorem valves_setValve (v : Fin 2) (x : Valve) (s : State) :
    (setValve v x s).valves = { s.valves with valves := s.valves.valves.set v x } := rfl

/-- The siren set. -/
@[simp] theorem sirens_setSiren (i : Fin 2) (x : Siren) (s : State) :
    (setSiren i x s).sirens = { s.sirens with sirens := s.sirens.sirens.set i x } := rfl

/-- The key state set. -/
@[simp] theorem key_setKey (k : KeyState) (d : Option Instant) (s : State) :
    (setKey k d s).sequencer = { s.sequencer with key := k, unlockDeadline := d } := rfl

/-- The sequencer state set. -/
@[simp] theorem state_setSequencer (st : SeqState) (s : State) : (setSequencer st s).sequencer.state = st := rfl

/-- The outputs that a sequencer state sets. -/
@[simp] theorem outputs_setSequencer (st : SeqState) (s : State) :
    (setSequencer st s).sequencer.outputs = seqOutputs s.cfg.roles st s.sequencer.feedHold := rfl

/-- The FEED_HOLD flag set. -/
@[simp] theorem feedHold_setFeedHold (b : Bool) (s : State) : (setFeedHold b s).sequencer.feedHold = b := rfl

/-- The state stands when FEED_HOLD is set. -/
@[simp] theorem state_setFeedHold (b : Bool) (s : State) :
    (setFeedHold b s).sequencer.state = s.sequencer.state := rfl

/-- The ring stands when its deadline is set. -/
@[simp] theorem ring_setRingDeadline (s : State) : (setRingDeadline s).zones.ring = s.zones.ring := rfl

/-- The ring deadline set. -/
@[simp] theorem ringDeadline_setRingDeadline (s : State) :
    (setRingDeadline s).zones.ringDeadline = nextRingDeadline s := rfl

/-- A zone update maps the records of that zone. -/
@[simp] theorem zones_updateZone (z : Nat) (f : Zone → Zone) (s : State) :
    (updateZone z f s).zones.zones = s.zones.zones.map (fun r => if r.zone = z then f r else r) := rfl

/-- The quiet count set. -/
@[simp] theorem quiet_setQuiet (q : Nat) (l : Line) : (setQuiet q l).quiet = q := rfl

/-- The microseconds of the begun bit time when the quiet count is set. -/
@[simp] theorem quietPart_setQuiet (q : Nat) (l : Line) :
    (setQuiet q l).quietPart = if l.quiet < q then 0 else l.quietPart := rfl

/-- The receiver stands when the quiet count is set. -/
@[simp] theorem receiver_setQuiet (q : Nat) (l : Line) : (setQuiet q l).receiver = l.receiver := rfl

/-- The outbound queue stands when the quiet count is set. -/
@[simp] theorem queue_setQuiet (q : Nat) (l : Line) : (setQuiet q l).queue = l.queue := rfl

/-- The quiet count begins anew when a byte is over. -/
@[simp] theorem quiet_byteOver (rests : Bool) (l : Line) :
    (byteOver rests l).quiet = 0 ∧ (byteOver rests l).quietPart = 0 := ⟨rfl, rfl⟩

/-- The receiver stands when a byte is over. -/
@[simp] theorem receiver_byteOver (rests : Bool) (l : Line) : (byteOver rests l).receiver = l.receiver := rfl

/-- The quiet count waits at 0 after a start bit. -/
@[simp] theorem quiet_seeStartBit (now : Instant) (rate q : Nat) (a : Activity) (l : Line) :
    (seeStartBit now rate q a l).quiet = 0 ∧ (seeStartBit now rate q a l).quietPart = 0
      ∧ (seeStartBit now rate q a l).activity = a := ⟨rfl, rfl, rfl⟩

/-- The line but its receiver stands when own bytes are read back. -/
@[simp] theorem readOwn_frame (now : Instant) (rate : Nat) (l : Line) :
    (readOwn now rate l).queue = l.queue ∧ (readOwn now rate l).holding = l.holding
      ∧ (readOwn now rate l).shift = l.shift ∧ (readOwn now rate l).activity = l.activity
      ∧ (readOwn now rate l).quiet = l.quiet ∧ (readOwn now rate l).stuckWatch = l.stuckWatch := by
  unfold readOwn; split <;> simp

/-! ## Members of the fault summary -/

/-- A member put reads back. -/
@[simp] theorem FaultSummary.has_put_same (f : FaultSummary) (m : FaultMember) (b : Bool) :
    (f.put m b).has m = b := by cases m <;> rfl

/-- Putting a member leaves every other. -/
theorem FaultSummary.has_put_other (f : FaultSummary) {m n : FaultMember} (b : Bool) (h : n ≠ m) :
    (f.put m b).has n = f.has n := by
  cases m <;> cases n <;> first | rfl | exact absurd rfl h

/-- The summary is empty exactly where no member is present. -/
theorem FaultSummary.isEmpty_iff (f : FaultSummary) : f.isEmpty = true ↔ ∀ m, f.has m = false := by
  constructor
  · intro h m
    cases m <;> simp_all [FaultSummary.isEmpty, FaultSummary.has]
  · intro h
    have a := h .channelFault; have b := h .flowLost; have c := h .noFlow; have d := h .leak
    have e := h .stepFault; have g := h .doorJammed; have i := h .degraded; have j := h .listenOnly
    have k := h .stuck; have l := h .logFull; have n := h .logDegraded
    simp only [FaultSummary.has] at a b c d e g i j k l n
    simp [FaultSummary.isEmpty, a, b, c, d, e, g, i, j, k, l, n]

end Sys2Proof.Machine
end

