-- ==== Sys2Proof/Tests/Slice0.lean ====
section
/-! SUPPORT. The tests of the model's own work: what is ill formed, the manual's worked examples, and, for every
statement that has hypotheses, one state and operands that meet them, clause by clause, at the values where the
clauses meet. Every expected value is the manual's. -/

-- One kernel evaluation at a time: each needs a stack of its own.
set_option Elab.async false

namespace Sys2Proof.Tests
open Sys2Proof.Machine

/-! ## Small states -/

/-- A channel with the values of section 1.10.1. -/
def channelSet : ChannelConfig := ⟨true, 40, 10, 2, 10, 300, 900, 10⟩

/-- Node 9's configuration set of chapter 12. -/
def configSet : ConfigSet :=
  { homeZone := 6, tracked := [0, 0, 0, 0, 0, 0, 0], fireQuorum := 2, presencePeriod := 500
    sampleInterval := 500, debounce := 20, overflowMode := .keepOldest, logPeers := false, kv := 206, vMin := 80
    uncertainty := 12, mergeGap := 100, waterTrip := 200, waterHysteresis := 20, confirmTime := 20, window := 10
    nHalt := 4, nFire := 2, clearTime := 60, unlockTime := 5, roles := ⟨true, true, true, true⟩, tFeed := 5
    tGate := 1000, runOn := 20, tRundown := 60, tDamper := 8, tSpinup := 15, resound := 2
    channels := ⟨channelSet, channelSet, channelSet, channelSet⟩
    valves := ⟨⟨80, 1500, 600, 10⟩, ⟨80, 1500, 600, 10⟩⟩
    watch := List.replicate 8 ⟨0, 0, 1, 0, 0⟩
    doors := ⟨⟨6, 0, true, true, 15, 20⟩, ⟨0, 0, false, false, 0, 2⟩⟩
    sirens := ⟨⟨0x0040, .hold⟩, ⟨0, .hold⟩⟩ }

/-- The record of zone `z` with nothing counted. -/
def zoneAt (z : Nat) : Zone := ⟨z, 0, 0, 0, 1, 1, .clear, .clear, .clear, none, none, false⟩

/-- Node 9 of chapter 12 in operation, its sequencer HALTED, its door 0 HELD, its log store IDLE at block 5. -/
def node : State :=
  { State.reset with
    time := 100000
    startup :=
      { Startup.reset .power with
        state := .operating, station := some 9, rate := some 2, version := some 1, warnings := some 0 }
    config := some configSet
    valves := { Valves.reset with comparator := some .normal }
    line := { Line.reset with presenceDeadline := some 100500 }
    zones := { ZoneUnit.reset with zones := [zoneAt 6] }
    doors := ⟨{ Door.reset with state := .held, holder := true, views := [(6, .clear)] }, Door.reset⟩
    log := { State.reset.log with store := { LogStore.reset with state := .idle, position := some (5, 3) } } }

/-- Node 9 at a stage of start-up. -/
def starting (stage : Stage) : State :=
  { State.reset with
    startup :=
      { Startup.reset .power with
        state := .starting, stage := some stage, station := some 9, rate := some 2, warnings := some 0 } }

/-- Node 9 with this channel 1. -/
def withChannel (x : Channel) : State := { node with channels := node.channels.set 1 x }

/-- A channel of baseline 3200, so with trip level 90 and re-arm level 80. -/
def channelIn (st : ChannelState) : Channel :=
  { Channel.reset with
    state := st, baseline := some 3200, run := some 1, peak := some 95, glowDeadline := some 100000 }

/-- Node 9 with this flow record. -/
def withFlow (x : Flow) : State := { node with flow := x }

/-- Node 9 with this valve 0. -/
def withValve (x : Valve) : State := { node with valves := { node.valves with valves := ⟨x, Valve.reset⟩ } }

/-- Node 9 with this line interface. -/
def withLine (x : Line) : State := { node with line := x }

/-- Node 9 with this sequencer. -/
def withSequencer (x : Sequencer) : State := { node with sequencer := x }

/-- The sequencer in a step whose timer expires now. -/
def stepping (st : SeqState) : Sequencer :=
  { Sequencer.reset with state := st, stepTimer := some 100000, stepEntered := some 99000 }

/-- Node 9 with this door 0. -/
def withDoor (x : Door) : State := { node with doors := ⟨x, Door.reset⟩ }

/-- Node 9 with this siren 0. -/
def withSiren (x : Siren) : State := { node with sirens := { node.sirens with sirens := ⟨x, Siren.reset⟩ } }

/-- Node 9 with this log store. -/
def withStore (x : LogStore) : State := { node with log := { node.log with store := x } }

/-- A block table whose block 5 stands as given, with sequence number 41. -/
def tableWith (isProtected retired : Bool) : Vector BlockEntry 16 :=
  (Vector.replicate 16 BlockEntry.blank).set 5 ⟨some 41, isProtected, retired⟩

/-- Node 9 with K1 turned, its unlock deadline expiring now. -/
def keyTurned : State := withSequencer { Sequencer.reset with key := .keyTurned, unlockDeadline := some 100000 }

/-- Node 9 programming one record of context HALT into a page of block 5. -/
def programmingAt (page : Fin 16) : State :=
  withStore
    { LogStore.reset with
      state := .programming, position := some (5, page), buffer := [⟨100000, .step, 0, .halt, 9, 0, 0, 0⟩] }

/-- Node 9 with this service port. -/
def withPort (x : Port) : State := { node with service := { Service.reset with port := x } }

/-- A record of the kind STEP in this context. -/
def recordIn (context : Level) : Record := ⟨100000, .step, 0, context, 9, 0, 0, 0⟩

/-- Node 9 with station 4 LIVE in zone 6 and this watch list, seeing a frame that began at 71,205. -/
def hearing (watch : List WatchEntry) : State :=
  { node with
    time := 71206, watch := watch, flow := ⟨List.replicate 8 1250, 321, .ok, none⟩
    line := { node.line with receiver := .taking 71205 [] }
    peers := node.peers.set 4
      { Peer.reset with state := .live, homeZone := some 6, silence := some 80000 } }

/-- The watch entry of chapter 12: origin 4, channels 0 and 1, 250 dm, velocity own, valve 0. -/
def watchOfFour : WatchEntry := ⟨4, 3, 250, 0, 1, false⟩

/-- A predicted window. -/
def windowAt (openAt closeAt : Instant) (begun : Bool) : Window := ⟨openAt, closeAt, .predicted, 1, 4, false, begun⟩

/-- An image of version 1 for home zone 6, every other byte blank, with its CRC. -/
def goodImage : Memory := [(0, 1), (1, 6), (510, 0x71), (511, 0x67)]

/-- The state after a command; every command answers one. -/
def after (c : Instr) (s : State) : State :=
  match exec c s with
  | .next t => t
  | .fault _ => s
  | .refused _ => s

/-- FRAME_BROKEN_OFF answers the state after it. -/
theorem brokenOff_after (s : State) : exec .frameBrokenOff s = .next (after .frameBrokenOff s) := rfl

/-- Whether a step answers a next state. -/
def answers (o : Host.Outcome State Fault Refusal) : Bool :=
  match o with
  | .next _ => true
  | .fault _ => false
  | .refused _ => false

/-! ## What is ill formed -/

theorem test_source_zero_is_ill_formed : WellFormed (.voteReceived 0 1 0 0) = false := by decide
theorem test_source_above_31_is_ill_formed : WellFormed (.detectReceived 32 0 1 0 0 0) = false := by decide
theorem test_presence_source_is_checked : WellFormed (.presenceReceived 0 1 0 0 0 0 0) = false := by decide
theorem test_restart_source_is_checked : WellFormed (.restartReceived 255 1) = false := by decide
theorem test_collision_position_is_checked :
    WellFormed (.collision ⟨0, 0, .mark⟩) = false ∧ WellFormed (.collision ⟨14, 0, .mark⟩) = false
      ∧ WellFormed (.collision ⟨13, 0, .mark⟩) = true := by
  decide
theorem test_no_presence_entry_of_station_zero : WellFormed (.silenceDeadlineExpiry 0) = false := by decide
theorem test_zone_number_is_checked :
    WellFormed (.firePendingExpiry 0) = false ∧ WellFormed (.firePendingExpiry 16) = false := by decide
theorem test_area_write_has_an_offset : WellFormed (.serviceAreaWrite []) = false := by decide

/-! ## The manual's worked examples -/

/-- Section 1.2.1: three samples from baseline 3200 with k = 10. -/
theorem test_baseline_truncates_toward_zero :
    updateBaseline 10 52 3200 = 3200 ∧ updateBaseline 10 70 3200 = 3201 ∧ updateBaseline 10 30 3200 = 3199 := by
  decide +kernel

/-- Section 1.10.1, samples 2 to 4: 95 begins the pulse, 85 lies in the band, 140 qualifies. -/
theorem test_spark_qualifies_at_the_second_sample_at_trip :
    let a := after (.sample 1 95) (withChannel { Channel.reset with state := .armed, baseline := some 3200 })
    let b := after (.sample 1 85) a
    let c := after (.sample 1 140) b
    (a.channels.get 1).state = .pulse ∧ (a.channels.get 1).baseline = some 3202
      ∧ (b.channels.get 1).run = some 1 ∧ (c.channels.get 1).state = .qualified
      ∧ (c.channels.get 1).peak = some 140 ∧ (c.channels.get 1).baseline = some 3202 := by
  decide +kernel

/-- Section 2.6.1: the good sample of 720 after LOST gives 241 dm/s, status OK. -/
theorem test_first_good_sample_after_lost :
    let t := after (.pressureSample 720 false) (withFlow ⟨[800], 257, .lost, none⟩)
    t.flow.history = [720] ∧ t.flow.velocity = 241 ∧ t.flow.status = .ok := by
  decide +kernel

/-- Section 12.1: at 321 dm/s over 250 dm the transit takes 778 ms, between 684 and 872. -/
theorem test_transit_of_section_12_1 :
    transitTime 250 321 = 778 ∧ earlyBound 778 12 = 684 ∧ lateBound 778 12 = 872 := by decide +kernel

/-- Section 12.1: the DETECT of station 4 with age 5 and span 3 gives valve 0 the window 71,804 to 73,575. -/
theorem test_detect_of_section_12_1 :
    ((after (.detectReceived 4 1 2 5 3 310) (hearing [watchOfFour])).valves.valves.get 0).windows
      = [⟨71804, 73575, .predicted, 1, 4, false, false⟩] := by
  decide +kernel

/-- Section 3.9.1: the window 13,150 to 14,050 merges with windows 4 and 5. -/
theorem test_window_merges_with_two :
    (addToSchedule 100 ⟨13150, 14050, .predicted, 1, 7, false, false⟩
        [⟨12000, 12300, .predicted, 1, 3, false, false⟩, ⟨13000, 13200, .predicted, 1, 3, false, false⟩,
          ⟨14000, 14600, .predicted, 1, 3, false, false⟩, ⟨15000, 15300, .predicted, 1, 3, false, false⟩]).2
      = [⟨12000, 12300, .predicted, 1, 3, false, false⟩, ⟨13000, 14600, .predicted, 3, 3, false, false⟩,
        ⟨15000, 15300, .predicted, 1, 3, false, false⟩] := by
  decide +kernel

/-- Section 3.9.2: FS0 is inactive when the flow-confirm deadline of 100,916 expires: NO_FLOW. -/
theorem test_valve_without_water :
    let t := after (.flowConfirmExpiry 0)
      { withValve { Valve.reset with opened := true, flowConfirm := some 100916 } with time := 100916 }
    (t.valves.valves.get 0).noFlow = true ∧ t.zones.conditions.noFlow = true := by
  decide +kernel

/-- Appendix A.1: the RESTART of node 9 for zone 6 ends in 0xD6 0x05. -/
theorem test_restart_frame_bytes : frameBytes 9 0 (.restart 6) = [0x5B, 0x23, 9, 0, 6, 0xD6, 0x05] := by
  decide +kernel

/-- Appendix A.1: the last byte, 0x05, of node 9's RESTART reaches node 3, which takes the frame whole. -/
theorem test_last_byte_takes_the_frame_whole :
    let s := { node with
      startup := { node.startup with station := some 3 }
      line := { Line.reset with
        receiver := .taking 99999 [0x5B, 0x23, 9, 0, 6, 0xD6], activity := .byte 0x05 .mark } }
    let t := endByte s
    (t.peers[9]).state = .live ∧ t.line.passedTally = 1 ∧ t.line.receiver = .hunting
      ∧ t.line.activity = .mark ∧ t.line.quiet = 0 := by
  decide +kernel

/-- R66: a start bit after 12 quiet bit times begins a frame, and one after 11 does not. -/
theorem test_start_bit_begins_a_frame :
    (after (.foreignStartBit ⟨12, 0x5B, .followed⟩) node).line.receiver = .taking 100000 []
      ∧ (after (.foreignStartBit ⟨11, 0x5B, .followed⟩) node).line.receiver = .hunting := by
  decide +kernel

/-- R80: in STUCK a start bit at a quiet count of 142 finds the line LISTENING, the exit posted with the error tally as
value2 and STUCK withdrawn, and begins a frame; one at 141 finds it STUCK. -/
theorem test_start_bit_after_142_ends_stuck :
    let s := { withLine { Line.reset with state := .stuck, errorTally := 7 } with
      sirens := { node.sirens with summary := { node.sirens.summary with stuck := true } } }
    let t := after (.foreignStartBit ⟨142, 0x5B, .followed⟩) s
    t.line.state = .listening ∧ t.sirens.summary.stuck = false ∧ t.line.receiver = .taking 100000 []
      ∧ t.log.store.buffer.head?.map (fun r => (r.kind, r.value1, r.value2)) = some (.line, 3, 7)
      ∧ (after (.foreignStartBit ⟨141, 0x5B, .followed⟩) s).line.state = .stuck := by
  decide +kernel

/-- R80: the 250 quiet bit times of a millisecond at 250 kbit/s end STUCK before a start bit or a frame that follows. -/
theorem test_quiet_that_has_run_ends_stuck :
    let s := passMillisecond (withLine { Line.reset with state := .stuck })
    let t := after (.voteReceived 4 6 2 1) s
    s.line.state = .stuck ∧ s.line.quiet = 250
      ∧ (after (.foreignStartBit ⟨12, 0x5B, .followed⟩) s).line.state = .listening
      ∧ t.line.state = .listening ∧ t.line.passedTally = 1 ∧ t.line.quiet = 0 := by
  decide +kernel

/-- R66: a framing error in a byte that is dropped counts no error. -/
theorem test_dropped_byte_counts_no_error :
    (after .byteError (after (.foreignStartBit ⟨11, 0x5B, .space⟩) node)).line.errorTally = 0
      ∧ (after .byteError (after (.foreignStartBit ⟨12, 0x5B, .space⟩) node)).line.errorTally = 1 := by
  decide +kernel

/-- Section 5.8.1: the detection of 58,000 is the fourth within W: HALT, SPARKS, latched. -/
theorem test_fourth_detection_votes_halt :
    let s := { withChannel (channelIn .pulse) with
      time := 58000, zones := { node.zones with ring := [50000, 51000, 53500], own := ⟨.watch, .sparks⟩ } }
    let t := after (.sample 1 140) s
    t.zones.own = ⟨.halt, .sparks⟩ ∧ t.zones.latched = some ⟨.halt, .sparks⟩
      ∧ t.zones.ring = [50000, 51000, 53500, 58000] ∧ t.zones.ringDeadline = some 60000 := by
  decide +kernel

/-- Section 12.2: station 4's VOTE HALT at 76,402 stops the feed: timer 81,402, FEED off, ABORT on, FAN and DMO on. -/
theorem test_vote_of_four_stops_the_feed :
    let s := { hearing [] with
      time := 76402
      sequencer :=
        { Sequencer.reset with state := .running, haltedCause := none, outputs := ⟨true, true, true, true⟩ } }
    let t := after (.voteReceived 4 6 2 1) s
    t.sequencer.state = .feedStopping ∧ t.sequencer.stepTimer = some 81402
      ∧ t.sequencer.outputs = ⟨false, true, true, true⟩ ∧ t.homeView = .halt := by
  decide +kernel

/-- Section 12.2: DMC active at 127,600 ends the shutdown: HALTED, SHUTDOWN, and halted_at is set. -/
theorem test_damper_closed_ends_the_shutdown :
    let t := after (.confirmInputChange .dmc true) { withSequencer (stepping .damperClosing) with time := 127600 }
    t.sequencer.state = .halted ∧ t.sequencer.haltedCause = some .shutdown ∧ t.zones.haltedAt = some 127600 := by
  decide +kernel

/-- Section 12.3.1: K1 turned, K2 pressed at 200,000: DAMPER_OPENING, timer 208,000, DMO on. -/
theorem test_restart_of_section_12_3_1 :
    let s := { withSequencer { Sequencer.reset with key := .keyTurned, unlockDeadline := some 204000 } with
      time := 200000, zones := { node.zones with zones := [{ zoneAt 6 with view := .halt, latched := .halt }] } }
    let t := after .k2Press s
    t.sequencer.state = .damperOpening ∧ t.sequencer.stepTimer = some 208000
      ∧ t.sequencer.outputs = ⟨false, false, false, true⟩ ∧ t.homeView = .clear := by
  decide +kernel

/-- Section 9.7: a FIRE record protects block 5 when its program completes, and the search erases block 6. -/
theorem test_fire_record_protects_its_block :
    let s := withStore
      { LogStore.reset with
        state := .programming, table := tableWith false false, position := some (5, 3)
        buffer := [recordIn .fire], nextSequence := 42 }
    let t := after (.pageProgramComplete true) s
    t.log.store.table[5].isProtected = true ∧ t.log.store.state = .erasing
      ∧ t.log.store.position.map Prod.fst = some 6 := by
  decide +kernel

/-- R85, R181: a stuck watch that expires in STARTUP_FAILED leaves the queue empty and the cut-off frame undriven. -/
theorem test_failed_start_takes_no_frame_back :
    let s := { starting .selfTest with
      startup := { Startup.reset .power with state := .failed, station := some 9, rate := some 2 }
      line :=
        { Line.reset with
          shift := some ⟨.restart 6, 0, []⟩, activity := .own, stuckWatch := some 0 } }
    let t := after .stuckWatchExpiry s
    t.line.state = .stuck ∧ t.line.queue = [] ∧ t.line.shift = none := by
  decide +kernel

/-- R64, R65: at rate 0 a millisecond has 62.5 bit times: one counts 62 with 8 of 16 microseconds over, two count 125. -/
theorem test_quiet_count_of_two_milliseconds :
    let s := { node with startup := { node.startup with rate := some 0 } }
    let t := passMillisecond s
    t.line.quiet = 62 ∧ t.line.quietPart = 8 ∧ (passMillisecond t).line.quiet = 125
      ∧ (passMillisecond t).line.quietPart = 0 := by
  decide +kernel

/-- R64, R66, R79: 1 ms after its drive at rate 0, a RESTART stops in its seventh byte, whose end is no error and sends
nothing (log 45). -/
theorem test_stopped_frame_is_read_back :
    let s := { node with
      startup := { node.startup with rate := some 0 }
      line :=
        { Line.reset with
          shift := some ⟨.restart 6, 99999, frameBytes 9 99999 (.restart 6)⟩, activity := .own
          receiver := .taking 99999 [], stuckWatch := some 100000 } }
    let t := after .stuckWatchExpiry s
    t.line.receiver = .taking 99999 [0x5B, 0x23, 9, 0, 6, 0xD6] ∧ t.line.activity = .ownLast 0x05
      ∧ t.line.queue = [.restart 6] ∧ (endByte t).line.receiver = .hunting
      ∧ (endByte t).line.errorTally = 0 ∧ (endByte t).line.sentTally = 0 := by
  decide +kernel

/-- R144, R193: a HELD door's state, holder level, fire standing and demand, DC level, CC level and absent deadline. -/
theorem test_door_reply_gives_each_level_a_byte :
    replyDoor 0 (setLevel .cc0 true node) = [1, 1, 0, 0, 1, 0xFF, 0xFF] := by
  decide +kernel

/-- Section 9.7: block 6, erased, takes sequence number 42, and the next is 43. -/
theorem test_erased_block_takes_the_next_sequence :
    let s := withStore
      { LogStore.reset with state := .erasing, position := some (6, 0), nextSequence := 42 }
    let t := after (.eraseComplete true) s
    t.log.store.table[6].sequence = some 42 ∧ t.log.store.nextSequence = 43 ∧ t.log.store.state = .idle := by
  decide +kernel

/-! ## Witnesses: for each statement, a state and operands that meet its hypotheses, clause by clause -/

theorem test_witness_IdleTakesTheDueExpiryOrOneMillisecond :
    (let s : State := withChannel (channelIn .pulse); let c : Instr := .glowDeadlineExpiry 1;
      s.pending = [] ∧ dueCommand s = some c)
      ∧ (let s : State := withLine { Line.reset with activity := .byte 3 .held };
        s.pending = [] ∧ dueCommand s = none ∧ s.byteEnds = true)
      ∧ (let s : State := withLine { Line.reset with activity := .byte 0x5B .followed };
        let data : Byte := 0x5B; let stop : StopBit := .followed;
        s.pending = [] ∧ dueCommand s = none ∧ s.line.activity = .byte data stop ∧ s.line.receiver = .hunting)
      ∧ (let s : State := withLine { Line.reset with
          receiver := .taking 99999 [0x5B, 0x11, 4, 1, 2, 0, 5, 0, 3, 1, 54]
          activity := .byte 0xD6 .followed };
        let start : Instant := 99999; let bytes : List Byte := [0x5B, 0x11, 4, 1, 2, 0, 5, 0, 3, 1, 54];
        let data : Byte := 0xD6; let stop : StopBit := .followed;
        s.pending = [] ∧ dueCommand s = none ∧ s.line.activity = .byte data stop
          ∧ s.line.receiver = .taking start bytes ∧ (stop = .mark ∨ stop = .followed)
          ∧ Unfinished (bytes ++ [data]))
      ∧ (let s : State := withLine { Line.reset with activity := .ownLast 0x5B }; let data : Byte := 0x5B;
        s.pending = [] ∧ dueCommand s = none ∧ s.line.activity = .ownLast data ∧ s.line.receiver = .hunting)
      ∧ (let s : State := withLine { Line.reset with
          state := .stuck
          receiver := .taking 99999 [0x5B, 0x23, 9, 0, 6]
          activity := .ownLast 0xD6 };
        let start : Instant := 99999; let bytes : List Byte := [0x5B, 0x23, 9, 0, 6]; let data : Byte := 0xD6;
        s.pending = [] ∧ dueCommand s = none ∧ s.line.activity = .ownLast data
          ∧ s.line.receiver = .taking start bytes ∧ Unfinished (bytes ++ [data]))
      ∧ (let s : State := State.reset;
        s.pending = [] ∧ dueCommand s = none ∧ s.byteEnds = false ∧ s.startup.state = .resetting)
      ∧ (let s : State := { node with time := 100499 };
        s.pending = [] ∧ dueCommand s = none ∧ s.byteEnds = false ∧ s.startup.state ≠ .resetting) := by
  decide +kernel

theorem test_witness_StepKeepsMemoriesCanonical :
    (let s : State := { withStore { LogStore.reset with state := .erasing, position := some (6, 0) } with
        pending := [.eraseComplete true] };
      MemoryLaw s ∧ answers (step s) = true) := by
  decide +kernel

theorem test_witness_StepKeepsOutputsOffOutsideOperating :
    (let s : State := { starting .scan with pending := [.resetBegin .pin] };
      OutputsOffLaw s ∧ answers (step s) = true) := by
  decide +kernel

theorem test_witness_StepKeepsHoldersWithDoorStates :
    (let s : State := { node with pending := [.dcChange 0 true] };
      HolderLaw s ∧ answers (step s) = true) := by
  decide +kernel

theorem test_witness_StepKeepsTheFeedLaw :
    (let s : State := { node with
        doors := ⟨{ Door.reset with
            state := .armed
            holder := true
            views := [(6, .clear)]
            demand := true }, Door.reset⟩
        sequencer := { Sequencer.reset with
            state := .running
            feedHold := true
            demands := ⟨true, false⟩
            outputs := ⟨false, true, true, true⟩ }
        pending := [.dcChange 0 false] };
      FeedLaw s ∧ answers (step s) = true)
      ∧ (let s : State := { node with
          doors := ⟨{ Door.reset with
              state := .armed
              holder := true
              views := [(6, .clear)]
              demand := true }, Door.reset⟩
          sequencer := { Sequencer.reset with
              state := .running
              feedHold := true
              demands := ⟨true, false⟩
              outputs := ⟨false, true, true, true⟩ } };
        let d : Fin 2 := 0;
        FeedLaw s ∧ (s.cfg.doors.get d).feedHold = true ∧ (s.doors.get d).state ≠ .held
          ∧ (s.doors.get d).state ≠ .off) := by
  decide +kernel

theorem test_witness_StepKeepsSirenOutputs :
    (let s : State := { hearing [] with pending := [.voteReceived 4 6 3 6] };
      SirenLaw s ∧ answers (step s) = true) := by
  decide +kernel

theorem test_witness_StepKeepsTheRelayLaw :
    (let s : State := { withSequencer (stepping .fanStarting) with
        sirens := { node.sirens with relay := true }
        pending := [.stepTimerExpiry] };
      RelayLaw s ∧ answers (step s) = true) := by
  decide +kernel

theorem test_witness_StepKeepsSlotsAndQueueBound :
    (let s : State := { withChannel (channelIn .pulse) with pending := [.sample 1 140] };
      SlotLaw s ∧ answers (step s) = true)
      ∧ (let s : State := node;
        SlotLaw s)
      ∧ (let s : State := { keyTurned with
          zones := { node.zones with zones := [{ zoneAt 6 with view := .halt }] }
          pending := [.k2Press] };
        RestartLaw s ∧ answers (step s) = true)
      ∧ (let s : State := { starting .selfTest with
          startup := { Startup.reset .power with state := .failed, station := some 9, rate := some 2 }
          line := { Line.reset with
              shift := some ⟨.restart 6, 0, []⟩
              activity := .own
              stuckWatch := some 0 }
          pending := [.stuckWatchExpiry] };
        FailedLineLaw s ∧ answers (step s) = true) := by
  decide +kernel

theorem test_witness_StepKeepsViewsAboveLatches :
    (let s : State := { hearing [] with pending := [.voteReceived 4 6 3 6] };
      LatchLaw s ∧ answers (step s) = true) := by
  decide +kernel

theorem test_witness_StepKeepsLogBounds :
    (let s : State := { withChannel (channelIn .pulse) with pending := [.sample 1 140] };
      LogLaw s ∧ answers (step s) = true) := by
  decide +kernel

theorem test_witness_StepKeepsSilenceDeadlinesWithLive :
    (let s : State := { hearing [] with time := 80000, pending := [.silenceDeadlineExpiry 4] };
      SilenceLaw s ∧ answers (step s) = true) := by
  decide +kernel

theorem test_witness_StepKeepsTheHistoryBound :
    (let s : State := { hearing [] with pending := [.pressureSample 4094 false] };
      HistoryLaw s ∧ answers (step s) = true) := by
  decide +kernel

theorem test_witness_StepKeepsTheConfiguration :
    (let s : State := { node with pending := [.resetBegin .power] };
      answers (step s) = true) := by
  decide +kernel

theorem test_witness_ResetsTakeEveryBlock :
    (let s : State := node;
      s.startup.state ≠ .resetting ∧ s.log.store.state ≠ .programming ∧ s.log.store.state ≠ .erasing
        ∧ s.service.port = .idle)
      ∧ (let s : State := withStore { LogStore.reset with state := .erasing, position := some (5, 0) };
        s.startup.state ≠ .resetting)
      ∧ (let s : State := State.reset;
        s.startup.state = .resetting)
      ∧ (let s : State := setLevel .k1 true node;
        s.portReady ∧ s.portKey = true)
      ∧ (let b : Byte := 0xA4; let s : State := setLevel .k1 true node;
        s.portReady ∧ s.portKey = true ∧ b ≠ 0xA5)
      ∧ (let s : State := node;
        s.portReady ∧ s.portKey = false) := by
  decide +kernel

theorem test_witness_ResettingEndReadsTheSwitches :
    (let station : BitVec 5 := 1; let s : State := State.reset;
      s.startup.state = .resetting ∧ s.log.store.state = .scanning ∧ s.log.events.queue.length < 32
        ∧ s.zones.zones = [] ∧ station ≠ 0)
      ∧ (let s : State := State.reset;
        s.startup.state = .resetting ∧ s.log.store.state = .scanning ∧ s.log.events.queue.length < 32
          ∧ s.zones.zones = []) := by
  decide +kernel

set_option maxRecDepth 100000 in
theorem test_witness_ImageIsJudgedAndHandedOver :
    (let s : State := starting .image;
      s.startup.stage = some .image ∧ s.service.port = .idle
        ∧ imageAccepted (Memory.readBytes s.configMemory 0 512) = false)
      ∧ (let s : State := { starting .image with configMemory := goodImage };
        s.startup.stage = some .image ∧ s.service.port = .idle
          ∧ imageAccepted (Memory.readBytes s.configMemory 0 512) = true)
      ∧ (let s : State := { starting .image with
          startup := { (starting .image).startup with memoryDeadline := some 0 } };
        s.startup.stage = some .image ∧ s.service.port = .idle ∧ due s.time s.startup.memoryDeadline = true)
      ∧ (let s : State := { withPort (.executing 0x0A [0, 0, 0, 0, 0, 0, 0, 0] .configMemory) with
          startup := { node.startup with memoryDeadline := some 100000 } };
        let params : List Byte := [0, 0, 0, 0, 0, 0, 0, 0];
        s.startup.stage ≠ some .image ∧ s.service.port = .executing 0x0A params .configMemory
          ∧ due s.time s.startup.memoryDeadline = true) := by
  decide +kernel

theorem test_witness_SelfTestPassesOrFails :
    (let s : State := starting .selfTest;
      s.startup.stage = some .selfTest ∧ s.startup.echoDeadline = none)
      ∧ (let good : Bool := true; let sense : BitVec 11 := 0x400; let s : State := starting .selfTest;
        s.startup.stage = some .selfTest ∧ s.startup.echoDeadline = none ∧ (good = false ∨ sense ≠ 0))
      ∧ (let s : State := { starting .selfTest with
          time := 1000
          startup := { (starting .selfTest).startup with echoDeadline := some 1000, frameHeard := some true } };
        due s.time s.startup.echoDeadline = true ∧ s.startup.frameHeard = some true)
      ∧ (let s : State := { starting .selfTest with
          time := 1000
          startup := { (starting .selfTest).startup with echoDeadline := some 1000, frameHeard := some false } };
        due s.time s.startup.echoDeadline = true ∧ s.startup.frameHeard ≠ some true)
      ∧ (let s : State := { starting .selfTest with
          startup := { Startup.reset .power with state := .failed, station := some 9, rate := some 2 }
          line := { Line.reset with shift := some ⟨.restart 6, 0, []⟩, activity := .own } };
        s.pending = [] ∧ dueCommand s = none ∧ s.startup.state = .failed ∧ s.line.activity = .own
          ∧ (s.line.receiver = .hunting ∨ s.line.shift = none))
      ∧ (let s : State := { starting .selfTest with
          startup := { Startup.reset .power with state := .failed, station := some 9, rate := some 2 }
          line := { Line.reset with
              shift := some ⟨.restart 6, 0, [0x5B, 0x23, 9, 0, 6, 0xD6, 0x05]⟩
              receiver := .taking 0 []
              activity := .own } };
        let d : DrivenFrame := ⟨.restart 6, 0, [0x5B, 0x23, 9, 0, 6, 0xD6, 0x05]⟩; let start : Instant := 0;
        let bytes : List Byte := [];
        s.pending = [] ∧ dueCommand s = none ∧ s.startup.state = .failed ∧ s.line.activity = .own
          ∧ s.line.shift = some d ∧ s.line.receiver = .taking start bytes
          ∧ Unfinished (d.bytes.take (d.readBack s.time s.rate + 1)))
      ∧ (let s : State := { starting .selfTest with
          time := 1
          startup := { Startup.reset .power with state := .failed, station := some 9, rate := some 2 }
          line := { Line.reset with
              shift := some ⟨.restart 6, 0, frameBytes 9 0 (.restart 6)⟩
              receiver := .taking 0 []
              activity := .own } };
        let f : OutFrame := .restart 6; let drive : Instant := 0; let start : Instant := 0;
        let bytes : List Byte := [];
        s.pending = [] ∧ dueCommand s = none ∧ s.startup.state = .failed ∧ s.startup.echoDeadline = none
          ∧ s.line.activity = .own ∧ s.line.shift = some ⟨f, drive, frameBytes s.station drive f⟩
          ∧ s.line.receiver = .taking start bytes
          ∧ (frameBytes s.station drive f).length ≤ elapsed s.time drive * 1000 / (10 * bitTime s.rate) + 1)
      ∧ (let s : State := { starting .selfTest with
          startup := { Startup.reset .power with state := .failed, station := some 9, rate := some 2 }
          line := { Line.reset with shift := some ⟨.restart 6, 0, []⟩, activity := .own } };
        let d : DrivenFrame := ⟨.restart 6, 0, []⟩;
        s.startup.state = .failed ∧ s.startup.echoDeadline = none ∧ s.line.shift = some d) := by
  decide +kernel

theorem test_witness_ScanCompleteStartsOperation :
    (let s : State := starting .scan;
      s.startup.stage = some .scan ∧ s.sequencer = Sequencer.reset ∧ s.doors = ⟨Door.reset, Door.reset⟩
        ∧ s.sirens.summary = FaultSummary.reset ∧ s.sirens.relay = false) := by
  decide +kernel

theorem test_witness_RawChangesAreDebounced :
    (let i : Input := .k1; let active : Bool := true; let s : State := starting .image;
      s.rawLevel i ≠ active ∧ s.handedOver = false)
      ∧ (let i : Input := .dc0; let active : Bool := true; let s : State := node;
        s.rawLevel i ≠ active ∧ s.handedOver = true ∧ s.cfg.debounce ≠ 0)
      ∧ (let i : Input := .fh0; let active : Bool := true;
        let s : State := { node with config := some { configSet with debounce := 0 } };
        s.rawLevel i ≠ active ∧ s.handedOver = true ∧ s.cfg.debounce = 0) := by
  decide +kernel

theorem test_witness_SampleMovesTheBaseline :
    (let ch : Fin 4 := 1; let s : State := withChannel (channelIn .settling); let b : Nat := 3200;
      (s.channels.get ch).state.tracks ∧ (s.channels.get ch).baseline = some b)
      ∧ (let ch : Fin 4 := 1; let s : State := withChannel (channelIn .glow);
        (s.channels.get ch).state.frozen)
      ∧ (let ch : Fin 4 := 1; let s : State := node;
        (s.channels.get ch).state = .off) := by
  decide +kernel

theorem test_witness_SettlingAndFaultTests :
    (let ch : Fin 4 := 1; let s : State := withChannel { channelIn .settling with baseline := none };
      (s.channels.get ch).state = .settling ∧ (s.channels.get ch).baseline = none)
      ∧ (let ch : Fin 4 := 1; let x : BitVec 10 := 50;
        let s : State := withChannel { channelIn .settling with settle := some 2 }; let b : Nat := 3200;
        let n : Nat := 2;
        (s.channels.get ch).state = .settling ∧ (s.channels.get ch).baseline = some b
          ∧ (s.channels.get ch).settle = some n ∧ 2 ≤ n
          ∧ (s.cfg.channels.get ch).darkFloor ≤ updateBaseline (s.cfg.channels.get ch).shift x.toNat b / 64
          ∧ updateBaseline (s.cfg.channels.get ch).shift x.toNat b / 64 ≤ (s.cfg.channels.get ch).ceiling)
      ∧ (let ch : Fin 4 := 1; let x : BitVec 10 := 10;
        let s : State := withChannel { channelIn .settling with baseline := some 640, settle := some 1 };
        let b : Nat := 640;
        (s.channels.get ch).state = .settling ∧ (s.channels.get ch).baseline = some b
          ∧ (s.channels.get ch).settle = some 1
          ∧ (s.cfg.channels.get ch).darkFloor ≤ updateBaseline (s.cfg.channels.get ch).shift x.toNat b / 64
          ∧ updateBaseline (s.cfg.channels.get ch).shift x.toNat b / 64 ≤ (s.cfg.channels.get ch).ceiling)
      ∧ (let ch : Fin 4 := 1; let x : BitVec 10 := 1023;
        let s : State := withChannel { channelIn .armed with baseline := some 57663 }; let b : Nat := 57663;
        (s.channels.get ch).state.tracks ∧ (s.channels.get ch).baseline = some b
          ∧ (s.channels.get ch).state ≠ .faultAmbient
          ∧ (s.cfg.channels.get ch).ceiling < updateBaseline (s.cfg.channels.get ch).shift x.toNat b / 64)
      ∧ (let ch : Fin 4 := 1; let x : BitVec 10 := 0;
        let s : State := withChannel { channelIn .armed with baseline := some 639 }; let b : Nat := 639;
        (s.channels.get ch).state.tracks ∧ (s.channels.get ch).baseline = some b
          ∧ (s.channels.get ch).state ≠ .faultDark
          ∧ updateBaseline (s.cfg.channels.get ch).shift x.toNat b / 64 ≤ (s.cfg.channels.get ch).ceiling
          ∧ updateBaseline (s.cfg.channels.get ch).shift x.toNat b / 64 < (s.cfg.channels.get ch).darkFloor)
      ∧ (let ch : Fin 4 := 1; let x : BitVec 10 := 892;
        let s : State := withChannel { channelIn .faultAmbient with baseline := some 57088 };
        let b : Nat := 57088;
        (s.channels.get ch).baseline = some b
          ∧ ((s.channels.get ch).state = .faultAmbient ∧ (s.cfg.channels.get ch).darkFloor ≤ updateBaseline
              (s.cfg.channels.get ch).shift x.toNat b / 64 ∧ updateBaseline (s.cfg.channels.get ch).shift
              x.toNat b / 64 + 8 ≤ (s.cfg.channels.get ch).ceiling ∨ (s.channels.get ch).state = .faultDark ∧
              (s.cfg.channels.get ch).darkFloor + 8 ≤ updateBaseline (s.cfg.channels.get ch).shift x.toNat b /
              64 ∧ updateBaseline (s.cfg.channels.get ch).shift x.toNat b / 64 ≤ (s.cfg.channels.get
              ch).ceiling))
      ∧ (let ch : Fin 4 := 1; let x : BitVec 10 := 17;
        let s : State := withChannel { channelIn .faultDark with baseline := some 1088 }; let b : Nat := 1088;
        (s.channels.get ch).baseline = some b
          ∧ ((s.channels.get ch).state = .faultAmbient ∧ ((s.cfg.channels.get ch).ceiling < updateBaseline
              (s.cfg.channels.get ch).shift x.toNat b / 64 ∨ (s.cfg.channels.get ch).darkFloor ≤
              updateBaseline (s.cfg.channels.get ch).shift x.toNat b / 64 ∧ (s.cfg.channels.get ch).ceiling <
              updateBaseline (s.cfg.channels.get ch).shift x.toNat b / 64 + 8) ∨ (s.channels.get ch).state =
              .faultDark ∧ updateBaseline (s.cfg.channels.get ch).shift x.toNat b / 64 ≤ (s.cfg.channels.get
              ch).ceiling ∧ updateBaseline (s.cfg.channels.get ch).shift x.toNat b / 64 < (s.cfg.channels.get
              ch).darkFloor + 8)) := by
  decide +kernel

theorem test_witness_SampleInPulseAndQualified :
    (let ch : Fin 4 := 1; let x : BitVec 10 := 90;
      let s : State := { withChannel (channelIn .pulse) with
          config := some { configSet with
              channels := ⟨channelSet, { channelSet with qualifyCount := 3 }, channelSet, channelSet⟩ } };
      let b : Nat := 3200; let n : Nat := 1; let p : Nat := 95;
      (s.channels.get ch).state = .pulse ∧ (s.channels.get ch).baseline = some b
        ∧ (s.channels.get ch).run = some n ∧ (s.channels.get ch).peak = some p
        ∧ (s.cfg.channels.get ch).tripAt b ≤ x.toNat ∧ n + 1 ≠ (s.cfg.channels.get ch).qualifyCount)
      ∧ (let ch : Fin 4 := 1; let x : BitVec 10 := 80; let s : State := withChannel (channelIn .pulse);
        let b : Nat := 3200;
        (s.channels.get ch).state = .pulse ∧ (s.channels.get ch).baseline = some b
          ∧ x.toNat < (s.cfg.channels.get ch).tripAt b ∧ (s.cfg.channels.get ch).rearmAt b ≤ x.toNat)
      ∧ (let ch : Fin 4 := 1; let x : BitVec 10 := 79; let s : State := withChannel (channelIn .pulse);
        let b : Nat := 3200;
        (s.channels.get ch).state = .pulse ∧ (s.channels.get ch).baseline = some b
          ∧ x.toNat < (s.cfg.channels.get ch).tripAt b ∧ x.toNat < (s.cfg.channels.get ch).rearmAt b)
      ∧ (let ch : Fin 4 := 1; let x : BitVec 10 := 80; let s : State := withChannel (channelIn .qualified);
        let b : Nat := 3200; let p : Nat := 95;
        (s.channels.get ch).state = .qualified ∧ (s.channels.get ch).baseline = some b
          ∧ (s.channels.get ch).peak = some p ∧ (s.cfg.channels.get ch).rearmAt b ≤ x.toNat)
      ∧ (let ch : Fin 4 := 1; let x : BitVec 10 := 79; let s : State := withChannel (channelIn .qualified);
        let b : Nat := 3200; let p : Nat := 95;
        (s.channels.get ch).state = .qualified ∧ (s.channels.get ch).baseline = some b
          ∧ (s.channels.get ch).peak = some p ∧ x.toNat < (s.cfg.channels.get ch).rearmAt b) := by
  decide +kernel

theorem test_witness_SamplesQualifyAndDetect :
    (let ch : Fin 4 := 1; let x : BitVec 10 := 90; let s : State := withChannel (channelIn .armed);
      let b : Nat := 3200;
      (s.channels.get ch).state = .armed ∧ (s.channels.get ch).baseline = some b
        ∧ (s.cfg.channels.get ch).darkFloor ≤ updateBaseline (s.cfg.channels.get ch).shift x.toNat b / 64
        ∧ updateBaseline (s.cfg.channels.get ch).shift x.toNat b / 64 ≤ (s.cfg.channels.get ch).ceiling
        ∧ (s.cfg.channels.get ch).tripAt (updateBaseline (s.cfg.channels.get ch).shift x.toNat b) ≤ x.toNat
        ∧ (s.cfg.channels.get ch).qualifyCount ≠ 1)
      ∧ (let ch : Fin 4 := 1; let x : BitVec 10 := 89; let s : State := withChannel (channelIn .armed);
        let b : Nat := 3200;
        (s.channels.get ch).state = .armed ∧ (s.channels.get ch).baseline = some b
          ∧ (s.cfg.channels.get ch).darkFloor ≤ updateBaseline (s.cfg.channels.get ch).shift x.toNat b / 64
          ∧ updateBaseline (s.cfg.channels.get ch).shift x.toNat b / 64 ≤ (s.cfg.channels.get ch).ceiling
          ∧ x.toNat < (s.cfg.channels.get ch).tripAt (updateBaseline (s.cfg.channels.get ch).shift x.toNat b))
      ∧ (let ch : Fin 4 := 1; let x : BitVec 10 := 90;
        let s : State := { withChannel (channelIn .armed) with
            config := some { configSet with
                channels := ⟨channelSet, { channelSet with qualifyCount := 1 }, channelSet, channelSet⟩ } };
        let b : Nat := 3200;
        (s.channels.get ch).state = .armed ∧ (s.channels.get ch).baseline = some b
          ∧ (s.cfg.channels.get ch).darkFloor ≤ updateBaseline (s.cfg.channels.get ch).shift x.toNat b / 64
          ∧ updateBaseline (s.cfg.channels.get ch).shift x.toNat b / 64 ≤ (s.cfg.channels.get ch).ceiling
          ∧ (s.cfg.channels.get ch).tripAt (updateBaseline (s.cfg.channels.get ch).shift x.toNat b) ≤ x.toNat
          ∧ (s.cfg.channels.get ch).qualifyCount = 1)
      ∧ (let ch : Fin 4 := 1; let x : BitVec 10 := 90;
        let s : State := { withChannel (channelIn .pulse) with startup := (starting .scan).startup };
        let b : Nat := 3200; let n : Nat := 1; let p : Nat := 95;
        (s.channels.get ch).state = .pulse ∧ (s.channels.get ch).baseline = some b
          ∧ (s.channels.get ch).run = some n ∧ (s.channels.get ch).peak = some p
          ∧ (s.cfg.channels.get ch).tripAt b ≤ x.toNat ∧ n + 1 = (s.cfg.channels.get ch).qualifyCount
          ∧ s.operating = false)
      ∧ (let ch : Fin 4 := 1; let x : BitVec 10 := 90; let s : State := withChannel (channelIn .pulse);
        let b : Nat := 3200; let n : Nat := 1; let p : Nat := 95;
        (s.channels.get ch).state = .pulse ∧ (s.channels.get ch).baseline = some b
          ∧ (s.channels.get ch).run = some n ∧ (s.channels.get ch).peak = some p
          ∧ (s.cfg.channels.get ch).tripAt b ≤ x.toNat ∧ n + 1 = (s.cfg.channels.get ch).qualifyCount
          ∧ s.operating = true
          ∧ s.line.queue.all (fun f => !f.sameSlot (.detect ch 1 s.time s.time 0)) = true)
      ∧ (let ch : Fin 4 := 1; let x : BitVec 10 := 90;
        let s : State := { withChannel (channelIn .pulse) with
            line := { Line.reset with queue := [.detect 1 15 99000 99500 310] } };
        let b : Nat := 3200; let n : Nat := 1; let p : Nat := 95; let m : Nat := 15; let q : Nat := 310;
        let first : Instant := 99000; let last : Instant := 99500;
        (s.channels.get ch).state = .pulse ∧ (s.channels.get ch).baseline = some b
          ∧ (s.channels.get ch).run = some n ∧ (s.channels.get ch).peak = some p
          ∧ (s.cfg.channels.get ch).tripAt b ≤ x.toNat ∧ n + 1 = (s.cfg.channels.get ch).qualifyCount
          ∧ s.operating = true ∧ .detect ch m first last q ∈ s.line.queue) := by
  decide +kernel

theorem test_witness_GlowBeginsAndEnds :
    (let ch : Fin 4 := 1; let s : State := withChannel (channelIn .pulse);
      due s.time (s.channels.get ch).glowDeadline = true
        ∧ ((s.channels.get ch).state = .pulse ∨ (s.channels.get ch).state = .qualified))
      ∧ (let ch : Fin 4 := 1; let x : BitVec 10 := 79; let s : State := withChannel (channelIn .glow);
        let b : Nat := 3200; let p : Nat := 95;
        (s.channels.get ch).state = .glow ∧ (s.channels.get ch).baseline = some b
          ∧ (s.channels.get ch).peak = some p ∧ x.toNat < (s.cfg.channels.get ch).rearmAt b)
      ∧ (let ch : Fin 4 := 1; let x : BitVec 10 := 80; let s : State := withChannel (channelIn .glow);
        let b : Nat := 3200; let p : Nat := 95;
        (s.channels.get ch).state = .glow ∧ (s.channels.get ch).baseline = some b
          ∧ (s.channels.get ch).peak = some p ∧ (s.cfg.channels.get ch).rearmAt b ≤ x.toNat) := by
  decide +kernel

theorem test_witness_GoodPressureSampleGivesVelocity :
    (let count : BitVec 12 := 4094; let s : State := hearing [];
      s.handedOver = true ∧ HistoryLaw s ∧ count.toNat ≠ 4095) := by
  decide +kernel

theorem test_witness_BadPressureSampleHolds :
    (let count : BitVec 12 := 4095; let fault : Bool := false; let s : State := hearing [];
      s.handedOver = true ∧ (fault = true ∨ count.toNat = 4095)
        ∧ (s.flow.status = .ok ∨ s.flow.status = .lowFlow))
      ∧ (let count : BitVec 12 := 800; let fault : Bool := true;
        let s : State := withFlow ⟨[800], 257, .hold, some 105000⟩;
        s.handedOver = true ∧ (fault = true ∨ count.toNat = 4095)
          ∧ (s.flow.status = .hold ∨ s.flow.status = .lost)) := by
  decide +kernel

theorem test_witness_HoldExpiryLosesTheFlow :
    (let s : State := withFlow ⟨[800], 257, .hold, some 100000⟩;
      due s.time s.flow.holdDeadline = true ∧ s.flow.status = .hold) := by
  decide +kernel

theorem test_witness_TransitTimeAndBounds :
    (let L : Nat := 1; let v : Nat := 600; let u : Nat := 50;
      1 ≤ L ∧ L ≤ 4000 ∧ 20 ≤ v ∧ v ≤ 600 ∧ u ≤ 50) := by
  decide +kernel

theorem test_witness_DetectPredictsAWindow :
    (let source : Byte := 4; let channel : Byte := 1; let age : Half := 5; let span : Half := 3;
      let v : Fin 2 := 0; let s : State := hearing [watchOfFour]; let e : WatchEntry := watchOfFour;
      let start : Instant := 71205; let bytes : List Byte := ([] : List Byte);
      s.operating = true ∧ s.handedOver = true ∧ validSource source = true ∧ source.toNat ≠ s.station
        ∧ s.line.receiver = .taking start bytes ∧ s.watch = [e] ∧ QuietSettled s ∧ e.matches source.toNat channel.toNat = true
        ∧ e.valves.getLsbD v.val = true ∧ e.valves.getLsbD (other v).val = false ∧ e.source = 0
        ∧ (s.valves.valves.get v).windows = [] ∧ (s.flow.status = .ok ∨ s.flow.status = .hold)
        ∧ s.cfg.vMin ≤ s.flow.velocity
        ∧ before s.time (openInstant (start - age.setWidth 32) (earlyBound (transitTime e.length
            s.flow.velocity) s.cfg.uncertainty) (s.cfg.valves.get v).lead) = true
        ∧ before s.time (closeInstant (start - age.setWidth 32 + span.setWidth 32) (lateBound (transitTime
            e.length s.flow.velocity) s.cfg.uncertainty) (s.cfg.valves.get v).sprayHold) = true)
      ∧ (let source : Byte := 4; let channel : Byte := 1; let age : Half := 5; let span : Half := 3;
        let v : Fin 2 := 0; let s : State := { hearing [watchOfFour] with time := 71804 };
        let e : WatchEntry := watchOfFour; let start : Instant := 71205;
        let bytes : List Byte := ([] : List Byte);
        s.operating = true ∧ s.handedOver = true ∧ validSource source = true ∧ source.toNat ≠ s.station
          ∧ s.line.receiver = .taking start bytes ∧ s.watch = [e] ∧ QuietSettled s
          ∧ e.matches source.toNat channel.toNat = true ∧ e.valves.getLsbD v.val = true
          ∧ e.valves.getLsbD (other v).val = false ∧ e.source = 0 ∧ (s.valves.valves.get v).windows = []
          ∧ (s.valves.valves.get v).opened = false ∧ (s.flow.status = .ok ∨ s.flow.status = .hold)
          ∧ s.cfg.vMin ≤ s.flow.velocity
          ∧ before s.time (openInstant (start - age.setWidth 32) (earlyBound (transitTime e.length
              s.flow.velocity) s.cfg.uncertainty) (s.cfg.valves.get v).lead) = false
          ∧ before s.time (closeInstant (start - age.setWidth 32 + span.setWidth 32) (lateBound (transitTime
              e.length s.flow.velocity) s.cfg.uncertainty) (s.cfg.valves.get v).sprayHold) = true)
      ∧ (let source : Byte := 4; let channel : Byte := 1; let age : Half := 5; let span : Half := 3;
        let v : Fin 2 := 0; let s : State := { hearing [watchOfFour] with time := 73575 };
        let e : WatchEntry := watchOfFour; let start : Instant := 71205;
        let bytes : List Byte := ([] : List Byte);
        s.operating = true ∧ s.handedOver = true ∧ validSource source = true ∧ source.toNat ≠ s.station
          ∧ s.line.receiver = .taking start bytes ∧ s.watch = [e] ∧ QuietSettled s
          ∧ e.matches source.toNat channel.toNat = true ∧ e.valves.getLsbD v.val = true
          ∧ e.valves.getLsbD (other v).val = false ∧ e.source = 0
          ∧ (s.flow.status = .ok ∨ s.flow.status = .hold) ∧ s.cfg.vMin ≤ s.flow.velocity
          ∧ before s.time (closeInstant (start - age.setWidth 32 + span.setWidth 32) (lateBound (transitTime
              e.length s.flow.velocity) s.cfg.uncertainty) (s.cfg.valves.get v).sprayHold) = false)
      ∧ (let source : Byte := 4; let channel : Byte := 1; let v : Fin 2 := 0;
        let s : State := { hearing [watchOfFour] with flow := ⟨[], 79, .ok, none⟩ };
        let e : WatchEntry := watchOfFour; let start : Instant := 71205;
        let bytes : List Byte := ([] : List Byte);
        s.operating = true ∧ s.handedOver = true ∧ validSource source = true ∧ source.toNat ≠ s.station
          ∧ s.line.receiver = .taking start bytes ∧ s.watch = [e] ∧ QuietSettled s
          ∧ e.matches source.toNat channel.toNat = true ∧ e.valves.getLsbD v.val = true
          ∧ e.valves.getLsbD (other v).val = false ∧ e.source = 0 ∧ (s.valves.valves.get v).windows = []
          ∧ (s.valves.valves.get v).opened = false
          ∧ (s.flow.status = .lowFlow ∨ s.flow.status = .lost ∨ s.flow.velocity < s.cfg.vMin))
      ∧ (let source : Byte := 4; let channel : Byte := 1; let age : Half := 5; let span : Half := 3;
        let v : Fin 2 := 0;
        let s : State := { hearing [{ watchOfFour with source := 5 }] with
            peers := node.peers.set 5 { Peer.reset with
                state := .live
                velocity := some 321
                flow := some .ok } };
        let e : WatchEntry := { watchOfFour with source := 5 }; let start : Instant := 71205;
        let bytes : List Byte := ([] : List Byte); let n : Fin 32 := 5; let velocity : Nat := 321;
        let substituted : Bool := false;
        s.operating = true ∧ s.handedOver = true ∧ validSource source = true ∧ source.toNat ≠ s.station
          ∧ s.line.receiver = .taking start bytes ∧ s.watch = [e] ∧ QuietSettled s
          ∧ e.matches source.toNat channel.toNat = true ∧ e.valves.getLsbD v.val = true
          ∧ e.valves.getLsbD (other v).val = false ∧ e.source = n.val ∧ n ≠ 0
          ∧ (s.peers[n].state = .live ∧ s.peers[n].velocity.map (fun x => min x 600) = some velocity ∧
              s.peers[n].flow = some .ok ∧ substituted = false ∨ n ≠ stationIndex source ∧ s.peers[n].state ≠
              .live ∧ velocity = s.flow.velocity ∧ (s.flow.status = .ok ∨ s.flow.status = .hold) ∧ substituted
              = true)
          ∧ s.cfg.vMin ≤ velocity
          ∧ before s.time (closeInstant (start - age.setWidth 32 + span.setWidth 32) (lateBound (transitTime
              e.length velocity) s.cfg.uncertainty) (s.cfg.valves.get v).sprayHold) = true
          ∧ (addToSchedule s.cfg.mergeGap (predictedWindow s v e start age span velocity source.toNat
              substituted) (s.valves.valves.get v).windows).1.begun = true ∨ before s.time (addToSchedule
              s.cfg.mergeGap (predictedWindow s v e start age span velocity source.toNat substituted)
              (s.valves.valves.get v).windows).1.openAt = true)
      ∧ (let gap : Nat := 100; let w : Window := windowAt 13150 14050 false;
        let x : Window := windowAt 14150 14600 false;
        withinGap gap x w = true)
      ∧ (let gap : Nat := 100; let w : Window := windowAt 13150 14050 false;
        let l : List Window := [windowAt 14151 14600 false];
        (∀ x ∈ l, withinGap gap x w = false) ∧ l.length < 8)
      ∧ (let gap : Nat := 10; let w : Window := windowAt 100 110 false;
        let l : List Window :=
          [windowAt 200 210 false, windowAt 300 310 false, windowAt 400 410 false, windowAt 500 510 false, windowAt 600 610 false, windowAt 700 710 false, windowAt 800 810 false, windowAt 900 910 false];
        (∀ x ∈ l, withinGap gap x w = false) ∧ l.length = 8) := by
  refine ⟨?_, ?_, ?_, ?_, ?_, ?_, ?_, ?_⟩ <;> decide +kernel

theorem test_witness_WindowsOpenAndCloseTheValve :
    (let v : Fin 2 := 0;
      let s : State := withValve { Valve.reset with windows := [windowAt 100000 102000 false] };
      let w : Window := windowAt 100000 102000 false; let rest : List Window := ([] : List Window);
      s.operating = true ∧ (s.valves.valves.get v).windows = w :: rest ∧ w.begun = false
        ∧ before s.time w.openAt = false ∧ (s.valves.valves.get v).opened = false)
      ∧ (let v : Fin 2 := 0;
        let s : State := withValve { Valve.reset with
            opened := true
            openedAt := some 99000
            windows := [windowAt 100000 102000 false] };
        let w : Window := windowAt 100000 102000 false; let rest : List Window := ([] : List Window);
        s.operating = true ∧ (s.valves.valves.get v).windows = w :: rest ∧ w.begun = false
          ∧ before s.time w.openAt = false ∧ (s.valves.valves.get v).opened = true)
      ∧ (let v : Fin 2 := 0;
        let s : State := withValve { Valve.reset with
            opened := true
            openedAt := some 99000
            windows := [windowAt 99000 100000 true] };
        let w : Window := windowAt 99000 100000 true; let rest : List Window := ([] : List Window);
        (s.valves.valves.get v).windows = w :: rest ∧ w.begun = true ∧ before s.time w.closeAt = false) := by
  decide +kernel

theorem test_witness_ValveDeadlinesExpire :
    (let v : Fin 2 := 0; let s : State := withValve { Valve.reset with missHold := some 100000 };
      due s.time (s.valves.valves.get v).missHold = true)
      ∧ (let v : Fin 2 := 0;
        let s : State := withValve { Valve.reset with opened := true, flowConfirm := some 100000 };
        due s.time (s.valves.valves.get v).flowConfirm = true ∧ (s.valves.valves.get v).opened = true
          ∧ (s.valves.valves.get v).noFlow = false)
      ∧ (let v : Fin 2 := 0;
        let s : State := withValve { Valve.reset with
            opened := true
            noFlow := true
            flowConfirm := some 100000 };
        due s.time (s.valves.valves.get v).flowConfirm = true ∧ (s.valves.valves.get v).opened = true
          ∧ (s.valves.valves.get v).noFlow = true)
      ∧ (let v : Fin 2 := 0; let s : State := withValve { Valve.reset with flowConfirm := some 100000 };
        due s.time (s.valves.valves.get v).flowConfirm = true ∧ (s.valves.valves.get v).opened = false)
      ∧ (let v : Fin 2 := 0; let s : State := withValve { Valve.reset with leakDeadline := some 100000 };
        due s.time (s.valves.valves.get v).leakDeadline = true ∧ (s.valves.valves.get v).leak = false) := by
  decide +kernel

theorem test_witness_FlowSwitchChangesAreJudged :
    (let v : Fin 2 := 0; let s : State := node;
      s.handedOver = true ∧ s.level (fsInput v) = false)
      ∧ (let v : Fin 2 := 0; let s : State := setLevel .fs0 true node;
        s.handedOver = true ∧ s.level (fsInput v) = true) := by
  decide +kernel

theorem test_witness_WaterSamplesMoveTheComparator :
    (let p : BitVec 10 := 199; let s : State := node;
      s.handedOver = true ∧ s.valves.comparator = some .normal ∧ p.toNat < s.cfg.waterTrip)
      ∧ (let p : BitVec 10 := 220;
        let s : State := { node with valves := { node.valves with comparator := some .low } };
        s.handedOver = true ∧ s.valves.comparator = some .low
          ∧ s.cfg.waterTrip + s.cfg.waterHysteresis ≤ p.toNat)
      ∧ (let p : BitVec 10 := 219;
        let s : State := { node with valves := { node.valves with comparator := some .low } };
        s.handedOver = true
          ∧ (s.valves.comparator = some .normal ∧ s.cfg.waterTrip ≤ p.toNat ∨ s.valves.comparator = some .low
              ∧ p.toNat < s.cfg.waterTrip + s.cfg.waterHysteresis)) := by
  decide +kernel

theorem test_witness_LineErrorsAreCounted :
    (let s : State := node;
      s.handedOver = true ∧ QuietSettled s)
      ∧ (let s : State := withLine { Line.reset with activity := .byte 3 .space };
        s.handedOver = true ∧ s.line.drops = true)
      ∧ (let s : State := node;
        s.handedOver = true ∧ s.line.drops = false ∧ QuietSettled s)
      ∧ (let s : State := hearing [];
        s.handedOver = true ∧ s.line.receiver ≠ .hunting
          ∧ (s.line.activity = .mark ∨ s.line.activity = .busy))
      ∧ (let c : Instr := .byteError;
        let s : State := withLine { Line.reset with receiver := .taking 99999 [0x5B], quiet := 12 };
        frameArrival c = true ∧ s.handedOver = true ∧ s.line.activity = .mark ∧ s.line.receiver ≠ .hunting
          ∧ 12 ≤ s.line.quiet ∧ (s.line.quiet < 142 ∨ s.line.state ≠ .stuck)) := by
  decide +kernel

theorem test_witness_DegradedExpires :
    (let s : State := withLine { Line.reset with degraded := true, degradedDeadline := some 100000 };
      due s.time s.line.degradedDeadline = true ∧ s.line.degraded = true)
      ∧ (let s : State := withLine { Line.reset with degradedDeadline := some 100000 };
        due s.time s.line.degradedDeadline = true ∧ s.line.degraded = false) := by
  decide +kernel

theorem test_witness_FramesAreHeldDrivenAndSent :
    (let s : State := withLine { Line.reset with queue := [.restart 6] }; let f : OutFrame := .restart 6;
      let rest : List OutFrame := ([] : List OutFrame);
      s.line.queue = f :: rest ∧ s.line.state = .listening ∧ s.line.holding = none ∧ s.line.shift = none
        ∧ s.line.receiver = .hunting ∧ (s.line.activity = .mark ∨ s.line.activity = .busy))
      ∧ (let s : State := withLine { Line.reset with holding := some (.restart 6) };
        let f : OutFrame := .restart 6;
        s.line.holding = some f)
      ∧ (let s : State := withLine { Line.reset with shift := some ⟨.restart 6, 100000, []⟩ };
        let d : DrivenFrame := ⟨.restart 6, 100000, []⟩;
        s.line.shift = some d ∧ s.startup.echoDeadline = none)
      ∧ (let s : State := { starting .selfTest with
          time := 1000
          startup := { (starting .selfTest).startup with echoDeadline := some 1000, frameHeard := some false }
          line := { Line.reset with shift := some ⟨.restart 6, 100000, []⟩ } };
        let d : DrivenFrame := ⟨.restart 6, 100000, []⟩;
        s.line.shift = some d ∧ s.startup.echoDeadline ≠ none) := by
  decide +kernel

theorem test_witness_FramesDeferCollideAndMerge :
    (let b : StartBit := ⟨12, 0x5B, .followed⟩;
      let s : State := withLine { Line.reset with
          holding := some (.restart 6)
          queue := [.vote 6 Vote.none] };
      let f : OutFrame := .restart 6;
      s.handedOver = true ∧ s.line.holding = some f ∧ s.startup.state ≠ .failed
        ∧ (s.line.activity = .mark ∨ s.line.activity = .busy)
        ∧ (s.line.receiver = .hunting ∨ s.line.countAt b.quiet < 12)
        ∧ (s.line.state ≠ .stuck ∨ s.line.countAt b.quiet < 142)
        ∧ s.line.queue.Pairwise (fun g h => g.cls ≤ h.cls) ∧ s.line.queue.all (fun g => !f.sameSlot g) = true)
      ∧ (let b : StartBit := ⟨12, 0x5B, .followed⟩;
        let s : State := withLine { Line.reset with
            holding := some (.detect 1 15 90000 99000 310)
            queue := [.detect 1 1 99500 99500 200] };
        let c : Fin 4 := 1; let n : Nat := 15; let m : Nat := 1; let first : Instant := 90000;
        let last : Instant := 99000; let first' : Instant := 99500; let last' : Instant := 99500;
        let p : Nat := 310; let p' : Nat := 200;
        s.handedOver = true ∧ s.line.holding = some (.detect c n first last p) ∧ s.startup.state ≠ .failed
          ∧ (s.line.activity = .mark ∨ s.line.activity = .busy)
          ∧ (s.line.receiver = .hunting ∨ s.line.countAt b.quiet < 12)
          ∧ s.line.queue = [.detect c m first' last' p'])
      ∧ (let b : StartBit := ⟨12, 0x5B, .followed⟩;
        let s : State := withLine { Line.reset with
            holding := some (.vote 6 ⟨.halt, .sparks⟩)
            queue := [.vote 6 Vote.none] };
        let f : OutFrame := .vote 6 ⟨.halt, .sparks⟩; let g : OutFrame := .vote 6 Vote.none;
        s.handedOver = true ∧ s.line.holding = some f ∧ s.startup.state ≠ .failed
          ∧ (s.line.activity = .mark ∨ s.line.activity = .busy)
          ∧ (s.line.receiver = .hunting ∨ s.line.countAt b.quiet < 12) ∧ s.line.queue = [g]
          ∧ f.sameSlot g = true ∧ g.kind ≠ .detect)
      ∧ (let b : StartBit := ⟨11, 0x5B, .followed⟩;
        let s : State := withLine { Line.reset with
            holding := some (.restart 6)
            queue := [.detect 1 1 99500 99500 200, .vote 6 Vote.none, .restart 6] };
        let f : OutFrame := .restart 6;
        s.handedOver = true ∧ s.line.holding = some f ∧ s.startup.state ≠ .failed
          ∧ (s.line.activity = .mark ∨ s.line.activity = .busy)
          ∧ (s.line.receiver = .hunting ∨ s.line.countAt b.quiet < 12)
          ∧ s.line.queue.Pairwise (fun g h => g.cls ≤ h.cls))
      ∧ (let b : StartBit := ⟨141, 0x5B, .followed⟩;
        let s : State := withLine { Line.reset with state := .stuck };
        s.handedOver = true ∧ s.line.holding = none ∧ (s.line.activity = .mark ∨ s.line.activity = .busy)
          ∧ (s.line.receiver = .hunting ∨ s.line.countAt b.quiet < 12)
          ∧ (s.line.state ≠ .stuck ∨ s.line.countAt b.quiet < 142))
      ∧ (let b : StartBit := ⟨12, 0x5B, .followed⟩; let s : State := hearing [];
        s.handedOver = true ∧ (s.line.activity = .mark ∨ s.line.activity = .busy)
          ∧ s.line.receiver ≠ .hunting ∧ 12 ≤ b.quiet)
      ∧ (let s : State := withLine { Line.reset with
          shift := some ⟨.restart 6, 100000, []⟩
          activity := .own };
        let d : DrivenFrame := ⟨.restart 6, 100000, []⟩;
        s.line.shift = some d ∧ s.line.activity = .own ∧ s.startup.state ≠ .failed) := by
  decide +kernel

theorem test_witness_FramesDeferCollideAndMerge_further :
    (let s : State := withLine { Line.reset with
        shift := some ⟨.restart 6, 100000, []⟩
        queue := [.vote 6 Vote.none] };
      let d : DrivenFrame := ⟨.restart 6, 100000, []⟩;
      s.line.shift = some d ∧ s.startup.state ≠ .failed ∧ s.line.queue.Pairwise (fun g h => g.cls ≤ h.cls)
        ∧ s.line.queue.all (fun g => !d.frame.sameSlot g) = true)
      ∧ (let s : State := { starting .selfTest with
          startup := { Startup.reset .power with state := .failed, station := some 9, rate := some 2 }
          line := { Line.reset with shift := some ⟨.restart 6, 0, []⟩, activity := .own } };
        let d : DrivenFrame := ⟨.restart 6, 0, []⟩;
        s.line.shift = some d ∧ s.startup.state = .failed)
      ∧ (let s : State := { starting .selfTest with
          startup := { Startup.reset .power with state := .failed, station := some 9, rate := some 2 }
          line := { Line.reset with holding := some (.restart 6) }
          config := some configSet };
        s.handedOver = true ∧ s.startup.state = .failed ∧ (s.line.activity = .mark ∨ s.line.activity = .busy))
      ∧ (let s : State := withLine { Line.reset with
          shift := some ⟨.detect 1 15 90000 99000 310, 100000, []⟩
          queue := [.detect 1 1 99500 99500 200] };
        let c : Fin 4 := 1; let n : Nat := 15; let m : Nat := 1; let first : Instant := 90000;
        let last : Instant := 99000; let first' : Instant := 99500; let last' : Instant := 99500;
        let drive : Instant := 100000; let p : Nat := 310; let p' : Nat := 200; let bytes : List Byte := [];
        s.startup.state ≠ .failed ∧ s.line.shift = some ⟨.detect c n first last p, drive, bytes⟩
          ∧ s.line.queue = [.detect c m first' last' p'])
      ∧ (let s : State := withLine { Line.reset with
          shift := some ⟨.vote 6 ⟨.halt, .sparks⟩, 100000, []⟩
          queue := [.vote 6 Vote.none] };
        let d : DrivenFrame := ⟨.vote 6 ⟨.halt, .sparks⟩, 100000, []⟩; let g : OutFrame := .vote 6 Vote.none;
        s.startup.state ≠ .failed ∧ s.line.shift = some d ∧ s.line.queue = [g] ∧ d.frame.sameSlot g = true
          ∧ g.kind ≠ .detect)
      ∧ (let s : State := withLine { Line.reset with
          shift := some ⟨.restart 6, 100000, []⟩
          queue := [.detect 1 1 99500 99500 200, .vote 6 Vote.none, .restart 6] };
        let d : DrivenFrame := ⟨.restart 6, 100000, []⟩;
        s.startup.state ≠ .failed ∧ s.line.shift = some d ∧ s.line.queue.Pairwise (fun g h => g.cls ≤ h.cls)) := by
  decide +kernel

theorem test_witness_LineStateChanges :
    (let s : State := node;
      s.handedOver = true ∧ s.line.state ≠ .listenOnly ∧ QuietSettled s)
      ∧ (let s : State := withLine { Line.reset with
          stuckWatch := some 100000
          queue := [.vote 6 Vote.none, .restart 6]
          shift := some ⟨.restart 6, 99999, [0x5B, 0x23, 9, 0, 6, 0xD6, 0x05]⟩
          receiver := .taking 99999 []
          activity := .own };
        due s.time s.line.stuckWatch = true ∧ s.line.state = .listening)
      ∧ (let s : State := withLine { Line.reset with state := .listenOnly, stuckWatch := some 100000 };
        due s.time s.line.stuckWatch = true ∧ s.line.state ≠ .listening)
      ∧ (let s : State := withLine { Line.reset with state := .stuck };
        s.handedOver = true ∧ s.line.state = .stuck ∧ s.line.receiver = .hunting
          ∧ (s.line.activity = .mark ∨ s.line.activity = .busy))
      ∧ (let s : State := node;
        s.handedOver = true ∧ s.line.state ≠ .stuck ∧ s.line.receiver = .hunting
          ∧ (s.line.activity = .mark ∨ s.line.activity = .busy)) := by
  decide +kernel

theorem test_witness_LineStateChanges_further :
    (let b : StartBit := ⟨142, 0x5B, .followed⟩;
      let s : State := withLine { Line.reset with state := .stuck, receiver := .taking 99999 [0x5B] };
      let v : State := after .frameBrokenOff s;
      s.handedOver = true ∧ s.line.state = .stuck ∧ 142 ≤ s.line.countAt b.quiet
        ∧ (s.line.activity = .mark ∨ s.line.activity = .busy) ∧ exec .frameBrokenOff s = .next v)
      ∧ (let c : Instr := .voteReceived 4 6 2 1;
        let s : State := withLine { Line.reset with state := .stuck, quiet := 142 };
        let v : State := after .frameBrokenOff s;
        frameArrival c = true ∧ s.handedOver = true ∧ s.line.activity = .mark ∧ s.line.state = .stuck
          ∧ 142 ≤ s.line.quiet ∧ exec .frameBrokenOff s = .next v)
      ∧ (let s : State := withLine { Line.reset with state := .stuck, queue := [.presence (presenceBody node)] };
        let v : State := after .frameBrokenOff s; let g : OutFrame := .presence (presenceBody node);
        let f : OutFrame := .presence (presenceBody node); let gs : List OutFrame := ([] : List OutFrame);
        let rest : List OutFrame := ([] : List OutFrame);
        s.handedOver = true ∧ s.line.state = .stuck ∧ s.line.holding = none ∧ s.line.shift = none
          ∧ (s.line.activity = .mark ∨ s.line.activity = .busy) ∧ s.line.queue = g :: gs
          ∧ 142 ≤ s.line.countAt (frameGap s.station g) ∧ exec .frameBrokenOff s = .next v
          ∧ v.line.queue = f :: rest)
      ∧ (let s : State := withLine { Line.reset with state := .stuck, quiet := 141, queue := [.restart 6] };
        let g : OutFrame := .restart 6; let gs : List OutFrame := ([] : List OutFrame);
        s.handedOver = true ∧ s.line.queue = g :: gs ∧ (s.line.activity = .mark ∨ s.line.activity = .busy)
          ∧ (s.line.state = .listenOnly
              ∨ s.line.state = .stuck ∧ s.line.countAt (frameGap s.station g) < 142)) := by
  refine ⟨⟨by decide +kernel, by decide +kernel, by decide +kernel, by decide +kernel, brokenOff_after _⟩,
    ⟨by decide +kernel, by decide +kernel, by decide +kernel, by decide +kernel, by decide +kernel, brokenOff_after _⟩,
    ⟨by decide +kernel, by decide +kernel, by decide +kernel, by decide +kernel, by decide +kernel, by decide +kernel,
      by decide +kernel, brokenOff_after _, by decide +kernel⟩,
    by decide +kernel⟩

theorem test_witness_PresencesArePlaced :
    (let s : State := { node with time := 100500 }; let d : Instant := 100500;
      s.line.presenceDeadline = some d ∧ before s.time d = false) := by
  decide +kernel

theorem test_witness_FramesReachTheirPresenceEntry :
    (let source : Byte := 31; let zone : Byte := 15; let level : Byte := 3; let s : State := node;
      let l : Level := .fire;
      s.handedOver = true ∧ validSource source = true ∧ source.toNat ≠ s.station
        ∧ levelOfCode level.toNat = some l ∧ 1 ≤ zone.toNat ∧ zone.toNat ≤ 15 ∧ QuietSettled s)
      ∧ (let source : Byte := 1; let zone : Byte := 16; let level : Byte := 3; let s : State := node;
        s.handedOver = true ∧ validSource source = true ∧ source.toNat ≠ s.station
          ∧ (3 < level.toNat ∨ zone.toNat = 0 ∨ 15 < zone.toNat))
      ∧ (let source : Byte := 31; let zone : Byte := 15; let level : Byte := 3; let s : State := node;
        let l : Level := .fire;
        s.handedOver = true ∧ validSource source = true ∧ source.toNat ≠ s.station
          ∧ levelOfCode level.toNat = some l ∧ 1 ≤ zone.toNat ∧ zone.toNat ≤ 15 ∧ QuietSettled s)
      ∧ (let source : Byte := 1; let zone : Byte := 16; let level : Byte := 3; let s : State := node;
        s.handedOver = true ∧ validSource source = true ∧ source.toNat ≠ s.station
          ∧ (3 < level.toNat ∨ zone.toNat = 0 ∨ 15 < zone.toNat))
      ∧ (let source : Byte := 31; let s : State := node;
        s.handedOver = true ∧ validSource source = true ∧ source.toNat ≠ s.station ∧ QuietSettled s) := by
  decide +kernel

theorem test_witness_FramesReachTheirPresenceEntry_further :
    (let source : Byte := 31; let zone : Half := 15; let s : State := node;
      s.handedOver = true ∧ validSource source = true ∧ source.toNat ≠ s.station
        ∧ zone.toNat ≠ s.cfg.homeZone ∧ s.zoneRecord zone.toNat = none ∧ QuietSettled s) := by
  decide +kernel

theorem test_witness_FramesReachTheirPresenceEntry_recount :
    (let source : Byte := 4; let zone : Byte := 6; let level : Byte := 3; let reason : Byte := 6;
        let s : State := hearing []; let l : Level := .fire; let r : Zone := zoneAt 6;
        s.operating = true ∧ s.handedOver = true ∧ validSource source = true ∧ source.toNat ≠ s.station
          ∧ levelOfCode level.toNat = some l ∧ 1 ≤ zone.toNat ∧ zone.toNat ≤ 15 ∧ QuietSettled s
          ∧ s.zoneRecord zone.toNat = some r ∧ (r.confirmed = true → r.fireStart.isSome = true)
          ∧ (s.peers[stationIndex source].state ≠ .live ∨ s.peers[stationIndex source].homeZone ≠ some
              zone.toNat ∨ s.peers[stationIndex source].vote ≠ some ⟨l, reasonOfCode reason.toNat⟩))
      ∧ (let source : Byte := 4; let zone : Byte := 6; let level : Byte := 3; let reason : Byte := 6;
        let s : State := hearing []; let l : Level := .fire; let r : Zone := zoneAt 6;
        s.operating = true ∧ s.handedOver = true ∧ validSource source = true ∧ source.toNat ≠ s.station
          ∧ levelOfCode level.toNat = some l ∧ 1 ≤ zone.toNat ∧ zone.toNat ≤ 15 ∧ QuietSettled s
          ∧ s.zoneRecord zone.toNat = some r ∧ (r.confirmed = true → r.fireStart.isSome = true)
          ∧ (s.peers[stationIndex source].state ≠ .live ∨ s.peers[stationIndex source].homeZone ≠ some
              zone.toNat ∨ s.peers[stationIndex source].vote ≠ some ⟨l, reasonOfCode reason.toNat⟩)) := by
  decide +kernel

theorem test_witness_FramesReachTheirPresenceEntry_byteByByte :
    (let source : Byte := 4; let zone : Byte := 6; let level : Byte := 2; let reason : Byte := 1;
        let data : Byte := 0x29; let stop : StopBit := .mark; let start : Instant := 99999;
        let bytes : List Byte := [0x5B, 0x22, 4, 6, 2, 1, 0x53];
        let s : State := withLine { Line.reset with
            receiver := .taking 99999 [0x5B, 0x22, 4, 6, 2, 1, 0x53]
            activity := .byte 0x29 .mark };
        s.pending = [] ∧ dueCommand s = none ∧ s.line.activity = .byte data stop
          ∧ s.line.receiver = .taking start bytes ∧ (stop = .mark ∨ stop = .followed)
          ∧ bytes ++ [data] = [0x5B, 0x22, source, zone, level, reason] ++ bytes2 (crc16 [0x22, source, zone,
              level, reason]).toNat)
      ∧ (let source : Byte := 4; let zone : Byte := 6; let level : Byte := 2; let reason : Byte := 1;
        let c : Byte := 0x53; let data : Byte := 0x28; let stop : StopBit := .mark;
        let start : Instant := 99999;
        let s : State := withLine { Line.reset with
            receiver := .taking 99999 [0x5B, 0x22, 4, 6, 2, 1, 0x53]
            activity := .byte 0x28 .mark };
        s.handedOver = true ∧ s.pending = [] ∧ dueCommand s = none ∧ s.line.activity = .byte data stop
          ∧ s.line.receiver = .taking start [0x5B, 0x22, source, zone, level, reason, c]
          ∧ (stop = .mark ∨ stop = .followed)
          ∧ [c, data] ≠ bytes2 (crc16 [0x22, source, zone, level, reason]).toNat) := by
  decide +kernel

theorem test_witness_SilentPeersKeepTheirFields :
    (let n : Fin 32 := 4; let s : State := { hearing [watchOfFour] with time := 80000 };
      due s.time s.peers[n].silence = true ∧ s.peers[n].state = .live) := by
  decide +kernel

theorem test_witness_RestartsAreAcceptedOrRefused :
    (let source : Byte := 4; let zone : Half := 6;
      let s : State := { hearing [] with zones := { node.zones with ring := [11206] } };
      s.operating = true ∧ s.handedOver = true ∧ validSource source = true ∧ source.toNat ≠ s.station
        ∧ s.peers[stationIndex source].state = .live ∧ zone.toNat = s.cfg.homeZone ∧ HomeFirst s
        ∧ s.sequencer.state = .halted ∧ s.zones.momentary = momentaryVote s
        ∧ (s.zones.momentary.level = .clear ∨ s.zones.momentary.level = .watch) ∧ s.recentDetection = false
        ∧ QuietSettled s) := by
  decide +kernel

theorem test_witness_RestartsAreAcceptedOrRefused_further :
    (let source : Byte := 4; let zone : Half := 6;
        let s : State := { hearing [] with zones := { node.zones with ring := [11207] } };
        let r : Zone := zoneAt 6; let rest : List Zone := ([] : List Zone);
        s.operating = true ∧ s.handedOver = true ∧ validSource source = true ∧ source.toNat ≠ s.station
          ∧ s.peers[stationIndex source].state = .live ∧ zone.toNat = s.cfg.homeZone
          ∧ s.zones.zones = r :: rest ∧ r.zone = s.cfg.homeZone ∧ QuietSettled s
          ∧ (s.sequencer.state ≠ .halted ∨ s.zones.momentary.level = .halt ∨ s.zones.momentary.level = .fire ∨
              s.recentDetection = true))
      ∧ (let source : Byte := 4; let zone : Half := 7;
        let s : State := { hearing [] with zones := { node.zones with zones := [zoneAt 6, zoneAt 7] } };
        let r : Zone := zoneAt 7;
        s.operating = true ∧ s.handedOver = true ∧ validSource source = true ∧ source.toNat ≠ s.station
          ∧ s.peers[stationIndex source].state = .live ∧ zone.toNat ≠ s.cfg.homeZone
          ∧ s.zoneRecord zone.toNat = some r ∧ QuietSettled s) := by
  decide +kernel

theorem test_witness_ZoneUnitDeadlinesExpire :
    (let s : State := { node with zones := { node.zones with ring := [40000], ringDeadline := some 100000 } };
      s.operating = true ∧ due s.time s.zones.ringDeadline = true)
      ∧ (let s : State := { node with zones := { node.zones with haltedAt := some 90000 } };
        let h : Instant := 90000;
        s.zones.haltedAt = some h ∧ s.zones.aged = false
          ∧ before s.time (later h (s.cfg.window * 1000)) = false)
      ∧ (let z : Nat := 6;
        let s : State := { node with
            zones := { node.zones with
                zones := [{ zoneAt 6 with fireStart := some 80000, fireDeadline := some 100000 }]
                own := ⟨.fire, .flame⟩ } };
        let r : Zone := { zoneAt 6 with fireStart := some 80000, fireDeadline := some 100000 };
        s.operating = true ∧ s.zoneRecord z = some r ∧ due s.time r.fireDeadline = true
          ∧ 1 ≤ votesAt s z .fire) := by
  decide +kernel

theorem test_witness_FlameStopsThePlant :
    (let i : Fin 2 := 1; let s : State := node;
      s.handedOver = true ∧ s.operating = true ∧ s.level (fhInput i) = false ∧ HomeFirst s
        ∧ s.zones.own.level ≠ .fire ∧ s.homeView ≠ .fire)
      ∧ (let i : Fin 2 := 0;
        let s : State := setLevel .fh0 true { node with
            zones := { node.zones with latched := some ⟨.fire, .flame⟩ } };
        let v : Vote := ⟨.fire, .flame⟩;
        s.handedOver = true ∧ s.operating = true ∧ s.level (fhInput i) = true ∧ s.zones.latched = some v
          ∧ v.level = .fire) := by
  decide +kernel

theorem test_witness_StepsCompleteOrFault :
    (let s : State := withSequencer (stepping .feedStopping);
      s.handedOver = true ∧ s.operating = true ∧ s.level .fsc = false ∧ s.sequencer.state = .feedStopping
        ∧ s.cfg.roles.abort = true ∧ s.level .gv = false)
      ∧ (let s : State := withSequencer (stepping .damperClosing);
        s.handedOver = true ∧ s.operating = true ∧ s.level .dmc = false ∧ s.sequencer.state = .damperClosing)
      ∧ (let i : ConfirmInput := .gn; let s : State := withSequencer (stepping .gateReturning);
        s.handedOver = true ∧ s.operating = true ∧ s.level (confirmInput i) = false
          ∧ inputConfirms i s.sequencer.state = true)
      ∧ (let i : ConfirmInput := .gn; let active : Bool := true;
        let s : State := withSequencer (stepping .venting);
        s.handedOver = true ∧ s.level (confirmInput i) ≠ active
          ∧ (active = true → inputConfirms i s.sequencer.state = false))
      ∧ (let s : State := withSequencer (stepping .runOn);
        s.operating = true ∧ due s.time s.sequencer.stepTimer = true ∧ s.sequencer.state = .runOn)
      ∧ (let s : State := withSequencer (stepping .fanStopping);
        s.operating = true ∧ due s.time s.sequencer.stepTimer = true
          ∧ (s.sequencer.state = .feedStopping ∨ s.sequencer.state = .venting ∨ s.sequencer.state =
              .fanStopping ∨ s.sequencer.state = .damperClosing ∨ s.sequencer.state = .damperOpening ∨
              s.sequencer.state = .gateReturning))
      ∧ (let s : State := withSequencer (stepping .fanStarting);
        s.operating = true ∧ due s.time s.sequencer.stepTimer = true ∧ s.sequencer.state = .fanStarting) := by
  decide +kernel

theorem test_witness_KeySequenceMakesRequests :
    (let s : State := node;
      s.handedOver = true ∧ s.operating = true ∧ s.level .k1 = false ∧ s.sequencer.key = .idle)
      ∧ (let s : State := setLevel .k1 true keyTurned;
        s.handedOver = true ∧ s.operating = true ∧ s.level .k1 = true ∧ s.sequencer.key ≠ .idle)
      ∧ (let s : State := keyTurned;
        due s.time s.sequencer.unlockDeadline = true ∧ s.sequencer.key = .keyTurned)
      ∧ (let s : State := node;
        s.handedOver = true ∧ s.level .k2 = false ∧ s.sequencer.key ≠ .keyTurned)
      ∧ (let s : State := setLevel .k2 true node;
        s.handedOver = true ∧ s.level .k2 = true)
      ∧ (let s : State := { keyTurned with zones := { node.zones with ring := [40001] } };
        s.handedOver = true ∧ s.operating = true ∧ s.level .k2 = false ∧ s.sequencer.key = .keyTurned
          ∧ (s.sequencer.state ≠ .halted ∨ s.zones.momentary.level = .halt ∨ s.zones.momentary.level = .fire ∨
              s.recentDetection = true))
      ∧ (let s : State := { keyTurned with zones := { node.zones with ring := [40000] } };
        s.handedOver = true ∧ s.operating = true ∧ s.level .k2 = false ∧ s.sequencer.key = .keyTurned
          ∧ s.sequencer.state = .halted ∧ s.zones.momentary = momentaryVote s
          ∧ (s.zones.momentary.level = .clear ∨ s.zones.momentary.level = .watch) ∧ HomeFirst s
          ∧ s.recentDetection = false ∧ RestartLaw s) := by
  decide +kernel

theorem test_witness_DoorsFollowTheirSwitches :
    (let d : Fin 2 := 0;
      let s : State := withDoor { Door.reset with
          state := .jammed
          holder := false
          views := [(6, .fire)]
          clearDeadline := some 100000
          travelDeadline := some 100000 };
      s.handedOver = true ∧ s.operating = true ∧ s.level (dcInput d) = false
        ∧ ((s.doors.get d).state = .clearing ∨ (s.doors.get d).state = .released ∨ (s.doors.get d).state =
            .jammed))
      ∧ (let d : Fin 2 := 0; let s : State := node;
        s.handedOver = true ∧ s.operating = true ∧ s.level (dcInput d) = false
          ∧ (s.doors.get d).state = .held)
      ∧ (let d : Fin 2 := 0;
        let s : State := setLevel .dc0 true (withDoor { Door.reset with
            state := .armed
            holder := true
            views := [(6, .fire)]
            clearDeadline := some 100000
            travelDeadline := some 100000 });
        s.handedOver = true ∧ s.operating = true ∧ s.level (dcInput d) = true
          ∧ (s.doors.get d).state = .armed)
      ∧ (let d : Fin 2 := 0;
        let s : State := setLevel .dc0 true (withDoor { Door.reset with
            state := .closed
            holder := false
            views := [(6, .fire)]
            clearDeadline := some 100000
            travelDeadline := some 100000 });
        s.handedOver = true ∧ s.operating = true ∧ s.level (dcInput d) = true
          ∧ (s.doors.get d).state = .closed)
      ∧ (let d : Fin 2 := 0;
        let s : State := withDoor { Door.reset with
            state := .clearing
            holder := true
            views := [(6, .fire)]
            clearDeadline := some 100000
            travelDeadline := some 100000 };
        s.handedOver = true ∧ s.operating = true ∧ s.level (ccInput d) = false
          ∧ (s.doors.get d).state = .clearing ∧ s.level (dcInput d) = false)
      ∧ (let d : Fin 2 := 0; let s : State := node;
        s.handedOver = true ∧ s.level (ccInput d) = false ∧ (s.doors.get d).state ≠ .clearing)
      ∧ (let d : Fin 2 := 1; let s : State := setLevel .cc1 true node;
        s.handedOver = true ∧ s.level (ccInput d) = true)
      ∧ (let d : Fin 2 := 0;
        let s : State := withDoor { Door.reset with
            state := .clearing
            holder := true
            views := [(6, .fire)]
            clearDeadline := some 100000
            travelDeadline := some 100000 };
        s.operating = true ∧ due s.time (s.doors.get d).clearDeadline = true
          ∧ (s.doors.get d).state = .clearing ∧ s.level (dcInput d) = false)
      ∧ (let d : Fin 2 := 0;
        let s : State := withDoor { Door.reset with
            state := .released
            holder := false
            views := [(6, .fire)]
            clearDeadline := some 100000
            travelDeadline := some 100000 };
        s.operating = true ∧ due s.time (s.doors.get d).travelDeadline = true
          ∧ (s.doors.get d).state = .released) := by
  decide +kernel

theorem test_witness_SirensCycleAndFallSilent :
    (let s : State := withSiren { Siren.reset with
        sounding := .steady
        output := true
        views := [(6, .fire)]
        cycles := some 0 };
      s.handedOver = true ∧ s.operating = true ∧ s.level .sil = false)
      ∧ (let s : State := setLevel .sil true node;
        s.handedOver = true ∧ s.level .sil = true)
      ∧ (let i : Fin 2 := 0;
        let s : State := withSiren { Siren.reset with
            sounding := .pulse
            output := true
            views := [(6, .fire)]
            phase := some .on
            phaseDeadline := some 100000 };
        s.operating = true ∧ due s.time (s.sirens.sirens.get i).phaseDeadline = true)
      ∧ (let i : Fin 2 := 0;
        let s : State := withSiren { Siren.reset with
            sounding := .pulse
            output := true
            views := [(6, .fire)]
            cycleDeadline := some 100000
            cycles := some 65535 };
        let n : Nat := 65535;
        s.operating = true ∧ due s.time (s.sirens.sirens.get i).cycleDeadline = true
          ∧ (s.sirens.sirens.get i).pendingRise = false ∧ (s.sirens.sirens.get i).sounding = .pulse
          ∧ (s.sirens.sirens.get i).cycles = some n)
      ∧ (let i : Fin 2 := 0;
        let s : State := withSiren { Siren.reset with
            sounding := .steady
            output := true
            views := [(6, .fire)]
            cycleDeadline := some 100000
            cycles := some 0 };
        let n : Nat := 0;
        s.operating = true ∧ due s.time (s.sirens.sirens.get i).cycleDeadline = true
          ∧ (s.sirens.sirens.get i).pendingRise = false ∧ (s.sirens.sirens.get i).sounding = .steady
          ∧ (s.sirens.sirens.get i).cycles = some n)
      ∧ (let i : Fin 2 := 0;
        let s : State := withSiren { Siren.reset with
            sounding := .pulse
            output := true
            views := [(6, .fire)]
            cycleDeadline := some 100000
            cycles := some 0
            pendingRise := true };
        let n : Nat := 0;
        s.operating = true ∧ due s.time (s.sirens.sirens.get i).cycleDeadline = true
          ∧ (s.sirens.sirens.get i).pendingRise = true ∧ (s.sirens.sirens.get i).cycles = some n)
      ∧ (let i : Fin 2 := 0;
        let s : State := withSiren { Siren.reset with
            sounding := .quiet
            output := false
            views := [(6, .fire)]
            resoundDeadline := some 100000
            silenced := some .fire };
        s.operating = true ∧ due s.time (s.sirens.sirens.get i).resoundDeadline = true) := by
  decide +kernel

theorem test_witness_EventsArePosted :
    (let s : State := withStore { LogStore.reset with
        state := .idle
        buffer := List.replicate 30 (recordIn .clear) };
      s.log.store.state = .idle ∧ s.log.events.queue = [] ∧ s.log.events.lost = 0
        ∧ s.log.store.buffer.length < 31)
      ∧ (let s : State := { node with
          log := { node.log with
              events := ⟨List.replicate 32 (recordIn .clear), 0, .keepOldest⟩
              store := { LogStore.reset with state := .full } } };
        s.log.store.state ≠ .idle ∧ s.log.events.queue.length = 32 ∧ s.log.events.mode = .keepOldest)
      ∧ (let s : State := { node with
          log := { node.log with
              events := ⟨List.replicate 32 (recordIn .clear), 0, .keepNewest⟩
              store := { LogStore.reset with state := .full } } };
        let h : Record := recordIn .clear; let rest : List Record := List.replicate 31 (recordIn .clear);
        s.log.store.state ≠ .idle ∧ s.log.events.queue = h :: rest ∧ rest.length = 31
          ∧ s.log.events.mode = .keepNewest) := by
  decide +kernel

theorem test_witness_PageProgramsComplete :
    (let b : Fin 16 := 5; let p : Fin 16 := 3; let s : State := programmingAt 3;
      MemoryLaw s ∧ s.log.store.state = .programming ∧ s.log.store.position = some (b, p))
      ∧ (let b : Fin 16 := 5; let p : Fin 16 := 3; let s : State := programmingAt 3;
        s.log.store.state = .programming ∧ s.log.store.position = some (b, p)
          ∧ s.log.headers[b].counts[p] < 4 ∧ s.log.store.buffer.length < 32
          ∧ s.log.store.unprogrammed.any (fun r => decide (r.context = .fire)) = false
          ∧ s.log.events.queue = [] ∧ s.log.store.flushPending = false)
      ∧ (let b : Fin 16 := 5; let p : Fin 16 := 14;
        let s : State := { programmingAt 14 with
            log := { (programmingAt 14).log with
                headers := State.reset.log.headers.set 5 { BlockHeader.blank with
                    counts := Vector.replicate 16 4 } } };
        s.log.store.state = .programming ∧ s.log.store.position = some (b, p)
          ∧ s.log.headers[b].counts[p] = 4 ∧ p.val < 15 ∧ s.log.store.table[b].isProtected = false
          ∧ s.log.store.table[b].retired = false
          ∧ s.log.store.unprogrammed.any (fun r => decide (r.context = .fire)) = false
          ∧ s.log.events.queue = [])
      ∧ (let b : Fin 16 := 5; let p : Fin 16 := 3; let s : State := programmingAt 3;
        s.log.store.state = .programming ∧ s.log.store.position = some (b, p)) := by
  decide +kernel

theorem test_witness_ErasesComplete :
    (let b : Fin 16 := 6; let p : Fin 16 := 0;
      let s : State := withStore { LogStore.reset with state := .erasing, position := some (6, 0) };
      s.log.store.state = .erasing ∧ s.log.store.position = some (b, p))
      ∧ (let b : Fin 16 := 6; let p : Fin 16 := 0;
        let s : State := withStore { LogStore.reset with state := .erasing, position := some (6, 0) };
        s.log.store.state = .erasing ∧ s.log.store.position = some (b, p)) := by
  decide +kernel

theorem test_witness_AreaWritesAreApplied :
    (let s : State := withPort (.executing 0x07 [0, 0, 0, 0, 0, 0, 0, 0] .logOperation);
      s.startup.state ≠ .resetting ∧ s.service.port ≠ .idle)
      ∧ (let s : State := withPort (.executing 0x07 [0, 0, 0, 0, 0, 0, 0, 0] .logOperation);
        s.startup.state ≠ .resetting ∧ s.service.port ≠ .idle)
      ∧ (let s : State := withPort (.executing 0x07 [0, 0, 0, 0, 0, 0, 0, 0] .logOperation);
        s.startup.state ≠ .resetting ∧ s.service.port ≠ .idle)
      ∧ (let c : Byte := 13; let s : State := node;
        s.portReady ∧ 12 < c.toNat)
      ∧ (let s : State := node;
        s.startup.state ≠ .resetting ∧ (s.service.port ≠ .idle ∨ s.service.command = 0))
      ∧ (let s : State := { node with service := { Service.reset with command := 6, status := 1 } };
        s.startup.state ≠ .resetting ∧ s.service.port = .idle ∧ s.service.status ≠ 0
          ∧ s.service.command = 0x06)
      ∧ (let s : State := { node with service := { Service.reset with command := 13, status := 1 } };
        s.startup.state ≠ .resetting ∧ s.service.port = .idle ∧ s.service.status ≠ 0
          ∧ 12 < s.service.command.toNat)
      ∧ (let s : State := { node with service := { Service.reset with status := 1 } };
        s.startup.state ≠ .resetting ∧ s.service.status ≠ 0)
      ∧ (let s : State := { node with pending := [.readLogPosition] };
        PortLaw s ∧ answers (step s) = true) := by
  decide +kernel

theorem test_witness_ReadingCommandsAnswer :
    (let s : State := node;
      s.portReady)
      ∧ (let s : State := node;
        s.portReady)
      ∧ (let n : Byte := 15; let s : State := { node with zones := { node.zones with zones := [zoneAt 15] } };
        let z : Zone := zoneAt 15;
        s.portReady ∧ s.zoneRecord n.toNat = some z ∧ 1 ≤ n.toNat ∧ n.toNat ≤ 15)
      ∧ (let n : Byte := 16; let s : State := node;
        s.portReady ∧ s.zoneRecord n.toNat = none)
      ∧ (let s : State := node;
        s.portReady)
      ∧ (let n : Byte := 4; let s : State := node;
        s.portReady ∧ 3 < n.toNat)
      ∧ (let s : State := node;
        s.portReady)
      ∧ (let n : Byte := 2; let s : State := node;
        s.portReady ∧ 1 < n.toNat)
      ∧ (let s : State := node;
        s.portReady)
      ∧ (let s : State := node; let b : Fin 16 := 5; let p : Fin 16 := 3;
        s.portReady ∧ s.log.store.position = some (b, p))
      ∧ (let n : Fin 4 := 1; let s : State := withChannel (channelIn .armed); let b : Nat := 3200;
        s.portReady ∧ (s.channels.get n).baseline = some b)
      ∧ (let s : State := node;
        s.portReady)
      ∧ (let s : State := node;
        s.portReady) := by
  decide +kernel

theorem test_witness_LogCommandsAnswer :
    (let n : Byte := 31; let s : State := node;
      s.portReady ∧ n.toNat ≤ 31)
      ∧ (let b : Byte := 16; let p : Byte := 0; let n : Byte := 0; let s : State := node;
        s.portReady ∧ (15 < b.toNat ∨ 15 < p.toNat ∨ 31 < n.toNat))
      ∧ (let b : Fin 16 := 5; let p : Fin 16 := 3; let c : Fin 16 := 15; let d : Fin 16 := 15;
        let n : Fin 32 := 31;
        let s : State := { programmingAt 3 with
            service := { Service.reset with
                port := .executing 0x07 [15, 15, 31, 0, 0, 0, 0, 0] .logOperation } };
        s.log.store.state = .programming ∧ s.log.store.position = some (b, p)
          ∧ s.service.port = .executing 0x07 [BitVec.ofNat 8 c.val, BitVec.ofNat 8 d.val, BitVec.ofNat 8
              n.val, 0, 0, 0, 0, 0] .logOperation)
      ∧ (let b : Fin 16 := 5; let p : Fin 16 := 3;
        let s : State := withStore { LogStore.reset with
            state := .idle
            position := some (5, 3)
            buffer := [recordIn .halt] };
        s.portReady ∧ s.log.store.state = .idle ∧ s.log.store.position = some (b, p)
          ∧ s.log.store.unprogrammed ≠ [])
      ∧ (let s : State := node;
        s.portReady ∧ s.log.store.state = .idle ∧ s.log.store.unprogrammed = [])
      ∧ (let s : State := withStore { LogStore.reset with state := .full };
        s.portReady ∧ s.log.store.state ≠ .idle)
      ∧ (let b : Fin 16 := 5;
        let s : State := setLevel .k1 true (withStore { LogStore.reset with
            state := .idle
            table := tableWith true false });
        s.portReady ∧ s.portKey = true ∧ s.log.store.table[b].isProtected = true
          ∧ s.log.store.table[b].retired = false ∧ s.log.store.state ≠ .full)
      ∧ (let b : Fin 16 := 5;
        let s : State := setLevel .k1 true (withStore { LogStore.reset with
            state := .full
            table := tableWith true false
            nextSequence := 4294967294 });
        s.portReady ∧ s.portKey = true ∧ s.log.store.table[b].isProtected = true
          ∧ s.log.store.table[b].retired = false ∧ s.log.store.state = .full
          ∧ s.log.store.nextSequence ≤ 4294967294)
      ∧ (let b : Fin 16 := 5;
        let s : State := setLevel .k1 true (withStore { LogStore.reset with
            state := .idle
            table := tableWith true true });
        s.portReady ∧ s.portKey = true
          ∧ (s.log.store.table[b].isProtected = false ∨ s.log.store.table[b].retired = true))
      ∧ (let s : State := node;
        s.portReady ∧ s.portKey = false) := by
  decide +kernel

theorem test_witness_ConfigurationCommandsAskTheMemory :
    (let o : Half := 496; let s : State := node;
      s.portReady ∧ o.toNat ≤ 496 ∧ s.startup.stage ≠ some .image)
      ∧ (let o : Half := 0; let s : State := starting .image;
        s.portReady ∧ o.toNat ≤ 496 ∧ s.startup.stage = some .image)
      ∧ (let o : Half := 497; let s : State := node;
        s.portReady ∧ 496 < o.toNat)
      ∧ (let o : Half := 508; let s : State := setLevel .k1 true node;
        s.portReady ∧ s.portKey = true ∧ o.toNat ≤ 508 ∧ o.toNat % 4 = 0 ∧ s.startup.stage ≠ some .image)
      ∧ (let s : State := node;
        s.portReady ∧ s.portKey = false)
      ∧ (let o : Half := 509; let s : State := setLevel .k1 true node;
        s.portReady ∧ s.portKey = true ∧ (508 < o.toNat ∨ o.toNat % 4 ≠ 0))
      ∧ (let o : Half := 496;
        let s : State := { withPort (.executing 0x0A (bytes2 496 ++ [0, 0, 0, 0, 0, 0]) .configMemory) with
            startup := { node.startup with memoryDeadline := some 100000 } };
        s.service.port = .executing 0x0A (bytes2 o.toNat ++ [0, 0, 0, 0, 0, 0]) .configMemory
          ∧ s.answerLate = false)
      ∧ (let o : Half := 508; let d : BitVec 32 := 1;
        let s : State := { withPort (.executing 0x0B (bytes2 508 ++ bytes4 1 ++ [0, 0]) .configMemory) with
            startup := { node.startup with memoryDeadline := some 100000 } };
        MemoryLaw s
          ∧ s.service.port = .executing 0x0B (bytes2 o.toNat ++ bytes4 d.toNat ++ [0, 0]) .configMemory
          ∧ s.answerLate = false) := by
  decide +kernel

theorem test_witness_ConfigurationCommandsAskTheMemory_further :
    (let o : Half := 496;
      let s : State := { withPort (.executing 0x0A (bytes2 496 ++ [0, 0, 0, 0, 0, 0]) .configMemory) with
          startup := { node.startup with memoryDeadline := some 99999 } };
      let d : Instant := 99999;
      s.service.port = .executing 0x0A (bytes2 o.toNat ++ [0, 0, 0, 0, 0, 0]) .configMemory
        ∧ s.startup.memoryDeadline = some d ∧ before d s.time = true)
      ∧ (let o : Half := 508;
        let s : State := { starting .image with
            inputs := { Inputs.reset with raw := Inputs.reset.raw.set 4 true } };
        s.portReady ∧ s.portKey = true ∧ o.toNat ≤ 508 ∧ o.toNat % 4 = 0 ∧ s.startup.stage = some .image)
      ∧ (let o : Half := 508; let d : BitVec 32 := 1;
        let s : State := { withPort (.executing 0x0B (bytes2 508 ++ bytes4 1 ++ [0, 0]) .configMemory) with
            startup := { node.startup with memoryDeadline := some 99999 } };
        let e : Instant := 99999;
        s.service.port = .executing 0x0B (bytes2 o.toNat ++ bytes4 d.toNat ++ [0, 0]) .configMemory
          ∧ s.startup.memoryDeadline = some e ∧ before e s.time = true)
      ∧ (let o : Half := 508; let d : BitVec 32 := 1;
        let s : State := { withPort (.executing 0x0B (bytes2 508 ++ bytes4 1 ++ [0, 0]) .configMemory) with
            startup := { node.startup with memoryDeadline := some 100000 } };
        s.service.port = .executing 0x0B (bytes2 o.toNat ++ bytes4 d.toNat ++ [0, 0]) .configMemory
          ∧ s.startup.stage ≠ some .image ∧ due s.time s.startup.memoryDeadline = true)
      ∧ (let c : Byte := 0x0A; let params : List Byte := [1, 240, 0, 0, 0, 0, 0, 0];
        let s : State := { starting .image with
            startup := { (starting .image).startup with memoryDeadline := some 0 }
            service := { Service.reset with port := .executing 0x0A [1, 240, 0, 0, 0, 0, 0, 0] .imageRead } };
        s.startup.stage = some .image ∧ s.service.port = .executing c params .imageRead)
      ∧ (let c : Byte := 0x0A; let params : List Byte := [1, 240, 0, 0, 0, 0, 0, 0];
        let s : State := { starting .image with
            startup := { (starting .image).startup with memoryDeadline := some 0 }
            service := { Service.reset with port := .executing 0x0A [1, 240, 0, 0, 0, 0, 0, 0] .imageRead } };
        s.startup.stage = some .image ∧ s.service.port = .executing c params .imageRead
          ∧ due s.time s.startup.memoryDeadline = true)
      ∧ (let s : State := { withPort (.executing 0x0A [1, 240, 0, 0, 0, 0, 0, 0] .configMemory) with
          startup := { node.startup with memoryDeadline := some 100000 } };
        let c : Byte := 0x0A; let params : List Byte := [1, 240, 0, 0, 0, 0, 0, 0]; let d : Instant := 100000;
        s.pending = [] ∧ s.service.port = .executing c params .configMemory
          ∧ s.startup.memoryDeadline = some d ∧ before s.time d = false) := by
  decide +kernel

end Sys2Proof.Tests
end

section
/-! SUPPORT. The part of the log that the posting of events leaves as it stands (R158 to R164), kept by every operation
that only posts events, moves the plant or reports to the zone unit; and from it the equation of a state with its frame
`State.withZonesOf`. -/

namespace Sys2Proof.Machine

/-! ## The log but for what posting can change -/

/-- A block's header but for its pages' program counts. -/
def BlockHeader.marks (h : BlockHeader) : BlockHeader := { h with counts := Vector.replicate 16 0 }

/-- The log store but for what the taking of records and the start of a program change. -/
def LogStore.rest (l : LogStore) : LogStore := { l with state := .idle, buffer := [], flushPending := false }

/-- The log but for what the posting of events can change: what `State.withLogOf` takes from the first state. -/
def LogSystem.rest (g : LogSystem) : LogSystem :=
  { g with events := ⟨[], 0, .keepOldest⟩, store := g.store.rest, headers := g.headers.map BlockHeader.marks }

/-- R159: an event that joins the queue. -/
@[simp] theorem rest_events (g : LogSystem) (q : EventQueue) : LogSystem.rest { g with events := q } = g.rest := rfl

/-- R160, R162: a record taken. -/
@[simp] theorem rest_takeOne (stamp : Record) (g : LogSystem) : (takeOne stamp g).rest = g.rest := by
  unfold takeOne
  split <;> rfl

/-- R162: the waiting records taken. -/
@[simp] theorem rest_takeWaiting (stamp : Record) (n : Nat) (g : LogSystem) :
    (takeWaiting stamp n g).rest = g.rest := by
  induction n generalizing g with
  | zero => rfl
  | succ n ih =>
    unfold takeWaiting
    split
    · rw [ih, rest_takeOne]
    · rfl

/-- The marks stand where the program counts of a block's header change. -/
theorem map_marks_set_counts (hs : Vector BlockHeader 16) (b : Fin 16) (c : Vector Nat 16) :
    (hs.set b { hs[b] with counts := c }).map BlockHeader.marks = hs.map BlockHeader.marks := by
  have hm : BlockHeader.marks { hs[b] with counts := c } = (hs.map BlockHeader.marks)[b] := by
    simp [BlockHeader.marks]
  rw [Vector.map_set, hm]
  exact Vector.set_getElem_self b.isLt

/-- R164: the start of a program raises a program count alone. -/
@[simp] theorem rest_startProgram (g : LogSystem) : (startProgram g).rest = g.rest := by
  unfold startProgram
  split
  · rfl
  · simp only [LogSystem.rest, LogStore.rest, map_marks_set_counts]

/-- R162, R163: a record taken in IDLE. -/
@[simp] theorem rest_takeInIdle (stamp : Record) (g : LogSystem) : (takeInIdle stamp g).rest = g.rest := by
  unfold takeInIdle
  dsimp only
  (repeat' split) <;> simp

/-- R163: an evidence flush asked for. -/
@[simp] theorem rest_requestFlush (g : LogSystem) : (requestFlush g).1.rest = g.rest := by
  unfold requestFlush
  split
  · split <;> simp
  · split <;> rfl

/-- R158: a posted event. -/
@[simp] theorem logRest_post (kind : EventKind) (subject value1 value2 flags : Nat) (s : State) :
    (post kind subject value1 value2 flags s).log.rest = s.log.rest := by
  simp [post]

/-- R155: a fault report. -/
@[simp] theorem logRest_reportFault (m : FaultMember) (b : Bool) (s : State) :
    (reportFault m b s).log.rest = s.log.rest := by
  unfold reportFault
  split <;> simp

/-! ## The extraction sequencer -/

/-- R130: a STEP event. -/
@[simp] theorem logRest_postStep (subject code value2 : Nat) (s : State) :
    (postStep subject code value2 s).log.rest = s.log.rest := by
  simp [postStep]

/-- R118: the entry to HALTED. -/
@[simp] theorem logRest_enterHalted (cause : HaltedCause) (s : State) :
    (enterHalted cause s).log.rest = s.log.rest := by
  simp [enterHalted]

/-- R128: the entry to RUNNING. -/
@[simp] theorem logRest_enterRunning (s : State) : (enterRunning s).log.rest = s.log.rest := by
  simp [enterRunning]

/-- R110, R113: the entry to a step, where what follows it keeps the rest of the log. -/
theorem logRest_enterStep {st : SeqState} {inRole : Bool} {limit : Nat} {confirmed : Bool} {next : State → State}
    (h : ∀ s, (next s).log.rest = s.log.rest) (s : State) :
    (enterStep st inRole limit confirmed next s).log.rest = s.log.rest := by
  unfold enterStep
  dsimp only
  (repeat' split) <;> simp [h]

/-- The entry to DAMPER_CLOSING. -/
@[simp] theorem logRest_enterDamperClosing (s : State) : (enterDamperClosing s).log.rest = s.log.rest :=
  logRest_enterStep (logRest_enterHalted .shutdown) s

/-- The entry to FAN_STOPPING. -/
@[simp] theorem logRest_enterFanStopping (s : State) : (enterFanStopping s).log.rest = s.log.rest :=
  logRest_enterStep logRest_enterDamperClosing s

/-- The entry to RUN_ON. -/
@[simp] theorem logRest_enterRunOn (s : State) : (enterRunOn s).log.rest = s.log.rest :=
  logRest_enterStep logRest_enterFanStopping s

/-- The entry to VENTING. -/
@[simp] theorem logRest_enterVenting (s : State) : (enterVenting s).log.rest = s.log.rest :=
  logRest_enterStep logRest_enterRunOn s

/-- The entry to FEED_STOPPING. -/
@[simp] theorem logRest_enterFeedStopping (s : State) : (enterFeedStopping s).log.rest = s.log.rest :=
  logRest_enterStep logRest_enterVenting s

/-- The entry to FEED_WAIT. -/
@[simp] theorem logRest_enterFeedWait (s : State) : (enterFeedWait s).log.rest = s.log.rest := by
  unfold enterFeedWait
  dsimp only
  (repeat' split) <;> simp

/-- The entry to GATE_RETURNING. -/
@[simp] theorem logRest_enterGateReturning (s : State) : (enterGateReturning s).log.rest = s.log.rest :=
  logRest_enterStep logRest_enterFeedWait s

/-- The entry to FAN_STARTING. -/
@[simp] theorem logRest_enterFanStarting (s : State) : (enterFanStarting s).log.rest = s.log.rest :=
  logRest_enterStep logRest_enterGateReturning s

/-- The step that follows a step. -/
@[simp] theorem logRest_nextStep (st : SeqState) (s : State) : (nextStep st s).log.rest = s.log.rest := by
  cases st <;> simp [nextStep]

/-- The completion of a step. -/
@[simp] theorem logRest_completeStep (code : Nat) (s : State) : (completeStep code s).log.rest = s.log.rest := by
  simp [completeStep]

/-- R127: the reversal of a restart. -/
@[simp] theorem logRest_reversalStep (st : SeqState) (s : State) : (reversalStep st s).log.rest = s.log.rest := by
  cases st <;> simp [reversalStep]

/-- R112: a notice of the home zone's view at the sequencer. -/
@[simp] theorem logRest_sequencerNotice (view : Level) (s : State) :
    (sequencerNotice view s).log.rest = s.log.rest := by
  unfold sequencerNotice
  (repeat' split) <;> simp

/-! ## Doors and sirens -/

/-- R129: a demand placed. -/
@[simp] theorem logRest_placeDemand (d : Fin 2) (s : State) : (placeDemand d s).log.rest = s.log.rest := by
  unfold placeDemand
  dsimp only
  split <;> simp

/-- R129: a demand withdrawn. -/
@[simp] theorem logRest_withdrawDemand (d : Fin 2) (s : State) : (withdrawDemand d s).log.rest = s.log.rest := by
  unfold withdrawDemand
  dsimp only
  (repeat' split) <;> simp

/-- R143: a demand that follows its door. -/
@[simp] theorem logRest_syncDemand (d : Fin 2) (s : State) : (syncDemand d s).log.rest = s.log.rest := by
  unfold syncDemand
  dsimp only
  (repeat' split) <;> simp

/-- The entry to a door state. -/
@[simp] theorem logRest_setDoor (d : Fin 2) (st : DoorState) (cause : Nat) (s : State) :
    (setDoor d st cause s).log.rest = s.log.rest := by
  simp [setDoor]

/-- R139: the closing of a door. -/
@[simp] theorem logRest_closeDoor (d : Fin 2) (s : State) : (closeDoor d s).log.rest = s.log.rest := by
  unfold closeDoor
  dsimp only
  split <;> simp

/-- R138: the release of a door. -/
@[simp] theorem logRest_releaseDoor (d : Fin 2) (cause : Nat) (s : State) :
    (releaseDoor d cause s).log.rest = s.log.rest := by
  unfold releaseDoor
  dsimp only
  split <;> simp

/-- R136: the clearing of a door. -/
@[simp] theorem logRest_clearDoor (d : Fin 2) (s : State) : (clearDoor d s).log.rest = s.log.rest := by
  unfold clearDoor
  dsimp only
  (repeat' split) <;> simp

/-- R134: a notice of a zone's view at a door. -/
@[simp] theorem logRest_doorNotice (z : Nat) (view : Level) (d : Fin 2) (s : State) :
    (doorNotice z view d s).log.rest = s.log.rest := by
  unfold doorNotice
  dsimp only
  (repeat' split) <;> simp

/-- R148: a change of the sounding pattern. -/
@[simp] theorem logRest_sound (i : Fin 2) (p : Pattern) (s : State) : (sound i p s).log.rest = s.log.rest := by
  simp [sound]

/-- R149: a change of grant. -/
@[simp] theorem logRest_takeGrant (i : Fin 2) (old new : Pattern) (s : State) :
    (takeGrant i old new s).log.rest = s.log.rest := by
  unfold takeGrant
  dsimp only
  (repeat' split) <;> simp

/-- R151: the end of a silence. -/
@[simp] theorem logRest_endSilence (i : Fin 2) (cause : Nat) (s : State) :
    (endSilence i cause s).log.rest = s.log.rest := by
  simp [endSilence]

/-- R151: a silence judged. -/
@[simp] theorem logRest_judgeSilence (i : Fin 2) (level : Level) (s : State) :
    (judgeSilence i level s).log.rest = s.log.rest := by
  unfold judgeSilence
  dsimp only
  (repeat' split) <;> simp

/-- R147: a notice of a zone's view at a siren. -/
@[simp] theorem logRest_sirenNotice (z : Nat) (view : Level) (i : Fin 2) (s : State) :
    (sirenNotice z view i s).log.rest = s.log.rest := by
  unfold sirenNotice
  dsimp only
  (repeat' split) <;> simp

/-! ## The zone unit -/

/-- R103: a changed view at its four readers. -/
@[simp] theorem logRest_notifyView (z : Nat) (old new : Level) (s : State) :
    (notifyView z old new s).log.rest = s.log.rest := by
  unfold notifyView
  dsimp only
  (repeat' split) <;> simp

/-- `log.rest` is a steady reading. -/
theorem steady_logRest : Steady (fun s => s.log.rest) :=
  ⟨by simp, by simp, fun _ _ => rfl, by simp⟩

/-- R93: a report of conditions changes the line and the log at most where a handed vote and posted events reach. -/
@[simp] theorem reportConditions_rest (c : Conditions) (s : State) :
    (reportConditions c s).line.rest = s.line.rest ∧ (reportConditions c s).log.rest = s.log.rest := by
  unfold reportConditions
  split
  · exact ⟨recountOwn_keeps steady_lineRest _, recountOwn_keeps steady_logRest _⟩
  · exact ⟨rfl, rfl⟩

/-- R90: a detection at the zone unit. -/
@[simp] theorem ringDetection_rest (s : State) :
    (ringDetection s).line.rest = s.line.rest ∧ (ringDetection s).log.rest = s.log.rest :=
  ⟨recountOwn_keeps steady_lineRest _, recountOwn_keeps steady_logRest _⟩

/-! ## The valve sequencer and the predictor -/

/-- R59: the valve sequencer's report. -/
@[simp] theorem reportValves_rest (s : State) :
    (reportValves s).line.rest = s.line.rest ∧ (reportValves s).log.rest = s.log.rest := by
  simp [reportValves]

/-- R48: the beginning of a head window. -/
@[simp] theorem beginHead_rest (v : Fin 2) (s : State) :
    (beginHead v s).line.rest = s.line.rest ∧ (beginHead v s).log.rest = s.log.rest := by
  unfold beginHead
  dsimp only
  (repeat' split) <;> simp

/-- R45: a window added. -/
@[simp] theorem addWindow_rest (v : Fin 2) (w : Window) (s : State) :
    (addWindow v w s).line.rest = s.line.rest ∧ (addWindow v w s).log.rest = s.log.rest := by
  unfold addWindow
  dsimp only
  split <;> simp

/-- R51: a miss notice. -/
@[simp] theorem missNotice_rest (v : Fin 2) (origin : Nat) (closeAt : Instant) (substituted : Bool) (s : State) :
    (missNotice v origin closeAt substituted s).line.rest = s.line.rest
      ∧ (missNotice v origin closeAt substituted s).log.rest = s.log.rest := by
  simp [missNotice]

/-- R33: one prediction. -/
@[simp] theorem predict_rest (station : Nat) (first last : Instant) (e : WatchEntry) (v : Fin 2) (s : State) :
    (predict station first last e v s).line.rest = s.line.rest
      ∧ (predict station first last e v s).log.rest = s.log.rest := by
  unfold predict
  dsimp only
  (repeat' split) <;> simp

/-- R33: the predictions of one entry. -/
@[simp] theorem predictEntry_rest (station channel : Nat) (first last : Instant) (e : WatchEntry) (s : State) :
    (predictEntry station channel first last e s).line.rest = s.line.rest
      ∧ (predictEntry station channel first last e s).log.rest = s.log.rest := by
  unfold predictEntry
  dsimp only
  (repeat' split) <;> simp

/-- R32, R33: a detection at the predictor. -/
@[simp] theorem takeDetection_rest (station channel : Nat) (first last : Instant) (s : State) :
    (takeDetection station channel first last s).line.rest = s.line.rest
      ∧ (takeDetection station channel first last s).log.rest = s.log.rest :=
  ⟨takeDetection_keeps (g := fun t => t.line.rest) (by simp) station channel first last s,
   takeDetection_keeps (g := fun t => t.log.rest) (by simp) station channel first last s⟩

/-! ## A state and its frame -/

/-- The line is the other's with the queue and the holding stage taken from it. -/
theorem Line.eq_of_rest {k l : Line} (h : l.rest = k.rest) :
    l = { k with queue := l.queue, holding := l.holding } := by
  simp only [Line.rest, Line.mk.injEq] at h
  cases l
  simp_all

/-- The log is the other's with what posting can change taken from it. -/
theorem log_withLogOf_of_rest {u t : State} (h : t.log.rest = u.log.rest) : (u.withLogOf t).log = t.log := by
  simp only [LogSystem.rest, LogStore.rest, LogSystem.mk.injEq, LogStore.mk.injEq, true_and, and_true] at h
  obtain ⟨⟨htable, hposition, hprogrammed, hnext⟩, hheaders, harray⟩ := h
  have hcounts : Vector.zipWith (fun h g => { h with counts := g.counts }) u.log.headers t.log.headers
      = t.log.headers := by
    ext1 i hi
    have hi' := congrArg (·[i]) hheaders
    simp only [Vector.getElem_map, BlockHeader.marks, BlockHeader.mk.injEq, and_true] at hi'
    simp [← hi'.1, ← hi'.2.1, ← hi'.2.2]
  simp [State.withLogOf, hcounts, ← htable, ← hposition, ← hprogrammed, ← hnext, ← harray]

/-- The state but for what a change of vote or view can reach. -/
def State.beyondZones (s : State) : State :=
  { s with
    line := s.line.rest, log := s.log.rest, zones := State.reset.zones, sequencer := State.reset.sequencer
    doors := State.reset.doors, sirens := State.reset.sirens }

/-- States that agree beyond what a change of vote or view can reach: the one is the other with that taken from it. -/
theorem eq_withZonesOf {u t : State} (h : t.beyondZones = u.beyondZones) : t = u.withZonesOf t := by
  simp only [State.beyondZones, State.mk.injEq, true_and] at h
  obtain ⟨htime, hstartup, hconfig, hinputs, hchannels, hflow, hwatch, hvalves, hline, hpeers, hlog, hservice,
    hmemory, hfree, hpending⟩ := h
  have hl := Line.eq_of_rest hline
  have hg := log_withLogOf_of_rest hlog
  cases t
  simp only [State.withZonesOf, State.mk.injEq, true_and]
  exact ⟨htime, hstartup, hconfig, hinputs, hchannels, hflow, hwatch, hvalves, hl, hpeers, hg.symm, hservice,
    hmemory, hfree, hpending⟩

end Sys2Proof.Machine
end

section
/-! SUPPORT. What a sample does at a channel (R3 to R17) and what leaves the channel with it (R11, R18, R19). -/

namespace Sys2Proof

/-- A member set to what it is changes nothing. -/
@[simp] theorem Quad.set_get_self {α : Type} (q : Quad α) (i : Fin 4) : q.set i (q.get i) = q := by
  unfold Quad.set Quad.get
  (repeat' split) <;> rfl

end Sys2Proof

namespace Sys2Proof.Machine

/-! ## The baseline update (R5) -/

/-- A quotient truncated toward zero lies between 0 and its dividend. -/
theorem tdiv_between {a d : Int} (hd : 0 < d) : min a 0 ≤ a.tdiv d ∧ a.tdiv d ≤ max a 0 := by
  have habs : (a.tdiv d).natAbs ≤ a.natAbs := Int.natAbs_tdiv_le_natAbs a d
  rcases le_total 0 a with ha | ha
  · have hq : 0 ≤ a.tdiv d := Int.tdiv_nonneg ha hd.le
    omega
  · have hq : 0 ≤ (-a).tdiv d := Int.tdiv_nonneg (by omega) hd.le
    rw [Int.neg_tdiv] at hq
    omega

/-- R5: the updated baseline lies between the baseline and 64x. -/
theorem update_between (k x b : Nat) :
    min (b : Int) (64 * x) ≤ b + Int.tdiv (64 * (x : Int) - b) (2 ^ k)
      ∧ (b : Int) + Int.tdiv (64 * (x : Int) - b) (2 ^ k) ≤ max (b : Int) (64 * x) := by
  obtain ⟨hlow, hhigh⟩ := tdiv_between (a := 64 * (x : Int) - b) (d := 2 ^ k) (by positivity)
  omega

/-- R5: the baseline moves by the truncated quotient: no update goes below 0. -/
theorem updateBaseline_cast (k x b : Nat) :
    (updateBaseline k x b : Int) = b + Int.tdiv (64 * (x : Int) - b) (2 ^ k) := by
  have hlow := (update_between k x b).1
  unfold updateBaseline
  push_cast
  omega

/-- R5: a baseline within the range of 64 times a sample stays there. -/
theorem updateBaseline_le {x b : Nat} (k : Nat) (hb : b ≤ 65472) (hx : x < 1024) : updateBaseline k x b ≤ 65472 := by
  have hhigh := (update_between k x b).2
  rw [← updateBaseline_cast] at hhigh
  omega

/-! ## One sample at one channel record -/

section
variable (k : ChannelConfig) (now : Instant) (x : Nat)

/-- R3: a channel that is OFF takes no sample. -/
theorem channelSample_off {c : Channel} (h : c.state = .off) : channelSample k now x c = (c, .nothing) := by
  simp [channelSample, h]

/-- R5: a sample in a state that tracks, with a baseline, updates it. -/
theorem channelSample_tracks {c : Channel} {b : Nat} (h : c.state.tracks) (hb : c.baseline = some b) :
    channelSample k now x c = trackSample k now x b c := by
  rcases h with h | h | h | h <;> simp [channelSample, h, hb]

/-- R9: a sample in PULSE. -/
theorem channelSample_pulse {c : Channel} (h : c.state = .pulse) : channelSample k now x c = pulseSample k x c := by
  simp [channelSample, h]

/-- R12: a sample in QUALIFIED. -/
theorem channelSample_qualified {c : Channel} (h : c.state = .qualified) :
    channelSample k now x c = qualifiedSample k x c := by
  simp [channelSample, h]

/-- R14: a sample in GLOW. -/
theorem channelSample_glow {c : Channel} (h : c.state = .glow) : channelSample k now x c = glowSample k x c := by
  simp [channelSample, h]

/-- R8: a pulse that begins leaves the baseline and the last sample. -/
theorem beginPulse_keeps (c : Channel) :
    (beginPulse k now x c).1.baseline = c.baseline ∧ (beginPulse k now x c).1.last = c.last := by
  unfold beginPulse
  dsimp only
  split <;> exact ⟨rfl, rfl⟩

/-- R5: in whatever state a sample leaves a channel that tracks, its baseline is the updated one. -/
theorem trackSample_baseline (b : Nat) (c : Channel) :
    (trackSample k now x b c).1.baseline = some (updateBaseline k.shift x b)
      ∧ (trackSample k now x b c).1.last = some x := by
  unfold trackSample
  dsimp only
  (repeat' split) <;> simp [beginPulse_keeps]

/-- R9: in PULSE the baseline stays. -/
theorem pulseSample_baseline (c : Channel) :
    (pulseSample k x c).1.baseline = c.baseline ∧ (pulseSample k x c).1.last = some x := by
  unfold pulseSample
  dsimp only
  (repeat' split) <;> exact ⟨rfl, rfl⟩

/-- R12: in QUALIFIED the baseline stays. -/
theorem qualifiedSample_baseline (c : Channel) :
    (qualifiedSample k x c).1.baseline = c.baseline ∧ (qualifiedSample k x c).1.last = some x := by
  unfold qualifiedSample
  dsimp only
  split <;> exact ⟨rfl, rfl⟩

/-- R14: in GLOW the baseline stays. -/
theorem glowSample_baseline (c : Channel) :
    (glowSample k x c).1.baseline = c.baseline ∧ (glowSample k x c).1.last = some x := by
  unfold glowSample
  dsimp only
  split <;> exact ⟨rfl, rfl⟩

/-- R5: a sample in a frozen state leaves the baseline. -/
theorem channelSample_frozen {c : Channel} (h : c.state.frozen) :
    (channelSample k now x c).1.baseline = c.baseline ∧ (channelSample k now x c).1.last = some x := by
  rcases h with h | h | h
  · rw [channelSample_pulse k now x h]
    exact pulseSample_baseline k x c
  · rw [channelSample_qualified k now x h]
    exact qualifiedSample_baseline k x c
  · rw [channelSample_glow k now x h]
    exact glowSample_baseline k x c

/-- R6: the trip level at the baseline held. -/
theorem tripLevel_eq {c : Channel} {b : Nat} (hb : c.baseline = some b) : tripLevel k c = k.tripAt b := by
  simp [tripLevel, Channel.baselineCount, hb]

/-- R6: the re-arm level at the baseline held. -/
theorem rearmLevel_eq {c : Channel} {b : Nat} (hb : c.baseline = some b) : rearmLevel k c = k.rearmAt b := by
  simp [rearmLevel, tripLevel_eq k hb]

/-- R9: a sample at trip in PULSE that does not complete qualification. -/
theorem pulseSample_trip {c : Channel} {b n p : Nat} (hb : c.baseline = some b) (hrun : c.run = some n)
    (hpeak : c.peak = some p) (htrip : k.tripAt b ≤ x) (hq : n + 1 ≠ k.qualifyCount) :
    pulseSample k x c = ({ c with run := some (n + 1), peak := some (max p x), last := some x }, .nothing) := by
  simp [pulseSample, tripLevel_eq k hb, htrip, hrun, hq, raisePeak, hpeak]

/-- R9: a sample in the band between re-arm and trip in PULSE. -/
theorem pulseSample_band {c : Channel} {b : Nat} (hb : c.baseline = some b) (htrip : x < k.tripAt b)
    (hrearm : k.rearmAt b ≤ x) : pulseSample k x c = ({ c with last := some x }, .nothing) := by
  simp only [pulseSample, tripLevel_eq k hb, rearmLevel_eq k hb, Nat.not_le.2 htrip, Nat.not_lt.2 hrearm, if_false]

/-- R9: a sample below re-arm in PULSE ends the pulse as a short one. -/
theorem pulseSample_below {c : Channel} {b : Nat} (hb : c.baseline = some b) (htrip : x < k.tripAt b)
    (hrearm : x < k.rearmAt b) :
    pulseSample k x c
      = ({ endPulse { c with last := some x } with shortPulses := min (c.shortPulses + 1) 65535 }, .nothing) := by
  simp only [pulseSample, tripLevel_eq k hb, rearmLevel_eq k hb, Nat.not_le.2 htrip, hrearm, if_true, if_false]

/-- R12: a sample at or above re-arm in QUALIFIED raises the peak alone. -/
theorem qualifiedSample_above {c : Channel} {b : Nat} (hb : c.baseline = some b) (hrearm : k.rearmAt b ≤ x) :
    qualifiedSample k x c = (raisePeak x { c with last := some x }, .nothing) := by
  simp only [qualifiedSample, rearmLevel_eq k hb, Nat.not_lt.2 hrearm, if_false]

/-- R12: a sample below re-arm in QUALIFIED ends the pulse. -/
theorem qualifiedSample_below {c : Channel} {b : Nat} (hb : c.baseline = some b) (hrearm : x < k.rearmAt b) :
    qualifiedSample k x c = (endPulse (raisePeak x { c with last := some x }), .nothing) := by
  simp only [qualifiedSample, rearmLevel_eq k hb, hrearm, if_true]

end

/-! ## What leaves the channel -/

/-- R70, R74: a hand-over to the outbound queue reaches the queue and the holding stage alone. -/
@[simp] theorem lineRest_changeQueue (f : OutFrame) (change : OutFrame → OutFrame) (s : State) :
    (changeQueue f change s).line.rest = s.line.rest := by
  simp only [changeQueue, judgeGap, holdHead, Line.rest]
  (repeat' split) <;> rfl

/-- R71: a detection handed to the line interface. -/
@[simp] theorem lineRest_handDetection (ch : Fin 4) (t : Instant) (peak : Nat) (s : State) :
    (handDetection ch t peak s).line.rest = s.line.rest :=
  lineRest_changeQueue _ _ s

/-- R18: the channels' report. -/
@[simp] theorem reportChannels_rest (s : State) :
    (reportChannels s).line.rest = s.line.rest ∧ (reportChannels s).log.rest = s.log.rest := by
  simp [reportChannels]

/-- R19: a CHANNEL event. -/
@[simp] theorem logRest_postChannel (ch : Fin 4) (s : State) : (postChannel ch s).log.rest = s.log.rest := by
  simp [postChannel]

/-- R11: a detection. -/
@[simp] theorem detection_rest (ch : Fin 4) (s : State) :
    (detection ch s).line.rest = s.line.rest ∧ (detection ch s).log.rest = s.log.rest := by
  unfold detection
  dsimp only
  split <;> simp

/-- R3 to R19: a sample changes the line and the log at most where events and hand-overs reach. -/
@[simp] theorem takeSample_rest (ch : Fin 4) (x : Nat) (s : State) :
    (takeSample ch x s).line.rest = s.line.rest ∧ (takeSample ch x s).log.rest = s.log.rest := by
  unfold takeSample
  dsimp only
  split <;> simp

/-- A sample sets its channel's record, and no other's. -/
@[simp] theorem channels_takeSample (ch : Fin 4) (x : Nat) (s : State) :
    (takeSample ch x s).channels
      = s.channels.set ch (channelSample (s.cfg.channels.get ch) s.time x (s.channels.get ch)).1 := by
  unfold takeSample
  dsimp only
  split <;> simp

/-- A sample that leads to nothing outside its record. -/
theorem takeSample_nothing {ch : Fin 4} {x : Nat} {s : State} {c : Channel}
    (h : channelSample (s.cfg.channels.get ch) s.time x (s.channels.get ch) = (c, .nothing)) :
    takeSample ch x s = { s with channels := s.channels.set ch c } := by
  simp [takeSample, h]

/-- All in which the state after a sample may differ: the channel, the valves and what a vote or a view can reach. -/
theorem takeSample_eq_withZonesOf (ch : Fin 4) (x : Nat) (s : State) :
    takeSample ch x s
      = ({ s with
          channels := s.channels.set ch ((takeSample ch x s).channels.get ch)
          valves := (takeSample ch x s).valves }).withZonesOf (takeSample ch x s) :=
  eq_withZonesOf (by simp [State.beyondZones])

/-- SAMPLE is the taking of a sample. -/
theorem exec_sample (ch : Fin 4) (x : BitVec 10) (s : State) :
    exec (.sample ch x) s = .next (takeSample ch x.toNat s) := rfl

/-- SAMPLE where it leads to nothing outside the channel's record. -/
theorem exec_sample_nothing {ch : Fin 4} {x : BitVec 10} {s : State} {c : Channel}
    (h : channelSample (s.cfg.channels.get ch) s.time x.toNat (s.channels.get ch) = (c, .nothing)) :
    exec (.sample ch x) s = .next { s with channels := s.channels.set ch c } := by
  rw [exec_sample, takeSample_nothing h]

/-- Settles O25: the three clauses of R5 and R3, with the frame of a sample. -/
theorem sampleMovesTheBaseline : Obligations.SampleMovesTheBaseline := by
  refine ⟨fun ch x s b htracks hb => ?_, fun ch x s hfrozen => ?_, fun ch x s hoff => ?_⟩
  · obtain ⟨hbase, hlast⟩ := trackSample_baseline (s.cfg.channels.get ch) s.time x.toNat b (s.channels.get ch)
    rw [← channelSample_tracks _ _ _ htracks hb] at hbase hlast
    refine ⟨_, exec_sample ch x s, ?_, fun hle => ?_, ?_, takeSample_eq_withZonesOf ch x.toNat s⟩
    · simp [hbase, updateBaseline_cast]
    · simpa [hbase] using updateBaseline_le _ hle x.isLt
    · simpa using hlast
  · obtain ⟨hbase, hlast⟩ := channelSample_frozen (s.cfg.channels.get ch) s.time x.toNat hfrozen
    exact ⟨_, exec_sample ch x s, by simpa using hbase, by simpa using hlast, takeSample_eq_withZonesOf ch x.toNat s⟩
  · rw [exec_sample_nothing (channelSample_off _ _ _ hoff), Quad.set_get_self]

/-- Settles O27: each clause is one branch of R9 or R12, and none leads to anything outside the channel's record. -/
theorem sampleInPulseAndQualified : Obligations.SampleInPulseAndQualified := by
  refine ⟨fun ch x s b n p hst hb hrun hpeak htrip hq => ?_, fun ch x s b hst hb htrip hrearm => ?_,
    fun ch x s b hst hb htrip hrearm => ?_, fun ch x s b p hst hb hpeak hrearm => ?_,
    fun ch x s b p hst hb hpeak hrearm => ?_⟩
  · exact exec_sample_nothing
      ((channelSample_pulse _ _ _ hst).trans (pulseSample_trip _ _ hb hrun hpeak htrip hq))
  · exact exec_sample_nothing ((channelSample_pulse _ _ _ hst).trans (pulseSample_band _ _ hb htrip hrearm))
  · exact exec_sample_nothing ((channelSample_pulse _ _ _ hst).trans (pulseSample_below _ _ hb htrip hrearm))
  · rw [exec_sample_nothing ((channelSample_qualified _ _ _ hst).trans (qualifiedSample_above _ _ hb hrearm))]
    simp [raisePeak, hpeak]
  · rw [exec_sample_nothing ((channelSample_qualified _ _ _ hst).trans (qualifiedSample_below _ _ hb hrearm))]
    simp [endPulse, raisePeak, hpeak]

end Sys2Proof.Machine
end

section
/-! SUPPORT. The flow unit (R23 to R30): the integer square root, one sample at the flow record, and what a changed flow
record reaches. -/

namespace Sys2Proof.Machine

/-! ## The integer square root -/

/-- The powers of two below 2^k, the greatest first. -/
def bitsBelow : Nat → List Nat
  | 0 => []
  | k + 1 => 2 ^ k :: bitsBelow k

/-- `isqrt` judges the ten bits below 2^10. -/
theorem isqrt_eq_foldl_bitsBelow (n : Nat) : isqrt n = (bitsBelow 10).foldl (isqrtBit n) 0 := rfl

/-- One bit halves the interval in which the root lies. -/
theorem isqrtBit_bounds {n r bit : Nat} (hle : r * r ≤ n) (hlt : n < (r + 2 * bit) * (r + 2 * bit)) :
    isqrtBit n r bit * isqrtBit n r bit ≤ n ∧ n < (isqrtBit n r bit + bit) * (isqrtBit n r bit + bit) := by
  unfold isqrtBit
  split
  case isTrue hkept => exact ⟨hkept, by rwa [Nat.add_assoc, ← Nat.two_mul]⟩
  case isFalse hdropped => exact ⟨hle, Nat.lt_of_not_le hdropped⟩

/-- A root known to 2^k is the floor of the square root once the bits below 2^k are judged. -/
theorem foldl_isqrtBit_eq_sqrt {n : Nat} (k : Nat) {r : Nat} (hle : r * r ≤ n)
    (hlt : n < (r + 2 ^ k) * (r + 2 ^ k)) : (bitsBelow k).foldl (isqrtBit n) r = Nat.sqrt n := by
  induction k generalizing r with
  | zero => exact Nat.eq_sqrt.2 ⟨hle, hlt⟩
  | succ k ih =>
    rw [Nat.pow_succ'] at hlt
    obtain ⟨hle', hlt'⟩ := isqrtBit_bounds hle hlt
    exact ih hle' hlt'

/-- Introduction, section 6.2: below 2^20 the bitwise root is the floor of the square root. -/
theorem isqrt_eq_sqrt {n : Nat} (h : n < 2 ^ 20) : isqrt n = Nat.sqrt n := by
  rw [isqrt_eq_foldl_bitsBelow]
  exact foldl_isqrtBit_eq_sqrt 10 (Nat.zero_le n) (by omega)

/-! ## Average and velocity (R24, R25) -/

/-- R24: a history to which a count has been joined. -/
theorem joinHistory_eq (c : Nat) (h : List Nat) :
    joinHistory c h = (if h.length < 8 then h else h.drop 1) ++ [c] := by
  unfold joinHistory
  split <;> rfl

/-- R24: a good sample's history, emptied first in LOST. -/
theorem goodSample_history (cfg : ConfigSet) (c : Nat) (f : Flow) :
    (goodSample cfg c f).history
      = (if f.status = .lost then []
          else if f.history.length < 8 then f.history else f.history.drop 1) ++ [c] := by
  simp only [goodSample, joinHistory_eq]
  split <;> rfl

/-- A good sample's history is not empty. -/
theorem goodSample_history_ne_nil (cfg : ConfigSet) (c : Nat) (f : Flow) : (goodSample cfg c f).history ≠ [] := by
  simp [goodSample_history]

/-- R23: a good sample's history holds 12-bit counts where the history before it does. -/
theorem goodSample_history_le {cfg : ConfigSet} {c : Nat} {f : Flow} (hc : c ≤ 4095)
    (hf : ∀ d ∈ f.history, d ≤ 4095) : ∀ d ∈ (goodSample cfg c f).history, d ≤ 4095 := by
  intro d hd
  rw [goodSample_history, List.mem_append, List.mem_singleton] at hd
  obtain hold | rfl := hd
  · split at hold
    · cases hold
    · split at hold
      · exact hf d hold
      · exact hf d (List.mem_of_mem_drop hold)
  · exact hc

/-- R24: the average of a history that is not empty. -/
theorem average_of_ne_nil {h : List Nat} (hne : h ≠ []) : average h = some (h.sum / h.length) := by
  simp [average, hne, List.sum_eq_foldl]

/-- An average is no greater than a bound of the counts. -/
theorem sum_div_length_le {h : List Nat} {m : Nat} (hm : ∀ d ∈ h, d ≤ m) : h.sum / h.length ≤ m :=
  Nat.div_le_of_le_mul (by simpa using List.sum_le_card_nsmul h m hm)

/-- R25: a good sample's velocity, by the floor of the square root. -/
theorem goodSample_velocity {cfg : ConfigSet} {c : Nat} {f : Flow} (hc : c ≤ 4095)
    (hf : ∀ d ∈ f.history, d ≤ 4095) :
    (goodSample cfg c f).velocity
      = min 600 (cfg.kv
          * Nat.sqrt (8 * ((goodSample cfg c f).history.sum / (goodSample cfg c f).history.length)) / 64) := by
  have hvelocity : (goodSample cfg c f).velocity
      = velocityOf cfg.kv ((average (goodSample cfg c f).history).getD 0) := rfl
  have hbound := sum_div_length_le (goodSample_history_le (cfg := cfg) hc hf)
  rw [hvelocity, average_of_ne_nil (goodSample_history_ne_nil cfg c f), Option.getD_some, velocityOf,
    isqrt_eq_sqrt (by omega)]

/-- R28: a good sample's status. -/
theorem goodSample_status (cfg : ConfigSet) (c : Nat) (f : Flow) :
    (goodSample cfg c f).status = if cfg.vMin ≤ (goodSample cfg c f).velocity then .ok else .lowFlow := rfl

/-- R28: a good sample discards the hold deadline. -/
theorem goodSample_holdDeadline (cfg : ConfigSet) (c : Nat) (f : Flow) :
    (goodSample cfg c f).holdDeadline = none := rfl

/-! ## Bad samples (R23, R26) -/

/-- R23: what a bad sample is. -/
theorem badPressure_eq_true_iff {count : BitVec 12} {fault : Bool} :
    badPressure count fault = true ↔ fault = true ∨ count.toNat = 4095 := by
  simp [badPressure]

/-- R26: a bad sample in OK or LOW_FLOW. -/
theorem badSample_holds {now : Instant} {f : Flow} (h : f.status = .ok ∨ f.status = .lowFlow) :
    badSample now f = { f with status := .hold, holdDeadline := some (later now 5000) } :=
  if_pos h

/-- R26: a bad sample in HOLD or LOST. -/
theorem badSample_stands {now : Instant} {f : Flow} (h : f.status = .hold ∨ f.status = .lost) :
    badSample now f = f :=
  if_neg (by obtain h | h := h <;> simp [h])

/-! ## What a changed flow record reaches (R29, R30) -/

/-- R114: a step that the flow confirms. -/
@[simp] theorem logRest_confirmByFlow (s : State) : (confirmByFlow s).log.rest = s.log.rest := by
  unfold confirmByFlow
  split <;> simp

/-- R29: a change of status changes the line and the log at most where a handed vote and posted events reach. -/
@[simp] theorem reportFlow_rest (s : State) :
    (reportFlow s).line.rest = s.line.rest ∧ (reportFlow s).log.rest = s.log.rest := by
  have hline := reportingHalt_keeps steady_lineRest (f := confirmByFlow) (by simp)
  have hlog := reportingHalt_keeps steady_logRest (f := confirmByFlow) (by simp)
  unfold reportFlow
  dsimp only
  split <;> simp [hline, hlog]

/-- A changed flow record changes the line and the log at most where its report reaches. -/
@[simp] theorem setFlow_rest (f : Flow) (s : State) :
    (setFlow f s).line.rest = s.line.rest ∧ (setFlow f s).log.rest = s.log.rest := by
  unfold setFlow
  dsimp only
  split <;> simp

/-- The flow record is the one it is set to. -/
@[simp] theorem flow_setFlow (f : Flow) (s : State) : (setFlow f s).flow = f := by
  unfold setFlow
  dsimp only
  split <;> simp

/-- The flow record set to what it is changes nothing. -/
@[simp] theorem setFlow_self (s : State) : setFlow s.flow s = s := by
  simp [setFlow]

/-- All in which the state with a changed flow record may differ: the record and what a vote or a view can reach. -/
theorem setFlow_eq_withZonesOf (f : Flow) (s : State) :
    setFlow f s = ({ s with flow := f }).withZonesOf (setFlow f s) :=
  eq_withZonesOf (by simp [State.beyondZones])

/-! ## PRESSURE_SAMPLE -/

/-- PRESSURE_SAMPLE at the dispatch. -/
theorem exec_pressureSample (count : BitVec 12) (fault : Bool) (s : State) :
    exec (.pressureSample count fault) s = execPressureSample count fault s := rfl

/-- R24: PRESSURE_SAMPLE with a good sample after the hand-over. -/
theorem exec_pressureSample_good {count : BitVec 12} {s : State} (hover : s.handedOver = true)
    (hgood : count.toNat ≠ 4095) :
    exec (.pressureSample count false) s = .next (setFlow (goodSample s.cfg count.toNat s.flow) s) := by
  have hbad : ¬ badPressure count false = true := by simp [badPressure_eq_true_iff, hgood]
  simp [exec_pressureSample, execPressureSample, hover, hbad]

/-- R26: PRESSURE_SAMPLE with a bad sample after the hand-over. -/
theorem exec_pressureSample_bad {count : BitVec 12} {fault : Bool} {s : State} (hover : s.handedOver = true)
    (hbad : fault = true ∨ count.toNat = 4095) :
    exec (.pressureSample count fault) s = .next (setFlow (badSample s.time s.flow) s) := by
  simp [exec_pressureSample, execPressureSample, hover, badPressure_eq_true_iff.2 hbad]

/-- Settles O30: the good sample at the flow record, with the bitwise root exact below 2^20, and its frame. -/
theorem goodPressureSampleGivesVelocity : Obligations.GoodPressureSampleGivesVelocity := by
  intro count s hover hlaw hgood
  obtain ⟨_, hcounts⟩ := hlaw
  have hc : count.toNat ≤ 4095 := by omega
  have hf : ∀ d ∈ s.flow.history, d ≤ 4095 := fun d hd => (hcounts d hd).trans (by decide)
  refine ⟨_, exec_pressureSample_good hover hgood, ?_⟩
  simp only [flow_setFlow]
  exact ⟨goodSample_history _ _ _, goodSample_velocity hc hf, goodSample_status _ _ _,
    goodSample_holdDeadline _ _ _, setFlow_eq_withZonesOf _ s⟩

/-- Settles O31: in OK and LOW_FLOW the record goes to HOLD and the rest is the frame of a changed flow record; in HOLD
and LOST the record stands, and so does the state. -/
theorem badPressureSampleHolds : Obligations.BadPressureSampleHolds := by
  refine ⟨fun count fault s hover hbad hst => ?_, fun count fault s hover hbad hst => ?_⟩
  · refine ⟨_, exec_pressureSample_bad hover hbad, ?_⟩
    rw [badSample_holds hst]
    exact setFlow_eq_withZonesOf _ s
  · rw [exec_pressureSample_bad hover hbad, badSample_stands hst, setFlow_self]

end Sys2Proof.Machine
end

section
/-! SUPPORT. The arithmetic of transit times and their bounds (R36). -/

namespace Sys2Proof.Machine

/-- R36: the transit time is the floor of L × 1000 / v. -/
theorem transitTime_floor {L v : Nat} (hv : 0 < v) :
    transitTime L v * v ≤ L * 1000 ∧ L * 1000 < (transitTime L v + 1) * v :=
  ⟨Nat.div_mul_le_self _ _, (Nat.div_lt_iff_lt_mul hv).1 (Nat.lt_succ_self _)⟩

/-- A spark takes at least 1 ms where the velocity is at most 1000 times the length. -/
theorem one_le_transitTime {L v : Nat} (hv : 0 < v) (h : v ≤ L * 1000) : 1 ≤ transitTime L v :=
  Nat.div_pos h hv

/-- A bound of the transit time by a bound of length and velocity. -/
theorem transitTime_le {L v m : Nat} (h : L * 1000 ≤ v * m) : transitTime L v ≤ m :=
  Nat.div_le_of_le_mul h

/-- R36: the early bound is the floor of T × (100 - u) / 100. -/
theorem earlyBound_floor (T u : Nat) :
    earlyBound T u * 100 ≤ T * (100 - u) ∧ T * (100 - u) < (earlyBound T u + 1) * 100 := by
  unfold earlyBound
  omega

/-- R36: the late bound is the ceiling of T × (100 + u) / 100. -/
theorem lateBound_ceil (T u : Nat) :
    T * (100 + u) ≤ lateBound T u * 100 ∧ lateBound T u * 100 < T * (100 + u) + 100 := by
  unfold lateBound
  omega

/-- R36: the early bound is at most the transit time. -/
theorem earlyBound_le (T u : Nat) : earlyBound T u ≤ T := by
  have hshare : T * (100 - u) ≤ T * 100 := Nat.mul_le_mul_left T (Nat.sub_le 100 u)
  obtain ⟨hfloor, _⟩ := earlyBound_floor T u
  omega

/-- R36: the late bound is at least the transit time. -/
theorem le_lateBound (T u : Nat) : T ≤ lateBound T u := by
  have hshare : T * 100 ≤ T * (100 + u) := Nat.mul_le_mul_left T (Nat.le_add_right 100 u)
  obtain ⟨hceil, _⟩ := lateBound_ceil T u
  omega

/-- R36: with u = 0 the early bound is the transit time. -/
theorem earlyBound_zero (T : Nat) : earlyBound T 0 = T := by
  unfold earlyBound
  omega

/-- R36: with u = 0 the late bound is the transit time. -/
theorem lateBound_zero (T : Nat) : lateBound T 0 = T := by
  unfold lateBound
  omega

/-- Settles O33: the floors and the ceiling of R36, with the ranges from those of length and velocity. -/
theorem transitTimeAndBounds : Obligations.TransitTimeAndBounds := by
  intro L v u hL hL' hv hv' _
  have hpos : 0 < v := by omega
  refine ⟨transitTime_floor hpos, ⟨one_le_transitTime hpos (by omega), transitTime_le (by omega)⟩,
    fun hfast => transitTime_le (by omega), earlyBound_floor _ _, lateBound_ceil _ _,
    ⟨earlyBound_le _ _, le_lateBound _ _⟩, ?_⟩
  rintro rfl
  exact ⟨earlyBound_zero _, lateBound_zero _⟩

end Sys2Proof.Machine
end

section
/-! SUPPORT. R133's first sentence at every operation: the holder of a door is energized exactly in HELD, CLEARING and
ARMED. A door's state is written by `setDoor` and by a reset alone, each of which sets the holder with it; every other
operation leaves both, or calls `setDoor`. -/

namespace Sys2Proof.Machine

/-! ## The doors of which R133's first sentence holds -/

/-- R133: the holder is energized exactly in HELD, CLEARING and ARMED. -/
def Door.HolderFollows (x : Door) : Prop := x.holder = holderLevel x.state

/-- R133, at both doors. -/
def HoldersFollow (p : Pair Door) : Prop := ∀ d, (p.get d).HolderFollows

/-- The law of the two holders is R133's first sentence at both doors. -/
theorem holderLaw_iff (s : State) : HolderLaw s ↔ HoldersFollow s.doors :=
  (Fin.forall_fin_two (p := fun d => (s.doors.get d).HolderFollows)).symm

/-- R145: two doors after reset. -/
theorem holdersFollow_reset : HoldersFollow ⟨Door.reset, Door.reset⟩ := Fin.forall_fin_two.2 ⟨rfl, rfl⟩

/-- A door set of which the sentence holds keeps it for the pair. -/
theorem HoldersFollow.set {p : Pair Door} (h : HoldersFollow p) {d : Fin 2} {x : Door} (hx : x.HolderFollows) :
    HoldersFollow (p.set d x) := by
  intro e
  by_cases he : e = d
  · rw [he, Pair.get_set_same]; exact hx
  · rw [Pair.get_set_other p x he]; exact h e

/-- A door's views set. -/
@[simp] theorem HoldersFollow.set_views {p : Pair Door} (h : HoldersFollow p) {d : Fin 2}
    {views : List (Nat × Level)} : HoldersFollow (p.set d { p.get d with views := views }) :=
  h.set (h d)

/-- A door's demand set. -/
@[simp] theorem HoldersFollow.set_demand {p : Pair Door} (h : HoldersFollow p) {d : Fin 2} {demand : Bool} :
    HoldersFollow (p.set d { p.get d with demand := demand }) :=
  h.set (h d)

/-- Either of two states, of both of which the sentence holds. -/
theorem holdersFollow_ite {c : Prop} [Decidable c] {s t : State} (hs : HoldersFollow s.doors)
    (ht : HoldersFollow t.doors) : HoldersFollow (if c then s else t).doors := by
  split
  · exact hs
  · exact ht

section
variable {s : State}

/-! ## The door unit (section 7) -/

/-- R143: a demand that follows its door changes neither the door's state nor its holder. -/
@[simp] theorem holdersFollow_syncDemand (h : HoldersFollow s.doors) {d : Fin 2} :
    HoldersFollow (syncDemand d s).doors := by
  unfold syncDemand
  dsimp only
  (repeat' split) <;> simp [h]

/-- R133: the entry to a door state sets the holder to the state's level. -/
@[simp] theorem holdersFollow_setDoor (h : HoldersFollow s.doors) {d : Fin 2} {st : DoorState} {cause : Nat} :
    HoldersFollow (setDoor d st cause s).doors := by
  unfold setDoor
  refine holdersFollow_syncDemand ?_
  simp only [reportFault_frame, post_frame]
  exact h.set rfl

/-- R139: the closing of a door. -/
@[simp] theorem holdersFollow_closeDoor (h : HoldersFollow s.doors) {d : Fin 2} :
    HoldersFollow (closeDoor d s).doors := by
  unfold closeDoor
  exact holdersFollow_ite (by simp [h]) (by simp [h])

/-- R138: the release of a door. -/
@[simp] theorem holdersFollow_releaseDoor (h : HoldersFollow s.doors) {d : Fin 2} {cause : Nat} :
    HoldersFollow (releaseDoor d cause s).doors := by
  unfold releaseDoor
  exact holdersFollow_ite (by simp [h]) (by simp [h])

/-- R136: the clearing of a door. -/
@[simp] theorem holdersFollow_clearDoor (h : HoldersFollow s.doors) {d : Fin 2} :
    HoldersFollow (clearDoor d s).doors := by
  unfold clearDoor
  exact holdersFollow_ite (by simp [h]) (holdersFollow_ite (by simp [h]) (by simp [h]))

/-- R134: a notice of a zone's view changes the door's views, and its state by an entry alone. -/
@[simp] theorem holdersFollow_doorNotice (h : HoldersFollow s.doors) {z : Nat} {view : Level} {d : Fin 2} :
    HoldersFollow (doorNotice z view d s).doors := by
  unfold doorNotice
  dsimp only
  (repeat' split) <;> simp [h]

/-- R137 to R142: a closed switch. -/
@[simp] theorem holdersFollow_closedSwitch (h : HoldersFollow s.doors) {d : Fin 2} {active : Bool} :
    HoldersFollow (closedSwitch d active s).doors := by
  unfold closedSwitch
  split <;> simp [h]

/-- R137: a conveyor-clear input. -/
@[simp] theorem holdersFollow_conveyorClear (h : HoldersFollow s.doors) {d : Fin 2} {active : Bool} :
    HoldersFollow (conveyorClear d active s).doors :=
  holdersFollow_ite (holdersFollow_releaseDoor h) h

/-- R137: the clear deadline. -/
@[simp] theorem holdersFollow_expireClear (h : HoldersFollow s.doors) {d : Fin 2} :
    HoldersFollow (expireClear d s).doors :=
  holdersFollow_releaseDoor (by simpa using h)

/-- R135: the start state of a door. -/
@[simp] theorem holdersFollow_startDoor (h : HoldersFollow s.doors) {d : Fin 2} :
    HoldersFollow (startDoor d s).doors := by
  unfold startDoor
  exact holdersFollow_ite h (by simp [h])

/-! ## The zone unit (section 5) -/

/-- R103: of the four readers of a changed view, the door unit alone reaches a door. -/
@[simp] theorem holdersFollow_notifyView (h : HoldersFollow s.doors) {z : Nat} {old new : Level} :
    HoldersFollow (notifyView z old new s).doors := by
  have hseq (t : State) (ht : t.doors = s.doors) :
      HoldersFollow (doorNotice z new 1 (doorNotice z new 0 t)).doors := by simp [ht, h]
  unfold notifyView
  simp only [sirenNotice_frame]
  apply hseq
  (repeat' split) <;> simp

/-- R102: a recount of a zone, with a report of HALTED that keeps the sentence. -/
theorem holdersFollow_recountZoneWith {onHalt : State → State}
    (hhalt : ∀ {t : State}, HoldersFollow t.doors → HoldersFollow (onHalt t).doors) (h : HoldersFollow s.doors)
    {z : Nat} : HoldersFollow (recountZoneWith onHalt z s).doors := by
  unfold recountZoneWith
  dsimp only
  (repeat' split) <;> simp [h, hhalt]

/-- R94: a recount of the own vote, with a report of HALTED that keeps the sentence. -/
theorem holdersFollow_recountOwnWith {onHalt : State → State}
    (hhalt : ∀ {t : State}, HoldersFollow t.doors → HoldersFollow (onHalt t).doors) (h : HoldersFollow s.doors) :
    HoldersFollow (recountOwnWith onHalt s).doors := by
  unfold recountOwnWith
  exact holdersFollow_ite h (holdersFollow_recountZoneWith hhalt (by simpa using h))

/-- R92: the report of HALTED. -/
@[simp] theorem holdersFollow_reportHalted (h : HoldersFollow s.doors) : HoldersFollow (reportHalted s).doors := by
  unfold reportHalted
  exact holdersFollow_recountOwnWith id h

/-- R94: a recount of the own vote. -/
@[simp] theorem holdersFollow_recountOwn (h : HoldersFollow s.doors) : HoldersFollow (recountOwn s).doors :=
  holdersFollow_recountOwnWith holdersFollow_reportHalted h

/-- R102: a recount of a zone. -/
@[simp] theorem holdersFollow_recountZone (h : HoldersFollow s.doors) {z : Nat} :
    HoldersFollow (recountZone z s).doors :=
  holdersFollow_recountZoneWith holdersFollow_reportHalted h

/-- R99: a recount of every tracked zone. -/
@[simp] theorem holdersFollow_recountAllZones (h : HoldersFollow s.doors) :
    HoldersFollow (recountAllZones s).doors :=
  List.foldlRecOn (motive := fun (t : State) => HoldersFollow t.doors) _ _ h
    (fun _ ht _ _ => holdersFollow_recountZone ht)

/-- R118: an action that leaves the doors, with its report of HALTED. -/
theorem holdersFollow_reportingHalt {f : State → State} (hf : (f s).doors = s.doors) (h : HoldersFollow s.doors) :
    HoldersFollow (reportingHalt f s).doors := by
  rw [← hf] at h
  exact holdersFollow_ite (holdersFollow_reportHalted h) h

/-- R93: a report of conditions. -/
@[simp] theorem holdersFollow_reportConditions (h : HoldersFollow s.doors) {c : Conditions} :
    HoldersFollow (reportConditions c s).doors :=
  holdersFollow_ite (holdersFollow_recountOwn h) h

/-- R90: a detection at the zone unit. -/
@[simp] theorem holdersFollow_ringDetection (h : HoldersFollow s.doors) : HoldersFollow (ringDetection s).doors :=
  holdersFollow_recountOwn h

/-- R91: the ring deadline. -/
@[simp] theorem holdersFollow_expireRing (h : HoldersFollow s.doors) : HoldersFollow (expireRing s).doors :=
  holdersFollow_recountOwn h

/-- R101: a fire-pending deadline. -/
@[simp] theorem holdersFollow_expireFirePending (h : HoldersFollow s.doors) {z : Nat} :
    HoldersFollow (expireFirePending z s).doors := by
  simp [expireFirePending, h]

/-- R109: the zone unit takes up its work. -/
@[simp] theorem holdersFollow_startZoneUnit (h : HoldersFollow s.doors) : HoldersFollow (startZoneUnit s).doors :=
  holdersFollow_recountAllZones (holdersFollow_recountOwn h)

/-! ## Restarts (R104 to R106, R123, R124) -/

/-- R124: a restart sequence begins. -/
@[simp] theorem holdersFollow_beginRestart (h : HoldersFollow s.doors) {localRestart : Bool} :
    HoldersFollow (beginRestart localRestart s).doors := by
  unfold beginRestart
  exact holdersFollow_ite (by simp [h]) h

/-- R104: an accepted restart of the home zone. -/
@[simp] theorem holdersFollow_acceptRestart (h : HoldersFollow s.doors) {source : Nat} :
    HoldersFollow (acceptRestart source s).doors := by
  unfold acceptRestart
  dsimp only
  split <;> simp [h]

/-- R106: a restart of another zone. -/
@[simp] theorem holdersFollow_restartOther (h : HoldersFollow s.doors) {z source : Nat} :
    HoldersFollow (restartOther z source s).doors := by
  simp [restartOther, h]

/-- R104 to R106: a RESTART at the zone unit. -/
@[simp] theorem holdersFollow_takeRestart (h : HoldersFollow s.doors) {z source : Nat} :
    HoldersFollow (takeRestart z source s).doors := by
  unfold takeRestart
  (repeat' split) <;> simp [h]

/-- R123: a restart request of the key sequence. -/
@[simp] theorem holdersFollow_requestRestart (h : HoldersFollow s.doors) : HoldersFollow (requestRestart s).doors := by
  unfold requestRestart
  dsimp only
  (repeat' split) <;> simp [h]

/-! ## Valves and the predictor (sections 2 and 3) -/

/-- R59: the valve sequencer's report. -/
@[simp] theorem holdersFollow_reportValves (h : HoldersFollow s.doors) : HoldersFollow (reportValves s).doors := by
  simp [reportValves, h]

/-- R48: the beginning of a head window. -/
@[simp] theorem holdersFollow_beginHead (h : HoldersFollow s.doors) {v : Fin 2} :
    HoldersFollow (beginHead v s).doors := by
  unfold beginHead
  dsimp only
  (repeat' split) <;> simp [h]

/-- R45: a window added. -/
@[simp] theorem holdersFollow_addWindow (h : HoldersFollow s.doors) {v : Fin 2} {w : Window} :
    HoldersFollow (addWindow v w s).doors := by
  unfold addWindow
  exact holdersFollow_ite (by simp [h]) h

/-- R49: the end of a head window. -/
@[simp] theorem holdersFollow_closeHead (h : HoldersFollow s.doors) {v : Fin 2} :
    HoldersFollow (closeHead v s).doors := by
  unfold closeHead
  dsimp only
  (repeat' split) <;> simp [h]

/-- R51: a miss notice. -/
@[simp] theorem holdersFollow_missNotice (h : HoldersFollow s.doors) {v : Fin 2} {origin : Nat} {closeAt : Instant}
    {substituted : Bool} : HoldersFollow (missNotice v origin closeAt substituted s).doors :=
  holdersFollow_reportValves h

/-- R33: one prediction. -/
@[simp] theorem holdersFollow_predict (h : HoldersFollow s.doors) {station : Nat} {first last : Instant}
    {e : WatchEntry} {v : Fin 2} : HoldersFollow (predict station first last e v s).doors := by
  unfold predict
  dsimp only
  (repeat' split) <;> simp [h]

/-- R33: the predictions of one entry. -/
@[simp] theorem holdersFollow_predictEntry (h : HoldersFollow s.doors) {station channel : Nat}
    {first last : Instant} {e : WatchEntry} :
    HoldersFollow (predictEntry station channel first last e s).doors := by
  unfold predictEntry
  dsimp only
  (repeat' split) <;> simp [h]

/-- R32: a detection at the predictor. -/
@[simp] theorem holdersFollow_takeDetection (h : HoldersFollow s.doors) {station channel : Nat}
    {first last : Instant} : HoldersFollow (takeDetection station channel first last s).doors :=
  List.foldlRecOn (motive := fun (t : State) => HoldersFollow t.doors) _ _ h
    (fun _ ht _ _ => holdersFollow_predictEntry ht)

/-- R40: an origin marked. -/
@[simp] theorem holdersFollow_markOrigin (h : HoldersFollow s.doors) {station : Nat} {silent : Bool} :
    HoldersFollow (markOrigin station silent s).doors := by
  simp [markOrigin, h]

/-- R52: a miss hold deadline. -/
@[simp] theorem holdersFollow_expireMissHold (h : HoldersFollow s.doors) {v : Fin 2} :
    HoldersFollow (expireMissHold v s).doors :=
  holdersFollow_reportValves h

/-- R54: a flow-confirm deadline. -/
@[simp] theorem holdersFollow_expireFlowConfirm (h : HoldersFollow s.doors) {v : Fin 2} :
    HoldersFollow (expireFlowConfirm v s).doors :=
  holdersFollow_ite (holdersFollow_reportValves h) h

/-- R57: a leak deadline. -/
@[simp] theorem holdersFollow_expireLeak (h : HoldersFollow s.doors) {v : Fin 2} :
    HoldersFollow (expireLeak v s).doors :=
  holdersFollow_ite h (holdersFollow_reportValves h)

/-- R53 to R57: a flow switch. -/
@[simp] theorem holdersFollow_flowSwitch (h : HoldersFollow s.doors) {v : Fin 2} {active : Bool} :
    HoldersFollow (flowSwitch v active s).doors :=
  holdersFollow_ite (holdersFollow_ite (holdersFollow_reportValves h) h)
    (holdersFollow_ite (holdersFollow_reportValves h) h)

/-- R58: a water sample. -/
@[simp] theorem holdersFollow_takeWater (h : HoldersFollow s.doors) {p : Nat} :
    HoldersFollow (takeWater p s).doors := by
  unfold takeWater
  dsimp only
  (repeat' split) <;> simp [h]

/-! ## Channels and flow (sections 1 and 2.1) -/

/-- R18: the channels' report. -/
@[simp] theorem holdersFollow_reportChannels (h : HoldersFollow s.doors) :
    HoldersFollow (reportChannels s).doors := by
  simp [reportChannels, h]

/-- R11: a detection. -/
@[simp] theorem holdersFollow_detection (h : HoldersFollow s.doors) {ch : Fin 4} :
    HoldersFollow (detection ch s).doors := by
  unfold detection
  exact holdersFollow_ite (by simp [h]) (by simp [h])

/-- R3 to R19: a sample. -/
@[simp] theorem holdersFollow_takeSample (h : HoldersFollow s.doors) {ch : Fin 4} {x : Nat} :
    HoldersFollow (takeSample ch x s).doors := by
  unfold takeSample
  dsimp only
  split <;> simp [h]

/-- R13: the entry to GLOW. -/
@[simp] theorem holdersFollow_enterGlow (h : HoldersFollow s.doors) {ch : Fin 4} :
    HoldersFollow (enterGlow ch s).doors :=
  holdersFollow_reportChannels h

/-- R29: a report of the flow status. -/
@[simp] theorem holdersFollow_reportFlow (h : HoldersFollow s.doors) : HoldersFollow (reportFlow s).doors := by
  unfold reportFlow
  exact holdersFollow_ite (holdersFollow_reportingHalt (by simp) (by simp [h])) (by simp [h])

/-- R29: a changed flow record. -/
@[simp] theorem holdersFollow_setFlow (h : HoldersFollow s.doors) {f : Flow} :
    HoldersFollow (setFlow f s).doors :=
  holdersFollow_ite h (holdersFollow_reportFlow h)

/-! ## The line interface (section 4) -/

/-- R81: a report of DEGRADED. -/
@[simp] theorem holdersFollow_reportDegraded (h : HoldersFollow s.doors) {b : Bool} :
    HoldersFollow (reportDegraded b s).doors := by
  unfold reportDegraded
  exact holdersFollow_ite (by simp [h]) (by simp [h])

/-- R81: an error. -/
@[simp] theorem holdersFollow_lineError (h : HoldersFollow s.doors) : HoldersFollow (lineError s).doors :=
  holdersFollow_ite (holdersFollow_reportDegraded (by simpa using h)) h

/-- R82: the degraded deadline. -/
@[simp] theorem holdersFollow_expireDegraded (h : HoldersFollow s.doors) :
    HoldersFollow (expireDegraded s).doors :=
  holdersFollow_ite (holdersFollow_reportDegraded (by simpa using h)) h

/-- R66: a byte that carries an error. -/
@[simp] theorem holdersFollow_takeByteError (h : HoldersFollow s.doors) : HoldersFollow (takeByteError s).doors :=
  holdersFollow_ite h (holdersFollow_lineError h)

/-- R67: a frame that is not valid. -/
@[simp] theorem holdersFollow_takeBadFrame (h : HoldersFollow s.doors) : HoldersFollow (takeBadFrame s).doors :=
  holdersFollow_lineError h

/-- R66: a partial frame broken off. -/
@[simp] theorem holdersFollow_breakOffAt (h : HoldersFollow s.doors) {quiet : Nat} :
    HoldersFollow (breakOffAt quiet s).doors :=
  holdersFollow_ite (holdersFollow_lineError h) h

/-- R66, R80: a quiet count that has been reached. -/
@[simp] theorem holdersFollow_reachQuiet (h : HoldersFollow s.doors) {quiet : Nat} :
    HoldersFollow (reachQuiet quiet s).doors := by
  obtain ⟨e, -⟩ | ⟨e, -, -⟩ := reachQuiet_cases quiet s <;> simp [e, h]

/-- R66, R80: what the running quiet count has brought. -/
@[simp] theorem holdersFollow_settled (h : HoldersFollow s.doors) : HoldersFollow s.settled.doors :=
  holdersFollow_ite (holdersFollow_reachQuiet h) h

/-- R74: the gap of the head frame. -/
@[simp] theorem holdersFollow_expireGap (h : HoldersFollow s.doors) : HoldersFollow (expireGap s).doors := by
  unfold expireGap
  dsimp only
  (repeat' split) <;> simp [h]

/-- R65, R75: another station's start bit. -/
@[simp] theorem holdersFollow_takeStartBit (h : HoldersFollow s.doors) {b : StartBit} :
    HoldersFollow (takeStartBit b s).doors :=
  holdersFollow_reachQuiet h

/-- R79, R80: a quiet count of 142. -/
@[simp] theorem holdersFollow_exitStuck (h : HoldersFollow s.doors) : HoldersFollow (exitStuck s).doors :=
  holdersFollow_ite (by simp [h]) (by simp [h])

/-- R67 to R69: a frame taken whole, with a use that keeps the sentence. -/
theorem holdersFollow_takeFrame {use : State → State}
    (huse : ∀ {t : State}, HoldersFollow t.doors → HoldersFollow (use t).doors) (h : HoldersFollow s.doors)
    {kind : FrameKind} {source : Byte} : HoldersFollow (takeFrame kind source use s).doors := by
  unfold takeFrame
  (repeat' split) <;> simp [h, huse]

/-! ## Peers (section 5.1) -/

/-- R102: a recount of a named zone. -/
@[simp] theorem holdersFollow_recountHome (h : HoldersFollow s.doors) {z : Option Nat} :
    HoldersFollow (recountHome z s).doors := by
  cases z with
  | none => exact h
  | some n => exact holdersFollow_recountZone h

/-- R89: a changed entry at the zone unit. -/
@[simp] theorem holdersFollow_reportPeer (h : HoldersFollow s.doors) {old new : Peer} :
    HoldersFollow (reportPeer old new s).doors := by
  unfold reportPeer
  exact holdersFollow_ite (holdersFollow_ite (by simp [h]) (by simp [h])) h

/-- R86: a frame at its source's entry. -/
@[simp] theorem holdersFollow_hearPeer (h : HoldersFollow s.doors) {i : Fin 32} {change : Peer → Peer} :
    HoldersFollow (hearPeer i change s).doors := by
  unfold hearPeer
  dsimp only
  (repeat' split) <;> simp [h]

/-- R88: an entry not heard. -/
@[simp] theorem holdersFollow_silencePeer (h : HoldersFollow s.doors) {i : Fin 32} :
    HoldersFollow (silencePeer i s).doors := by
  simp [silencePeer, h]

/-- R32: a peer's detection. -/
@[simp] theorem holdersFollow_takePeerDetection (h : HoldersFollow s.doors) {source channel count : Byte}
    {age span : Half} {start : Instant} :
    HoldersFollow (takePeerDetection source channel count age span start s).doors := by
  unfold takePeerDetection
  dsimp only
  (repeat' split) <;> simp [h]

/-- R32, R68, R86: a DETECT taken whole. -/
@[simp] theorem holdersFollow_takeDetect (h : HoldersFollow s.doors) {source channel count : Byte}
    {age span : Half} : HoldersFollow (takeDetect source channel count age span s).doors :=
  holdersFollow_takeFrame (fun ht => by simp [ht]) h

/-- R68, R86: a VOTE taken whole. -/
@[simp] theorem holdersFollow_takeVote (h : HoldersFollow s.doors) {source zone level reason : Byte} :
    HoldersFollow (takeVote source zone level reason s).doors :=
  holdersFollow_takeFrame (fun ht => by simp [ht]) h

/-- R68, R86: a PRESENCE taken whole. -/
@[simp] theorem holdersFollow_takePresence (h : HoldersFollow s.doors)
    {source homeZone level reason extraction : Byte} {velocity : Half} {status : Byte} :
    HoldersFollow (takePresence source homeZone level reason extraction velocity status s).doors :=
  holdersFollow_takeFrame (fun ht => by simp [ht]) h

/-- R68, R86, R104: a RESTART taken whole. -/
@[simp] theorem holdersFollow_takeRestartFrame (h : HoldersFollow s.doors) {source : Byte} {zone : Half} :
    HoldersFollow (takeRestartFrame source zone s).doors :=
  holdersFollow_takeFrame (fun ht => by simp [ht]) h

/-! ## Bytes on the line (section 4.2) -/

/-- R67 to R69: a frame of a kind taken whole. -/
@[simp] theorem holdersFollow_takeWhole (h : HoldersFollow s.doors) {kind : FrameKind} {bytes : List Byte} :
    HoldersFollow (takeWhole kind bytes s).doors := by
  unfold takeWhole
  (repeat' split) <;> simp [h]

/-- R66: the end of a byte of a partial frame, with a taking of the whole that keeps the sentence. -/
theorem holdersFollow_endFrameByte {whole : FrameKind → List Byte → State → State} (h : HoldersFollow s.doors)
    {start : Instant} {bytes : List Byte} {stop : StopBit}
    (hwhole : ∀ kind, HoldersFollow (whole kind bytes s).doors) :
    HoldersFollow (endFrameByte whole start bytes stop s).doors := by
  obtain e | e | ⟨kind, e⟩ := endFrameByte_cases whole start bytes stop s <;> simp [e, h, hwhole]

/-- R65: the end of another station's byte. -/
@[simp] theorem holdersFollow_endOtherByte (h : HoldersFollow s.doors) {data : Byte} {stop : StopBit} :
    HoldersFollow (endOtherByte data stop s).doors := by
  unfold endOtherByte
  split
  · exact h
  · exact holdersFollow_endFrameByte h (fun _ => holdersFollow_takeWhole h)

/-- R66, R79: the end of the last byte that the node drives. -/
@[simp] theorem holdersFollow_endOwnByte (h : HoldersFollow s.doors) {data : Byte} :
    HoldersFollow (endOwnByte data s).doors := by
  unfold endOwnByte
  split
  · exact h
  · exact holdersFollow_endFrameByte h (fun _ => by simp [h])

/-- R181: the end of the present byte of a cut frame. -/
@[simp] theorem holdersFollow_endCutFrame (h : HoldersFollow s.doors) : HoldersFollow (endCutFrame s).doors := by
  unfold endCutFrame
  split
  · exact h
  · simp [h]

/-- R65: the end of the byte on the line. -/
@[simp] theorem holdersFollow_endByte (h : HoldersFollow s.doors) : HoldersFollow (endByte s).doors := by
  unfold endByte
  (repeat' split) <;> simp [h]

/-- An arrival that comes after the end of the byte on the line. -/
theorem holdersFollow_afterByte {f : State → State}
    (hf : ∀ {t : State}, HoldersFollow t.doors → HoldersFollow (f t).doors) (h : HoldersFollow s.doors) :
    HoldersFollow (afterByte f s).doors :=
  holdersFollow_ite (holdersFollow_endByte h) (hf (holdersFollow_endByte h))

/-! ## Keys and contacts (sections 6.5 and R2) -/

/-- R121: K2 pressed. -/
@[simp] theorem holdersFollow_keyPress (h : HoldersFollow s.doors) : HoldersFollow (keyPress s).doors :=
  holdersFollow_ite (holdersFollow_requestRestart h) h

/-- R113: a confirming input. -/
@[simp] theorem holdersFollow_confirmChange (h : HoldersFollow s.doors) {i : ConfirmInput} {active : Bool} :
    HoldersFollow (confirmChange i active s).doors :=
  holdersFollow_ite (holdersFollow_reportingHalt (by simp) h) h

/-- A change of debounced level at the block that reads the input. -/
@[simp] theorem holdersFollow_contactAction (h : HoldersFollow s.doors) {i : Input} {active : Bool} :
    HoldersFollow (contactAction i active s).doors := by
  unfold contactAction
  (repeat' split) <;> simp [h]

/-- R2: a change of debounced level arrives. -/
@[simp] theorem holdersFollow_takeContact (h : HoldersFollow s.doors) {i : Input} {active : Bool} :
    HoldersFollow (takeContact i active s).doors := by
  unfold takeContact contactChange
  exact holdersFollow_ite (holdersFollow_ite (by simp [h]) h) h

/-- R2: a change of raw level. -/
@[simp] theorem holdersFollow_rawChange (h : HoldersFollow s.doors) {i : Input} {active : Bool} :
    HoldersFollow (rawChange i active s).doors := by
  unfold rawChange
  exact holdersFollow_ite h (holdersFollow_ite (by simp [h]) h)

/-! ## Reset and the service port (sections 10 and 11) -/

/-- R173: a reset takes both doors to their reset. -/
@[simp] theorem holdersFollow_takeReset (h : HoldersFollow s.doors) {kind : ResetKind} :
    HoldersFollow (takeReset kind s).doors :=
  holdersFollow_ite (holdersFollow_ite h h) holdersFollow_reset

/-- R186 to R189: of the commands carried out, NODE_RESET alone reaches a door. -/
@[simp] theorem holdersFollow_carryOut (h : HoldersFollow s.doors) {c : Byte} {params : List Byte} :
    HoldersFollow (carryOut c params s).doors := by
  unfold carryOut
  dsimp only
  (repeat' split) <;> simp [h]

/-- R184, R185: a command taken. -/
@[simp] theorem holdersFollow_tryTake (h : HoldersFollow s.doors) : HoldersFollow (tryTake s).doors := by
  unfold tryTake judgeCommand
  (repeat' split) <;> simp [h]

/-- R183: a write transaction. -/
@[simp] theorem holdersFollow_writeTransaction (h : HoldersFollow s.doors) {bytes : List Byte} :
    HoldersFollow (writeTransaction bytes s).doors := by
  cases bytes with
  | nil => exact h
  | cons o rest => exact holdersFollow_ite (holdersFollow_tryTake h) h

/-- R184: a command given. -/
@[simp] theorem holdersFollow_giveCommand (h : HoldersFollow s.doors) {c : Byte} {params : List Byte} :
    HoldersFollow (giveCommand c params s).doors :=
  holdersFollow_ite (holdersFollow_tryTake h) h

/-! ## Start-up (section 10) -/

/-- R176: the warnings of a check leave the doors. -/
@[simp] theorem doors_warnAll (subject : Nat) (ws : List (Nat × Nat)) (s : State) :
    (warnAll subject ws s).doors = s.doors :=
  foldl_keeps (g := State.doors) (by simp [warn]) ws s

/-- R177: the hand-over leaves the doors. -/
@[simp] theorem doors_handOverSet (c : ConfigSet) (s : State) : (handOverSet c s).doors = s.doors := by
  unfold handOverSet
  dsimp only
  rw [doors_warnAll, doors_warnAll, doors_warnAll]

/-- R175: the judging of an image leaves the doors. -/
@[simp] theorem doors_judgeImage (s : State) : (judgeImage s).doors = s.doors := by
  by_cases h : imageAccepted (Memory.readBytes s.configMemory 0 512) = true
  · rw [judgeImage, if_pos h, doors_handOverSet, doors_warnAll]
  · rw [judgeImage, if_neg h]
    rfl

/-- R174: the end of RESETTING leaves the doors. -/
@[simp] theorem doors_beginStart (station rate : Nat) (s : State) : (beginStart station rate s).doors = s.doors := by
  unfold beginStart
  dsimp only
  split <;> simp

/-- R188: the release of a held configuration command leaves the doors. -/
@[simp] theorem doors_releaseConfig (s : State) : (releaseConfig s).doors = s.doors := by
  unfold releaseConfig
  split <;> simp

/-- R188: a memory that has not answered leaves the doors. -/
@[simp] theorem doors_configUnanswered (s : State) : (configUnanswered s).doors = s.doors := by
  unfold configUnanswered
  dsimp only
  (repeat' split) <;> simp

/-- R188: an answer of the configuration memory leaves the doors. -/
@[simp] theorem doors_answerConfig (readBack : BitVec 32) (s : State) :
    (answerConfig readBack s).doors = s.doors := by
  unfold answerConfig acceptAnswer
  dsimp only
  (repeat' split) <;> simp

/-- R170: the log store's start leaves the doors. -/
@[simp] theorem doors_startLog (s : State) : (startLog s).doors = s.doors := by
  unfold startLog
  dsimp only
  split <;> simp

/-- R155: the members reported leave the doors. -/
@[simp] theorem doors_reportMembers (s : State) : (reportMembers s).doors = s.doors := by
  simp [reportMembers]

/-- R156: the siren unit's start leaves the doors. -/
@[simp] theorem doors_startRelay (s : State) : (startRelay s).doors = s.doors := by
  unfold startRelay
  split <;> simp

/-- R121: the judging of the key state leaves the doors. -/
@[simp] theorem doors_startKey (s : State) : (startKey s).doors = s.doors := by
  unfold startKey
  split <;> simp

/-- R73: the first PRESENCE leaves the doors. -/
@[simp] theorem doors_startPresence (s : State) : (startPresence s).doors = s.doors := rfl

/-- R180: of the blocks that take up their work, the door unit and the zone unit alone reach a door. -/
theorem holdersFollow_becomeOperating (h : HoldersFollow s.doors) : HoldersFollow (becomeOperating s).doors := by
  unfold becomeOperating
  refine holdersFollow_startZoneUnit ?_
  rw [doors_startPresence]
  exact holdersFollow_startDoor (holdersFollow_startDoor (by simpa using h))

/-! ## Every command and every step -/

/-- Every command answers a next state, and keeps R133's first sentence. -/
theorem exec_holdersFollow (i : Instr) (h : HoldersFollow s.doors) :
    ∃ t, exec i s = .next t ∧ HoldersFollow t.doors := by
  cases i with
  | resetBegin kind => exact ⟨_, rfl, holdersFollow_takeReset h⟩
  | resettingEnd station rate => exact ⟨_, rfl, holdersFollow_ite (by simp [h]) h⟩
  | imageReadEnd => exact ⟨_, rfl, holdersFollow_ite (by simp [h]) h⟩
  | memoryAnswerTimeout =>
    exact ⟨_, rfl, holdersFollow_ite (holdersFollow_ite (by simp [h]) (by simp [h])) h⟩
  | outputReadback storeGood sense =>
    exact ⟨_, rfl, holdersFollow_ite (holdersFollow_ite (by simp [beginEcho, h]) (by simp [h])) h⟩
  | echoDeadlineExpiry => exact ⟨_, rfl, holdersFollow_ite (holdersFollow_ite (by simp [h]) (by simp [h])) h⟩
  | logScanComplete => exact ⟨_, rfl, holdersFollow_ite (holdersFollow_becomeOperating h) h⟩
  | rawInputChange n active => exact ⟨_, rfl, holdersFollow_ite h (holdersFollow_rawChange h)⟩
  | sample ch x => exact ⟨_, rfl, holdersFollow_takeSample h⟩
  | glowDeadlineExpiry ch => exact ⟨_, rfl, holdersFollow_ite (holdersFollow_enterGlow h) h⟩
  | pressureSample count sensorFault => exact ⟨_, rfl, holdersFollow_ite (holdersFollow_setFlow h) h⟩
  | holdDeadlineExpiry => exact ⟨_, rfl, holdersFollow_ite (holdersFollow_setFlow h) h⟩
  | openExpiry v => exact ⟨_, rfl, holdersFollow_ite (holdersFollow_beginHead h) h⟩
  | closeExpiry v => exact ⟨_, rfl, holdersFollow_ite (holdersFollow_closeHead h) h⟩
  | missHoldExpiry v => exact ⟨_, rfl, holdersFollow_ite (holdersFollow_expireMissHold h) h⟩
  | flowConfirmExpiry v => exact ⟨_, rfl, holdersFollow_ite (holdersFollow_expireFlowConfirm h) h⟩
  | leakDeadlineExpiry v => exact ⟨_, rfl, holdersFollow_ite (holdersFollow_expireLeak h) h⟩
  | waterSample p => exact ⟨_, rfl, holdersFollow_ite (holdersFollow_takeWater h) h⟩
  | fsChange v active => exact ⟨_, rfl, holdersFollow_takeContact h⟩
  | fhChange n active => exact ⟨_, rfl, holdersFollow_takeContact h⟩
  | confirmInputChange n active => exact ⟨_, rfl, holdersFollow_takeContact h⟩
  | k1Change active => exact ⟨_, rfl, holdersFollow_takeContact h⟩
  | k2Press => exact ⟨_, rfl, holdersFollow_takeContact h⟩
  | unlockDeadlineExpiry => exact ⟨_, rfl, holdersFollow_ite h h⟩
  | dcChange d active => exact ⟨_, rfl, holdersFollow_takeContact h⟩
  | ccChange d active => exact ⟨_, rfl, holdersFollow_takeContact h⟩
  | silChange active => exact ⟨_, rfl, holdersFollow_takeContact h⟩
  | frameError => exact ⟨_, rfl, holdersFollow_ite (by simp [h]) h⟩
  | byteError => exact ⟨_, rfl, holdersFollow_ite (by simp [h]) h⟩
  | frameBrokenOff =>
    exact ⟨_, rfl, holdersFollow_ite (holdersFollow_afterByte (fun ht => holdersFollow_breakOffAt ht) h) h⟩
  | detectReceived source channel count age span peak => exact ⟨_, rfl, holdersFollow_takeDetect (by simp [h])⟩
  | voteReceived source zone level reason => exact ⟨_, rfl, holdersFollow_takeVote (by simp [h])⟩
  | presenceReceived source homeZone level reason extraction velocity status =>
    exact ⟨_, rfl, holdersFollow_takePresence (by simp [h])⟩
  | restartReceived source zone => exact ⟨_, rfl, holdersFollow_takeRestartFrame (by simp [h])⟩
  | ownEcho => exact ⟨_, rfl, by simp [h]⟩
  | duplicateStationFrame kind => exact ⟨_, rfl, holdersFollow_ite (by simp [h]) h⟩
  | gapExpiry => exact ⟨_, rfl, holdersFollow_afterByte holdersFollow_expireGap h⟩
  | frameDriveStart => exact ⟨_, rfl, by simp [h]⟩
  | foreignStartBit start =>
    exact ⟨_, rfl, holdersFollow_ite (holdersFollow_afterByte (fun ht => holdersFollow_takeStartBit ht) h) h⟩
  | collision read => exact ⟨_, rfl, by simp [h]⟩
  | stuckWatchExpiry => exact ⟨_, rfl, holdersFollow_ite (by simp [h]) h⟩
  | stuckExit => exact ⟨_, rfl, holdersFollow_ite (holdersFollow_afterByte holdersFollow_exitStuck h) h⟩
  | degradedDeadlineExpiry => exact ⟨_, rfl, holdersFollow_ite (holdersFollow_expireDegraded h) h⟩
  | presenceDeadlineExpiry => exact ⟨_, rfl, by (repeat' split) <;> simp [h]⟩
  | silenceDeadlineExpiry station => exact ⟨_, rfl, holdersFollow_ite (holdersFollow_silencePeer h) h⟩
  | ringDeadlineExpiry => exact ⟨_, rfl, holdersFollow_ite (holdersFollow_expireRing h) h⟩
  | haltedAtAged => exact ⟨_, rfl, holdersFollow_ite h h⟩
  | firePendingExpiry zone => exact ⟨_, rfl, holdersFollow_ite (holdersFollow_expireFirePending h) h⟩
  | stepTimerExpiry => exact ⟨_, rfl, holdersFollow_ite (holdersFollow_reportingHalt (by simp) h) h⟩
  | clearDeadlineExpiry d => exact ⟨_, rfl, holdersFollow_ite (holdersFollow_expireClear h) h⟩
  | travelDeadlineExpiry d => exact ⟨_, rfl, holdersFollow_ite (holdersFollow_setDoor h) h⟩
  | phaseDeadlineExpiry n => exact ⟨_, rfl, holdersFollow_ite (by simp [h]) h⟩
  | cycleDeadlineExpiry n => exact ⟨_, rfl, holdersFollow_ite (by simp [h]) h⟩
  | resoundDeadlineExpiry n => exact ⟨_, rfl, holdersFollow_ite (by simp [h]) h⟩
  | pageProgramComplete success => exact ⟨_, rfl, by (repeat' split) <;> simp [h]⟩
  | eraseComplete success => exact ⟨_, rfl, by (repeat' split) <;> simp [h]⟩
  | serviceAreaWrite bytes => exact ⟨_, rfl, holdersFollow_writeTransaction h⟩
  | statusClear => exact ⟨_, rfl, holdersFollow_writeTransaction h⟩
  | nodeStatus part => exact ⟨_, rfl, holdersFollow_giveCommand h⟩
  | readPresence station => exact ⟨_, rfl, holdersFollow_giveCommand h⟩
  | readZone zone => exact ⟨_, rfl, holdersFollow_giveCommand h⟩
  | readChannel channel => exact ⟨_, rfl, holdersFollow_giveCommand h⟩
  | readValve valve => exact ⟨_, rfl, holdersFollow_giveCommand h⟩
  | readLogPosition => exact ⟨_, rfl, holdersFollow_giveCommand h⟩
  | readLog block page record => exact ⟨_, rfl, holdersFollow_giveCommand h⟩
  | flushLog => exact ⟨_, rfl, holdersFollow_giveCommand h⟩
  | clearProtection block => exact ⟨_, rfl, holdersFollow_giveCommand h⟩
  | readConfig offset => exact ⟨_, rfl, holdersFollow_giveCommand h⟩
  | writeConfig offset data => exact ⟨_, rfl, holdersFollow_giveCommand h⟩
  | configMemoryAnswer readBack => exact ⟨_, rfl, by simp [h]⟩
  | nodeReset confirmation => exact ⟨_, rfl, holdersFollow_giveCommand h⟩
  | k2Release => exact ⟨_, rfl, holdersFollow_takeContact h⟩

/-- A millisecond leaves the doors. -/
@[simp] theorem doors_passMillisecond (s : State) : (passMillisecond s).doors = s.doors := by
  unfold passMillisecond
  split <;> rfl

/-- What the node does of itself keeps R133's first sentence. -/
theorem idle_holdersFollow (h : HoldersFollow s.doors) :
    ∃ t, idle s = .next t ∧ HoldersFollow t.doors := by
  unfold idle
  split
  case h_1 c _ => exact exec_holdersFollow c h
  case h_2 => exact ⟨_, rfl, holdersFollow_ite (holdersFollow_endByte h) (by simpa using h)⟩

/-- Every step keeps R133's first sentence. -/
theorem step_holdersFollow (h : HoldersFollow s.doors) :
    ∃ t, step s = .next t ∧ HoldersFollow t.doors := by
  unfold step
  split
  · exact idle_holdersFollow h
  · exact exec_holdersFollow _ h

end

/-- Settles O8: a step sets a door's state only together with the holder's level in that state. -/
theorem stepKeepsHoldersWithDoorStates : Obligations.StepKeepsHoldersWithDoorStates := by
  intro s t hs hstep
  obtain ⟨u, hu, hholders⟩ := step_holdersFollow ((holderLaw_iff s).1 hs)
  obtain rfl : u = t := by simpa [hu] using hstep
  exact (holderLaw_iff u).2 hholders

end Sys2Proof.Machine
end

section
/-! SUPPORT. What a command can do to the state, said once for all laws: it leads from the state before to the state
after by changes of one component each, and every law of Safety.lean is kept by each such change. -/
namespace Sys2Proof.Machine

/-! ## The slots of the outbound queue (R70) -/

/-- R70: the number of a frame's slot: one for each channel's DETECT, and one for each other kind. -/
def OutFrame.slot : OutFrame → Fin 7
  | .detect c _ _ _ _ => c.castLE (by decide)
  | .vote _ _ => 4
  | .restart _ => 5
  | .presence _ => 6

/-- R70: two frames share a slot exactly where their slots have one number. -/
theorem sameSlot_eq_decide (f g : OutFrame) : f.sameSlot g = decide (f.slot = g.slot) := by
  have hdetect (c : Fin 4) : (c.castLE (by decide) : Fin 7) ≠ 4 ∧ (c.castLE (by decide) : Fin 7) ≠ 5
      ∧ (c.castLE (by decide) : Fin 7) ≠ 6 := by revert c; decide
  cases f <;> cases g <;>
    simp [OutFrame.sameSlot, OutFrame.slot, hdetect, fun c => (hdetect c).1.symm, fun c => (hdetect c).2.1.symm,
      fun c => (hdetect c).2.2.symm]

/-- R70: a queue holds one frame a slot exactly where the numbers of its slots differ. -/
theorem pairwise_sameSlot_iff (q : List OutFrame) :
    q.Pairwise (fun f g => f.sameSlot g = false) ↔ (q.map OutFrame.slot).Nodup := by
  simp [List.Nodup, List.pairwise_map, sameSlot_eq_decide]

/-- R70: a queue that holds one frame a slot holds at most seven. -/
theorem length_le_of_pairwise {q : List OutFrame} (h : q.Pairwise (fun f g => f.sameSlot g = false)) :
    q.length ≤ 7 := by
  simpa using ((pairwise_sameSlot_iff q).1 h).length_le_card

/-! ## The outbound queue's operations (R70 to R73, R78) -/

/-- R70: a frame that enters the queue. -/
theorem insertFrame_perm (f : OutFrame) (q : List OutFrame) : (insertFrame f q).Perm (f :: q) := by
  induction q with
  | nil => exact .refl _
  | cons g t ih =>
    unfold insertFrame
    split
    · exact (ih.cons g).trans (.swap f g t)
    · exact .refl _

/-- R78: a frame that returns to the head of its class. -/
theorem insertAtHead_perm (f : OutFrame) (q : List OutFrame) : (insertAtHead f q).Perm (f :: q) := by
  induction q with
  | nil => exact .refl _
  | cons g t ih =>
    unfold insertAtHead
    split
    · exact (ih.cons g).trans (.swap f g t)
    · exact .refl _

/-- R70, R71: what every queue of frames holds: one frame a slot, and DETECT counts of 1 to 15. -/
def GoodQueue (q : List OutFrame) : Prop :=
  q.Pairwise (fun f g => f.sameSlot g = false) ∧ ∀ f ∈ q, f.countGood = true

/-- A queue of which another is a rearrangement. -/
theorem GoodQueue.perm {p q : List OutFrame} (h : p.Perm q) (hq : GoodQueue q) : GoodQueue p := by
  obtain ⟨hslots, hcounts⟩ := hq
  refine ⟨(pairwise_sameSlot_iff p).2 ?_, fun f hf => hcounts f (h.mem_iff.1 hf)⟩
  exact (h.map _).nodup_iff.2 ((pairwise_sameSlot_iff q).1 hslots)

/-- A queue from which frames have been taken. -/
theorem GoodQueue.sublist {p q : List OutFrame} (h : p.Sublist q) (hq : GoodQueue q) : GoodQueue p :=
  ⟨hq.1.sublist h, fun f hf => hq.2 f (h.subset hf)⟩

/-- A frame before a queue in which its slot is empty. -/
theorem GoodQueue.cons {f : OutFrame} {q : List OutFrame} (hf : f.countGood = true)
    (hempty : ∀ g ∈ q, f.sameSlot g = false) (hq : GoodQueue q) : GoodQueue (f :: q) :=
  ⟨List.pairwise_cons.2 ⟨hempty, hq.1⟩, List.forall_mem_cons.2 ⟨hf, hq.2⟩⟩

/-- R71 to R73: a hand-over whose change keeps slot and count. -/
theorem GoodQueue.handOver {f : OutFrame} {change : OutFrame → OutFrame} {q : List OutFrame}
    (hf : f.countGood = true)
    (hchange : ∀ g, f.sameSlot g = true → g.countGood = true →
      (change g).slot = g.slot ∧ (change g).countGood = true)
    (hq : GoodQueue q) : GoodQueue (handOver f change q) := by
  unfold Machine.handOver
  split
  case isTrue =>
    have hslot : (q.map fun g => if f.sameSlot g then change g else g).map OutFrame.slot = q.map OutFrame.slot := by
      rw [List.map_map]
      refine List.map_congr_left fun g hg => ?_
      simp only [Function.comp_apply]
      split
      case isTrue hsame => exact (hchange g hsame (hq.2 g hg)).1
      case isFalse => rfl
    refine ⟨(pairwise_sameSlot_iff _).2 (hslot ▸ (pairwise_sameSlot_iff q).1 hq.1), ?_⟩
    intro g hg
    obtain ⟨g', hg', rfl⟩ := List.mem_map.1 hg
    split
    case isTrue hsame => exact (hchange g' hsame (hq.2 g' hg')).2
    case isFalse => exact hq.2 g' hg'
  case isFalse hnone =>
    simp only [List.any_eq_true, not_exists, not_and, Bool.not_eq_true] at hnone
    exact (hq.cons hf hnone).perm (insertFrame_perm f q)

/-- R78: the frame that a returning frame and the queued one of its slot become stands in that slot. -/
theorem mergeFrames_good {f g : OutFrame} (hf : f.countGood = true) (hg : g.countGood = true)
    (hsame : f.sameSlot g = true) :
    (mergeFrames f g).slot = f.slot ∧ (mergeFrames f g).countGood = true := by
  cases f <;> cases g <;>
    (simp_all [OutFrame.sameSlot, mergeFrames, OutFrame.slot, OutFrame.countGood]; try omega)

/-- R78: a frame that returns to a queue, merged with the queued frame of its slot. -/
theorem GoodQueue.returnFrame {f : OutFrame} {q : List OutFrame} (hf : f.countGood = true) (hq : GoodQueue q) :
    GoodQueue (returnFrame f q) := by
  unfold Machine.returnFrame
  split
  case h_1 hnone =>
    simp only [List.find?_eq_none, Bool.not_eq_true] at hnone
    exact (hq.cons hf hnone).perm (insertAtHead_perm f q)
  case h_2 g hsome =>
    obtain ⟨hslot, hcount⟩ :=
      mergeFrames_good hf (hq.2 g (List.mem_of_find?_eq_some hsome)) (List.find?_some hsome)
    have hempty : ∀ h ∈ q.filter (fun h => !f.sameSlot h), (mergeFrames f g).sameSlot h = false := by
      intro h hh
      simpa [sameSlot_eq_decide, hslot] using (List.mem_filter.1 hh).2
    exact ((hq.sublist List.filter_sublist).cons hcount hempty).perm (insertAtHead_perm _ _)

/-- A RESTART that a hand-over leaves in the queue stood there, or is the frame handed over. -/
theorem mem_handOver {f g : OutFrame} {change : OutFrame → OutFrame} {q : List OutFrame}
    (h : g ∈ handOver f change q) : g ∈ q ∨ g = f ∨ ∃ g' ∈ q, f.sameSlot g' = true ∧ g = change g' := by
  unfold handOver at h
  split at h
  · obtain ⟨g', hg', rfl⟩ := List.mem_map.1 h
    split
    case isTrue hsame => exact .inr (.inr ⟨g', hg', hsame, rfl⟩)
    case isFalse => exact .inl hg'
  · obtain rfl | hmem := List.mem_cons.1 ((insertFrame_perm f q).mem_iff.1 h)
    · exact .inr (.inl rfl)
    · exact .inl hmem

/-- R78: a RESTART in a queue after a frame's return stood in the queue, or is that frame. -/
theorem restart_mem_returnFrame {f : OutFrame} {z : Nat} {q : List OutFrame}
    (h : .restart z ∈ returnFrame f q) : .restart z ∈ q ∨ f = .restart z := by
  unfold returnFrame at h
  split at h
  case h_1 =>
    obtain heq | hmem := List.mem_cons.1 ((insertAtHead_perm f q).mem_iff.1 h)
    · exact .inr heq.symm
    · exact .inl hmem
  case h_2 g hsome =>
    obtain heq | hmem := List.mem_cons.1 ((insertAtHead_perm _ _).mem_iff.1 h)
    · have hg := List.mem_of_find?_eq_some hsome
      revert heq
      unfold mergeFrames
      split
      · simp
      · rintro rfl
        exact .inl hg
    · exact .inl (List.mem_filter.1 hmem).1

end Sys2Proof.Machine
end

section
/-! SUPPORT. The changes of one component each, by which a command leads from the state before to the state after. -/
namespace Sys2Proof.Machine

/-! ## Changes -/

/-- A change of the line interface: it keeps the law of slots and that of a failed start-up, and a RESTART that it holds
stood there before, or is one of the home zone in operation (R70, R72, R85). -/
structure LineChange (s : State) (l : Line) : Prop where
  slots : SlotLaw s → SlotLaw { s with line := l }
  restarts : ∀ z, .restart z ∈ l.frames →
    .restart z ∈ s.line.frames ∨ s.startup.state = .operating ∧ z = s.cfg.homeZone
  failed : FailedLineLaw s → FailedLineLaw { s with line := l }

/-- R159, R162: the queue and the buffer hold at most 32 records, and the programmed mark lies within the buffer. -/
abbrev LogSystem.bounds (g : LogSystem) : Prop :=
  g.events.queue.length ≤ 32 ∧ g.store.buffer.length ≤ 32 ∧ g.store.programmed ≤ g.store.buffer.length

/-- A change of the log: it keeps the bounds of queue and buffer, and the canonical form of the array. -/
def LogKeeps (g h : LogSystem) : Prop :=
  (g.bounds → h.bounds) ∧ (Memory.wf g.array → Memory.wf h.array)

/-- R111, R129, R143: what the sequencer and the doors keep between them. -/
abbrev PlantLaw (s : State) : Prop := OutputTableLaw s ∧ FeedHoldLaw s ∧ DemandLaw s

/-- What may change on the way from a state to another: in a cascade, what a vote or a view reaches; in an arrival all
else as well, and the page buffer may lose records only where `pages` says so. -/
inductive Scope where
  | cascade
  | arrival (pages : Bool)

/-- What a scope allows of a change of the log: records join the page buffer; in a cascade nothing that posting leaves
changes. -/
def Scope.AllowsLog : Scope → LogSystem → LogSystem → Prop
  | .cascade, g, h => g.store.buffer <+: h.store.buffer ∧ h.rest = g.rest
  | .arrival false, g, h => g.store.buffer <+: h.store.buffer
  | .arrival true, _, _ => True

/-- What a cascade allows of a change of the line: queue and holding stage alone, in which every frame but a VOTE goes
on waiting. -/
def Line.KeepsOthers (k l : Line) : Prop :=
  l.rest = k.rest ∧ ∀ f : OutFrame, f.kind ≠ .vote → k.waits f = true → l.waits f = true

/-- What a cascade leaves of the zone unit. -/
def ZoneUnit.KeepsReports (x y : ZoneUnit) : Prop :=
  y.conditions = x.conditions ∧ y.degraded = x.degraded ∧ y.ring = x.ring

/-- What a cascade leaves of the fault summary: all but the members of the plant. -/
def FaultSummary.KeepsOthers (f g : FaultSummary) : Prop :=
  ∀ m, m ≠ .stepFault → m ≠ .doorJammed → g.has m = f.has m

/-- One change of one component, other than a reset and the hand-over. What the laws say of a component is kept, and an
output other than the sequencer's key and a fault report's relay is energized in OPERATING alone. -/
inductive Change : Scope → State → State → Prop
  | time {pages : Bool} (s : State) (x : Instant) : Change (.arrival pages) s { s with time := x }
  | inputs {pages : Bool} (s : State) (x : Inputs) : Change (.arrival pages) s { s with inputs := x }
  | channels {pages : Bool} (s : State) (x : Quad Channel) : Change (.arrival pages) s { s with channels := x }
  | watch {pages : Bool} (s : State) (x : List WatchEntry) : Change (.arrival pages) s { s with watch := x }
  | service {pages : Bool} (s : State) (x : Service) (h : PortLaw s → PortLaw { s with service := x }) :
      Change (.arrival pages) s { s with service := x }
  | freeCount {pages : Bool} (s : State) (x : Nat) : Change (.arrival pages) s { s with freeCount := x }
  | flow {pages : Bool} (s : State) (x : Flow) (h : HistoryLaw s → HistoryLaw { s with flow := x }) :
    Change (.arrival pages) s { s with flow := x }
  | valves {pages : Bool} (s : State) (x : Valves) (h : OutputsOffLaw s → OutputsOffLaw { s with valves := x }) :
    Change (.arrival pages) s { s with valves := x }
  | peers {pages : Bool} (s : State) (x : Vector Peer 32) (h : SilenceLaw s → SilenceLaw { s with peers := x }) :
    Change (.arrival pages) s { s with peers := x }
  | zones {w : Scope} (s : State) (x : ZoneUnit) (h : LatchLaw s → LatchLaw { s with zones := x })
      (hw : w = .cascade → s.zones.KeepsReports x) :
    Change w s { s with zones := x }
  | line {w : Scope} (s : State) (x : Line) (h : LineChange s x)
      (hw : w = .cascade → s.line.KeepsOthers x) : Change w s { s with line := x }
  | log {w : Scope} (s : State) (x : LogSystem) (h : LogKeeps s.log x) (hw : w.AllowsLog s.log x) :
      Change w s { s with log := x }
  | configMemory {pages : Bool} (s : State) (x : Memory) (h : Memory.wf s.configMemory → Memory.wf x) :
    Change (.arrival pages) s { s with configMemory := x }
  | key {pages : Bool} (s : State) (k : KeyState) (d : Option Instant) :
    Change (.arrival pages) s { s with sequencer := { s.sequencer with key := k, unlockDeadline := d } }
  | plant {w : Scope} (s : State) (q : Sequencer) (ds : Pair Door) (ho : s.startup.state = .operating)
      (h : PlantLaw s → PlantLaw { s with sequencer := q, doors := ds }) :
    Change w s { s with sequencer := q, doors := ds }
  | sirens {w : Scope} (s : State) (x : Pair Siren) (ho : s.startup.state = .operating)
      (h : SirenLaw s → x.fst.outputLaw ∧ x.snd.outputLaw) :
    Change w s { s with sirens := { s.sirens with sirens := x } }
  | faults {w : Scope} (s : State) (f : FaultSummary) (ho : s.startup.state = .operating)
      (hw : w = .cascade → s.sirens.summary.KeepsOthers f) :
    Change w s { s with sirens := { s.sirens with summary := f, relay := f.isEmpty } }
  /-- The start-up record without its state and stage; an echo deadline comes at SELF_TEST alone. -/
  | startup {pages : Bool} (s : State) (x : Startup) (hstate : x.state = s.startup.state)
    (hstage : x.stage = s.startup.stage)
      (hecho : x.echoDeadline.isSome = true →
        s.startup.echoDeadline.isSome = true ∨ s.startup.stage = some .selfTest) :
    Change (.arrival pages) s { s with startup := x }
  /-- R174: RESETTING ends. -/
  | start {pages : Bool} (s : State) (x : Startup) (hs : s.startup.state = .resetting) (hstate : x.state = .starting)
      (hstage : x.stage = some .image) (hecho : x.echoDeadline = s.startup.echoDeadline) :
    Change (.arrival pages) s { s with startup := x }
  /-- R179: the line-echo test passes. -/
  | scan {pages : Bool} (s : State) (x : Startup) (hs : StartupLaw s → s.startup.state = .starting)
      (hstate : x.state = s.startup.state) (hstage : x.stage = some .scan) (hecho : x.echoDeadline = none) :
    Change (.arrival pages) s { s with startup := x }
  /-- R181: start-up fails. -/
  | fail {pages : Bool} (s : State) (x : Startup) (hs : StartupLaw s → s.startup.state ≠ .operating)
    (hstate : x.state = .failed)
      (hstage : x.stage = none) (hecho : x.echoDeadline = none) :
    Change (.arrival pages) s { s with startup := x, line := { s.line with queue := [], holding := none } }
  /-- R156, R180: start-up becomes OPERATING, with the relay that the first reports leave. -/
  | operate {pages : Bool} (s : State) (x : Startup) (f : FaultSummary) (r : Bool) (hs : s.startup.stage = some .scan)
      (hstate : x.state = .operating) (hstage : x.stage = none)
      (hecho : x.echoDeadline = s.startup.echoDeadline)
      (hrelay : RelayLaw s → r = f.isEmpty) :
    Change (.arrival pages) s { s with startup := x, sirens := { s.sirens with summary := f, relay := r } }

/-- A state leads to another by changes of one component each. -/
abbrev Leads (w : Scope) : State → State → Prop := Relation.ReflTransGen (Change w)

section
variable {w : Scope}

/-- The state that stands leads to itself. -/
@[simp] theorem leads_refl (s : State) : Leads w s s := .refl

/-- What every change keeps holds of all that a state leads to. -/
theorem Leads.keeps {P : State → Prop} (hP : ∀ s t, Change w s t → P s → P t) {s t : State} (h : Leads w s t)
    (hs : P s) : P t := by
  induction h with
  | refl => exact hs
  | tail _ hchange ih => exact hP _ _ hchange ih

/-! ## What every change keeps -/

/-- No change concerns the commands that wait. -/
theorem Change.pending {s t : State} (h : Change w s t) : t.pending = s.pending := by
  cases h <;> rfl

/-- No change concerns the configuration set. -/
theorem Change.config {s t : State} (h : Change w s t) : t.config = s.config := by
  cases h <;> rfl

/-- What a state leads to has its waiting commands. -/
theorem Leads.pending {s t : State} (h : Leads w s t) : t.pending = s.pending :=
  h.keeps (P := fun u => u.pending = s.pending) (fun _ _ hc hu => hc.pending.trans hu) rfl

/-- What a state leads to has its configuration set. -/
theorem Leads.config {s t : State} (h : Leads w s t) : t.config = s.config :=
  h.keeps (P := fun u => u.config = s.config) (fun _ _ hc hu => hc.config.trans hu) rfl

/-- A choice between two states that a state leads to. -/
theorem leads_ite {c : Prop} [Decidable c] {s₀ s t : State} (hs : Leads w s₀ s) (ht : Leads w s₀ t) :
    Leads w s₀ (if c then s else t) := by
  split
  · exact hs
  · exact ht

end


/-! ## The log (R158 to R170) -/

section
variable {g g₀ : LogSystem}

/-- The log that stands is kept. -/
theorem LogKeeps.refl (g : LogSystem) : LogKeeps g g := ⟨id, id⟩

/-- Two changes of the log, one after the other. -/
theorem LogKeeps.trans {h : LogSystem} (hg : LogKeeps g₀ g) (hh : LogKeeps g h) : LogKeeps g₀ h :=
  ⟨fun hb => hh.1 (hg.1 hb), fun ha => hh.2 (hg.2 ha)⟩

/-- A change of the log that leaves queue, buffer, programmed mark and array. -/
theorem LogKeeps.of_eq {h : LogSystem} (hq : h.events.queue = g.events.queue) (hb : h.store.buffer = g.store.buffer)
    (hp : h.store.programmed = g.store.programmed) (ha : h.array = g.array) : LogKeeps g h := by
  refine ⟨fun hg => ?_, fun hg => ha ▸ hg⟩
  rwa [LogSystem.bounds, hq, hb, hp]

/-- R159: an event joins the queue, or a full queue loses one. -/
theorem logKeeps_enqueue (r : Record) (g : LogSystem) : LogKeeps g { g with events := enqueue r g.events } := by
  refine ⟨fun ⟨hq, hb, hp⟩ => ⟨?_, hb, hp⟩, id⟩
  unfold enqueue
  split
  · simp only [List.length_append, List.length_singleton]; omega
  · split
    · exact hq
    · split
      · exact hq
      · rename_i hcons
        rw [hcons] at hq
        simpa using hq

/-- R160, R162: a record taken from the queue into a buffer with room. -/
theorem logKeeps_takeOne (stamp : Record) (hroom : g.store.buffer.length < 32) : LogKeeps g (takeOne stamp g) := by
  unfold takeOne
  split
  · exact .refl g
  · rename_i r rest hcons
    refine ⟨fun ⟨hq, hb, hp⟩ => ⟨?_, ?_, ?_⟩, id⟩
    · rw [hcons] at hq
      dsimp only
      split <;> simp only [List.length_cons, List.length_append, List.length_nil] at hq ⊢ <;> omega
    · simp only [List.length_append, List.length_singleton]; omega
    · simp only [List.length_append, List.length_singleton]; omega

/-- R162: records taken up to the room of the buffer. -/
theorem logKeeps_takeWaiting (stamp : Record) (n : Nat) (g : LogSystem) : LogKeeps g (takeWaiting stamp n g) := by
  induction n generalizing g with
  | zero => exact .refl g
  | succ n ih =>
    unfold takeWaiting
    split
    case isTrue hroom => exact (logKeeps_takeOne stamp hroom.1).trans (ih _)
    case isFalse => exact .refl g

/-- R164: a page program begins. -/
theorem logKeeps_startProgram (g : LogSystem) : LogKeeps g (startProgram g) := by
  unfold startProgram
  split
  · exact .refl g
  · exact .of_eq rfl rfl rfl rfl

/-- R162, R163: a record taken in IDLE. -/
theorem logKeeps_takeInIdle (stamp : Record) (g : LogSystem) : LogKeeps g (takeInIdle stamp g) := by
  unfold takeInIdle
  dsimp only
  (repeat' split)
  · exact (logKeeps_takeWaiting stamp 32 g).trans (logKeeps_startProgram _)
  · exact logKeeps_takeWaiting stamp 32 g
  · exact .refl g

/-- R162, R163: a return to IDLE. -/
theorem logKeeps_returnToIdle (stamp : Record) (whole : Bool) (g : LogSystem) :
    LogKeeps g (returnToIdle stamp whole g) := by
  have hidle : LogKeeps g { g with store := { g.store with state := .idle } } := .of_eq rfl rfl rfl rfl
  have htaken := hidle.trans (logKeeps_takeWaiting stamp 32 _)
  have hflush : ∀ h : LogSystem, LogKeeps h { h with store := { h.store with flushPending := false } } :=
    fun h => .of_eq rfl rfl rfl rfl
  unfold returnToIdle
  dsimp only
  split
  · exact (htaken.trans (hflush _)).trans (logKeeps_startProgram _)
  · exact htaken.trans (hflush _)

/-- R163: an evidence flush asked for. -/
theorem logKeeps_requestFlush (g : LogSystem) : LogKeeps g (requestFlush g).1 := by
  unfold requestFlush
  split
  · split
    · exact logKeeps_startProgram g
    · exact .refl g
  · split
    · exact .refl g
    · exact .of_eq rfl rfl rfl rfl

/-- R164: the records of a program are in the array. -/
theorem logKeeps_commitProgram (b p : Fin 16) (g : LogSystem) : LogKeeps g (commitProgram b p g).1 := by
  refine ⟨fun ⟨hq, hb, _⟩ => ⟨hq, hb, le_refl _⟩, fun ha => ?_⟩
  exact Memory.writeBytes_wf ha

/-- R167, R172: what an unfinished program leaves. -/
theorem logKeeps_leaveProgram (which : Nat → Bool) (mark : Bool) (b p : Fin 16) (g : LogSystem) :
    LogKeeps g (leaveProgram which mark b p g) :=
  ⟨id, fun ha => Memory.writeSome_wf ha⟩

/-- R166: a block erased. -/
theorem logKeeps_commitErase (b : Fin 16) (g : LogSystem) : LogKeeps g (commitErase b g) := by
  refine ⟨fun hg => ?_, fun ha => ?_⟩
  · simpa only [LogSystem.bounds, commitErase, clearBlock] using hg
  · simpa only [commitErase, clearBlock] using Memory.clearSome_wf ha

/-- R166, R172: what an unfinished erase leaves. -/
theorem logKeeps_leaveErase (bytes counts : Nat → Bool) (b : Fin 16) (g : LogSystem) :
    LogKeeps g (leaveErase bytes counts b g) := by
  refine ⟨fun hg => ?_, fun ha => ?_⟩
  · simpa only [LogSystem.bounds, leaveErase] using hg
  · simpa only [leaveErase] using Memory.clearSome_wf ha

/-- R164: a page that closes empties the buffer. -/
theorem logKeeps_emptyBuffer (g : LogSystem) : LogKeeps g (emptyBuffer g) :=
  ⟨fun ⟨hq, _, _⟩ => ⟨hq, Nat.zero_le _, Nat.zero_le _⟩, id⟩

/-- R170: the log store's scan leaves the event queue and the array, and empties the buffer. -/
theorem scanLog_frame (g : LogSystem) :
    (scanLog g).events = g.events ∧ (scanLog g).array = g.array ∧ (scanLog g).store.buffer = []
      ∧ (scanLog g).store.programmed = 0 := by
  unfold scanLog
  dsimp only
  (repeat' split) <;> exact ⟨rfl, rfl, rfl, rfl⟩

/-- R170: the log store's scan. -/
theorem logKeeps_scanLog (g : LogSystem) : LogKeeps g (scanLog g) := by
  obtain ⟨hevents, harray, hbuffer, hprogrammed⟩ := scanLog_frame g
  refine ⟨fun ⟨hq, _, _⟩ => ?_, fun ha => harray ▸ ha⟩
  simpa only [LogSystem.bounds, hevents, hbuffer, hprogrammed] using ⟨hq, Nat.zero_le _, Nat.zero_le _⟩

/-! ## What posting leaves of the log -/

/-- A change of the log by posting: it keeps bounds and form, the page buffer only grows, and nothing else that posting
leaves changes. -/
structure LogPosts (g h : LogSystem) : Prop where
  keeps : LogKeeps g h
  grows : g.store.buffer <+: h.store.buffer
  rest : h.rest = g.rest

/-- Posting is allowed in every scope. -/
theorem LogPosts.allows {h : LogSystem} (hp : LogPosts g h) (w : Scope) : w.AllowsLog g h := by
  match w with
  | .cascade => exact ⟨hp.grows, hp.rest⟩
  | .arrival false => exact hp.grows
  | .arrival true => trivial

/-- An arrival may do all to the log that leaves the buffer. -/
theorem allowsLog_of_buffer_eq {pages : Bool} {h : LogSystem} (hb : h.store.buffer = g.store.buffer) :
    (Scope.arrival pages).AllowsLog g h := by
  match pages with
  | false =>
    change g.store.buffer <+: h.store.buffer
    rw [hb]
  | true => trivial

/-- Two changes by posting. -/
theorem LogPosts.trans {h : LogSystem} (hg : LogPosts g₀ g) (hh : LogPosts g h) : LogPosts g₀ h :=
  ⟨hg.keeps.trans hh.keeps, hg.grows.trans hh.grows, hh.rest.trans hg.rest⟩

/-- R160: a record taken joins the buffer. -/
theorem takeOne_grows (stamp : Record) (g : LogSystem) : g.store.buffer <+: (takeOne stamp g).store.buffer := by
  unfold takeOne
  split
  · exact List.prefix_rfl
  · exact List.prefix_append _ _

/-- R162: the records taken join the buffer. -/
theorem takeWaiting_grows (stamp : Record) (n : Nat) (g : LogSystem) :
    g.store.buffer <+: (takeWaiting stamp n g).store.buffer := by
  induction n generalizing g with
  | zero => exact List.prefix_rfl
  | succ n ih =>
    unfold takeWaiting
    split
    · exact (takeOne_grows stamp g).trans (ih _)
    · exact List.prefix_rfl

/-- R164: the start of a program leaves the buffer. -/
@[simp] theorem buffer_startProgram (g : LogSystem) : (startProgram g).store.buffer = g.store.buffer := by
  unfold startProgram
  split <;> rfl

/-- R158, R159, R162: an event that joins the queue and is taken where the log store is IDLE. -/
theorem logPosts_post (r stamp : Record) (g : LogSystem) :
    LogPosts g (takeInIdle stamp { g with events := enqueue r g.events }) where
  keeps := (logKeeps_enqueue r g).trans (logKeeps_takeInIdle stamp _)
  grows := by
    unfold takeInIdle
    dsimp only
    (repeat' split)
    · rw [buffer_startProgram]
      exact takeWaiting_grows stamp 32 { g with events := enqueue r g.events }
    · exact takeWaiting_grows stamp 32 { g with events := enqueue r g.events }
    · exact List.prefix_rfl
  rest := by rw [rest_takeInIdle, rest_events]

/-- R163: an evidence flush asked for. -/
theorem logPosts_requestFlush (g : LogSystem) : LogPosts g (requestFlush g).1 where
  keeps := logKeeps_requestFlush g
  grows := by
    unfold requestFlush
    (repeat' split) <;> simp
  rest := rest_requestFlush g

/-- R162, R163: a return to IDLE lets records join the buffer. -/
theorem returnToIdle_grows (stamp : Record) (whole : Bool) (g : LogSystem) :
    g.store.buffer <+: (returnToIdle stamp whole g).store.buffer := by
  unfold returnToIdle
  dsimp only
  split
  · rw [buffer_startProgram]
    exact takeWaiting_grows stamp 32 { g with store := { g.store with state := .idle } }
  · exact takeWaiting_grows stamp 32 { g with store := { g.store with state := .idle } }

end

section
variable {w : Scope} {pages : Bool} {s₀ s : State}

/-! ## Posting, reporting and searching (R155, R156, R158 to R169) -/

/-- A change of the log. -/
theorem leads_log (h : Leads w s₀ s) {g : LogSystem} (hg : LogKeeps s.log g) (hw : w.AllowsLog s.log g) :
    Leads w s₀ { s with log := g } :=
  h.tail (.log s g hg hw)

/-- A change of the log by posting. -/
theorem leads_logPosts (h : Leads w s₀ s) {g : LogSystem} (hg : LogPosts s.log g) : Leads w s₀ { s with log := g } :=
  leads_log h hg.keeps (hg.allows w)

/-- R158: an event is posted. -/
@[simp] theorem leads_post (h : Leads w s₀ s) {kind : EventKind} {subject value1 value2 flags : Nat} :
    Leads w s₀ (post kind subject value1 value2 flags s) :=
  leads_logPosts h (logPosts_post _ _ _)

/-- R155, R156: a fault report, which acts in OPERATING alone. -/
theorem leads_reportFaultWith (h : Leads w s₀ s) {m : FaultMember} {b : Bool}
    (hm : w = .cascade → m = .stepFault ∨ m = .doorJammed) : Leads w s₀ (reportFault m b s) := by
  unfold reportFault
  split
  case isTrue hc =>
    simp only [State.operating, Bool.and_eq_true, decide_eq_true_eq] at hc
    refine leads_post (h.tail (.faults s _ hc.1 fun hw n hstep hdoor => FaultSummary.has_put_other _ _ ?_))
    obtain rfl | rfl := hm hw
    · exact hstep
    · exact hdoor
  case isFalse => exact h

/-- R155, R156: any fault report of an arrival. -/
theorem leads_reportFault (h : Leads (.arrival pages) s₀ s) {m : FaultMember} {b : Bool} :
    Leads (.arrival pages) s₀ (reportFault m b s) :=
  leads_reportFaultWith h nofun

/-- R165, R169: the log store searches on. -/
@[simp] theorem leads_searchFrom (h : Leads (.arrival pages) s₀ s) {b : Fin 16} :
    Leads (.arrival pages) s₀ (searchFrom b s) := by
  unfold searchFrom
  split
  · exact leads_reportFault
      (leads_log (g := startErase _ s.log) h (.of_eq rfl rfl rfl rfl) (allowsLog_of_buffer_eq rfl))
  · exact leads_reportFault (leads_log (g := enterFull s.log) h (.of_eq rfl rfl rfl rfl) (allowsLog_of_buffer_eq rfl))

/-- R168: a block is retired. -/
@[simp] theorem leads_retire (h : Leads (.arrival pages) s₀ s) {b : Fin 16} {cause : Nat} :
    Leads (.arrival pages) s₀ (retire b cause s) := by
  have hretired : Leads (.arrival pages) s₀ { s with log := retireBlock b s.log } :=
    leads_log h (.of_eq rfl rfl rfl rfl) (allowsLog_of_buffer_eq rfl)
  exact leads_ite (leads_reportFault (leads_post hretired)) (leads_post hretired)

/-- R162: the log store returns to IDLE. -/
@[simp] theorem leads_idleLog (h : Leads (.arrival pages) s₀ s) {whole : Bool} :
    Leads (.arrival pages) s₀ (idleLog whole s) := by
  refine leads_log h (logKeeps_returnToIdle _ _ _) ?_
  match pages with
  | false => exact returnToIdle_grows _ _ _
  | true => trivial

/-! ## The line's hand-overs (R71 to R74) -/

/-- A change of the line that leaves the queue, the two stages and the presence deadline. -/
theorem LineChange.of_eq {l : Line} (hq : l.queue = s.line.queue) (hh : l.holding = s.line.holding)
    (hs : l.shift = s.line.shift) (hp : l.presenceDeadline = s.line.presenceDeadline) : LineChange s l where
  slots := fun h => by simpa only [SlotLaw, hq, hh, hs] using h
  restarts := fun z hz => .inl (by simpa only [Line.frames, hq, hh, hs] using hz)
  failed := fun h => by simpa only [FailedLineLaw, StartupLaw, State.operating, hq, hh, hp] using h

end

end Sys2Proof.Machine
end

section
/-! SUPPORT. The shared operations of the line, the plant and the zone unit lead to what they give by changes that keep
every law. -/
namespace Sys2Proof.Machine

section
variable {w : Scope} {pages : Bool} {s₀ s : State}

/-! ## The outbound queue (R70 to R74) -/

/-- A change of the line that a cascade may make where it keeps the other frames. -/
theorem leads_lineWith (h : Leads w s₀ s) {l : Line} (hl : LineChange s l)
    (hw : w = .cascade → s.line.KeepsOthers l) : Leads w s₀ { s with line := l } :=
  h.tail (.line s l hl hw)

/-- A change of the line by an arrival. -/
theorem leads_line (h : Leads (.arrival pages) s₀ s) {l : Line} (hl : LineChange s l) :
    Leads (.arrival pages) s₀ { s with line := l } :=
  leads_lineWith h hl nofun

/-- A frame of the queue is a frame of the line. -/
theorem mem_frames {l : Line} {f : OutFrame} :
    f ∈ l.frames ↔ f ∈ l.queue ∨ l.holding = some f ∨ ∃ d, l.shift = some d ∧ d.frame = f := by
  simp [Line.frames, Option.mem_toList]

/-- R71 to R73: a hand-over that keeps slot and count, outside STARTUP_FAILED, of a RESTART of the home zone at most. -/
theorem LineChange.handOver {f : OutFrame} {change : OutFrame → OutFrame} (hf : f.countGood = true)
    (hchange : ∀ g, f.sameSlot g = true → g.countGood = true →
      (change g).slot = g.slot ∧ (change g).countGood = true)
    (hkeeps : ∀ g z, f.sameSlot g = true → change g = .restart z → g = .restart z)
    (hrestart : ∀ z, f = .restart z → s.startup.state = .operating ∧ z = s.cfg.homeZone)
    (hfailed : FailedLineLaw s → s.startup.state ≠ .failed) :
    LineChange s { s.line with queue := handOver f change s.line.queue } where
  slots := fun ⟨hslots, hcounts, hholding, hshift⟩ =>
    have ⟨hslots', hcounts'⟩ := GoodQueue.handOver hf hchange ⟨hslots, hcounts⟩
    ⟨hslots', hcounts', hholding, hshift⟩
  restarts := fun z hz => by
    obtain hq | hstages := mem_frames.1 hz
    · obtain hq | hq | ⟨g, hg, hsame, hq⟩ := mem_handOver hq
      · exact .inl (mem_frames.2 (.inl hq))
      · exact .inr (hrestart z hq.symm)
      · exact .inl (mem_frames.2 (.inl (hkeeps g z hsame hq.symm ▸ hg)))
    · exact .inl (mem_frames.2 (.inr hstages))
  failed := fun h => ⟨h.1, h.2.1, fun hs => absurd hs (hfailed h)⟩

/-- R74: the head frame enters the holding stage. -/
theorem LineChange.holdHead (s : State) : LineChange s (holdHead s.line) := by
  unfold Machine.holdHead
  split
  case h_1 => exact .of_eq rfl rfl rfl rfl
  case h_2 f rest hcons =>
    refine ⟨fun ⟨hslots, hcounts, _, hshift⟩ => ?_, fun z hz => ?_, fun ⟨hstart, hpresence, hfailed⟩ => ?_⟩
    · rw [hcons] at hslots hcounts
      refine ⟨(List.pairwise_cons.1 hslots).2, fun g hg => hcounts g (List.mem_cons_of_mem _ hg), ?_, hshift⟩
      rintro g ⟨⟩
      exact hcounts f List.mem_cons_self
    · left
      simp only [mem_frames, hcons, List.mem_cons] at hz ⊢
      obtain hz | hz | hz := hz
      · exact .inl (.inr hz)
      · exact .inl (.inl (Option.some.inj hz).symm)
      · exact .inr (.inr hz)
    · exact ⟨hstart, hpresence, fun hs => by simp [(hfailed hs).1] at hcons⟩

/-- R70, R74: a frame waits where it stands in the queue or in the holding stage. -/
theorem waits_iff {l : Line} {f : OutFrame} : l.waits f = true ↔ f ∈ l.queue ∨ l.holding = some f := by
  simp [Line.waits]

/-- R74: the frames that wait go on waiting where the head frame is held, with the holding stage empty before. -/
theorem waits_holdHead {l : Line} (h : l.holding = none) {f : OutFrame} (hf : l.waits f = true) :
    (holdHead l).waits f = true := by
  rw [waits_iff] at hf ⊢
  unfold holdHead
  split
  case h_1 => exact hf
  case h_2 g rest hcons =>
    simp only [hcons, h, List.mem_cons, reduceCtorEq, or_false] at hf
    obtain rfl | hf := hf
    · exact .inr rfl
    · exact .inl hf

/-- R74: the frames that wait go on waiting where the head is judged. -/
theorem waits_judgeGap {station : Nat} {l : Line} {f : OutFrame} (hf : l.waits f = true) :
    (judgeGap station l).waits f = true := by
  unfold judgeGap
  split
  case isTrue hc =>
    simp only [mayHold, Bool.and_eq_true, Option.isNone_iff_eq_none] at hc
    exact waits_holdHead hc.1.1.1.1.2 hf
  case isFalse => exact hf

/-- R74: the line but for the queue and the holding stage stands where the head is judged. -/
@[simp] theorem rest_judgeGap (station : Nat) (l : Line) : (judgeGap station l).rest = l.rest := by
  unfold judgeGap holdHead Line.rest
  (repeat' split) <;> rfl

/-- R71 to R73: a hand-over leaves the frames of other slots. -/
theorem mem_handOver_of_other {f g : OutFrame} {change : OutFrame → OutFrame} {q : List OutFrame} (hg : g ∈ q)
    (hother : f.sameSlot g = false) : g ∈ handOver f change q := by
  unfold handOver
  split
  · exact List.mem_map.2 ⟨g, hg, by simp [hother]⟩
  · exact (insertFrame_perm f q).mem_iff.2 (List.mem_cons_of_mem f hg)

/-- R72: a VOTE handed over leaves the other frames waiting. -/
theorem keepsOthers_handOver_vote (l : Line) (z : Nat) (v : Vote) (change : OutFrame → OutFrame) :
    l.KeepsOthers { l with queue := handOver (.vote z v) change l.queue } := by
  refine ⟨rfl, fun f hkind hf => ?_⟩
  rw [waits_iff] at hf ⊢
  refine hf.imp_left fun hmem => mem_handOver_of_other hmem ?_
  cases f with
  | vote => exact absurd rfl hkind
  | _ => rfl

/-- R74: the head frame judged against its gap. -/
theorem leads_judgeGap {l : Line} {station : Nat} (h : Leads w s₀ { s with line := l }) :
    Leads w s₀ { s with line := judgeGap station l } := by
  refine leads_lineWith h (s := { s with line := l }) ?_ fun _ => ⟨rest_judgeGap station l, fun f _ => waits_judgeGap⟩
  unfold judgeGap
  split
  · exact LineChange.holdHead { s with line := l }
  · exact .of_eq rfl rfl rfl rfl

/-- R71: a detection handed over in operation. -/
theorem leads_handDetection (h : Leads (.arrival pages) s₀ s) (ho : s.startup.state = .operating) {ch : Fin 4}
    {t : Instant}
    {peak : Nat} : Leads (.arrival pages) s₀ (handDetection ch t peak s) := by
  refine leads_judgeGap (leads_line h (.handOver rfl ?_ ?_ (by simp) (by simp [ho])))
  · intro g hsame hg
    cases g <;> simp_all [OutFrame.sameSlot, coalesce, OutFrame.slot, OutFrame.countGood]
  · intro g z hsame hg
    cases g <;> simp_all [coalesce]

/-- R72: a vote handed over in operation. -/
theorem leads_handVote (h : Leads w s₀ s) (ho : s.startup.state = .operating) {v : Vote} :
    Leads w s₀ (handVote v s) := by
  refine leads_judgeGap (leads_lineWith h (.handOver rfl ?_ (by simp) (by simp) (by simp [ho]))
    fun _ => keepsOthers_handOver_vote _ _ _ _)
  intro g hsame _
  cases g <;> simp_all [OutFrame.sameSlot, OutFrame.slot, OutFrame.countGood]

/-- R72: a restart of the home zone handed over in operation. -/
theorem leads_handRestart (h : Leads (.arrival pages) s₀ s) (ho : s.startup.state = .operating) :
    Leads (.arrival pages) s₀ (handRestart s) :=
  leads_judgeGap (leads_line h (.handOver rfl (fun _ _ hg => ⟨rfl, hg⟩) (fun _ _ _ hg => hg)
    (fun _ hz => ⟨ho, by simpa using hz.symm⟩) (by simp [ho])))

/-- R73: a PRESENCE placed, which STARTUP_FAILED never does. -/
theorem leads_placePresence (h : Leads (.arrival pages) s₀ s) (hfailed : FailedLineLaw s → s.startup.state ≠ .failed) :
    Leads (.arrival pages) s₀ (placePresence s) := by
  refine leads_judgeGap (leads_line h (.handOver rfl ?_ (by simp) (by simp) hfailed))
  intro g hsame _
  cases g <;> simp_all [OutFrame.sameSlot, OutFrame.slot, OutFrame.countGood]

/-! ## The extraction sequencer (section 6) -/

/-- R111, R129: a change of the sequencer in operation that leaves the demands. -/
theorem leads_sequencer (h : Leads w s₀ s) (ho : s.startup.state = .operating) {q : Sequencer}
    (hdemands : q.demands = s.sequencer.demands)
    (hq : OutputTableLaw s → FeedHoldLaw s →
      OutputTableLaw { s with sequencer := q } ∧ FeedHoldLaw { s with sequencer := q }) :
    Leads w s₀ { s with sequencer := q } := by
  refine h.tail (.plant s q s.doors ho fun ⟨htable, hhold, hdoors⟩ => ?_)
  obtain ⟨htable', hhold'⟩ := hq htable hhold
  exact ⟨htable', hhold', hdoors.1, hdoors.2.1, hdemands.trans hdoors.2.2⟩

/-- R128: outside RUNNING the FEED_HOLD flag does not stand. -/
theorem feedHold_eq_false (h : FeedHoldLaw s) (hr : s.sequencer.state ≠ .running) :
    s.sequencer.feedHold = false := by
  simp [h.2, hr]

/-- R111: a change of state in which the FEED_HOLD flag is that of the state entered. -/
theorem leads_setSequencer_of_feedHold (h : Leads w s₀ s) (ho : s.startup.state = .operating) {st : SeqState}
    (hhold : FeedHoldLaw s →
      s.sequencer.feedHold = (decide (st = .running) && s.cfg.roles.feed && s.demandStands)) :
    Leads w s₀ (setSequencer st s) :=
  leads_sequencer h ho rfl fun _ hs => ⟨rfl, by simp, hhold hs⟩

/-- R111: a change from a state other than RUNNING to another such. -/
theorem leads_setSequencer (h : Leads w s₀ s) (ho : s.startup.state = .operating) {st : SeqState}
    (hr : s.sequencer.state ≠ .running) (hst : st ≠ .running) : Leads w s₀ (setSequencer st s) :=
  leads_setSequencer_of_feedHold h ho fun hs => by simp [feedHold_eq_false hs hr, hst]

/-- R130: a STEP event. -/
@[simp] theorem leads_postStep (h : Leads w s₀ s) {subject code value2 : Nat} :
    Leads w s₀ (postStep subject code value2 s) :=
  leads_post h

/-- R113: a step timer that ends. -/
theorem leads_endTimer (h : Leads w s₀ s) (ho : s.startup.state = .operating) :
    Leads w s₀ { s with sequencer := { s.sequencer with stepTimer := none } } :=
  leads_sequencer h ho rfl fun htable hs => ⟨htable, by simp, hs.2⟩

/-- R113: entry to a step, once its state has been entered. -/
theorem leads_enterStep {st : SeqState} {inRole confirmed : Bool} {limit : Nat} {next : State → State}
    (h : Leads w s₀ (setSequencer st s)) (ho : s.startup.state = .operating) (hst : st ≠ .feedWait)
    (hnext : ∀ t, Leads w s₀ t → t.startup.state = .operating → t.sequencer.state = st → Leads w s₀ (next t)) :
    Leads w s₀ (enterStep st inRole limit confirmed next s) := by
  unfold enterStep
  dsimp only
  split
  · exact hnext _ (leads_postStep h) (by simpa using ho) (by simp)
  · split
    · exact hnext _ (leads_postStep h) (by simpa using ho) (by simp)
    · exact leads_sequencer h ho rfl fun htable hs => ⟨htable, fun _ => by simpa using hst, hs.2⟩

/-- R118: entry to HALTED. -/
theorem leads_enterHalted (h : Leads w s₀ s) (ho : s.startup.state = .operating) (hr : s.sequencer.state ≠ .running)
    {cause : HaltedCause} : Leads w s₀ (enterHalted cause s) :=
  leads_postStep (leads_sequencer (q := { (setSequencer .halted s).sequencer with haltedCause := some cause })
    (leads_setSequencer h ho hr (by decide)) ho rfl fun htable hs => ⟨htable, hs⟩)

/-- DAMPER_CLOSING. -/
theorem leads_enterDamperClosing (h : Leads w s₀ s) (ho : s.startup.state = .operating)
    (hr : s.sequencer.state ≠ .running) : Leads w s₀ (enterDamperClosing s) :=
  leads_enterStep (leads_setSequencer h ho hr (by decide)) ho (by decide)
    fun _ ht hot hst => leads_enterHalted ht hot (by simp [hst])

/-- R117: FAN_STOPPING. -/
theorem leads_enterFanStopping (h : Leads w s₀ s) (ho : s.startup.state = .operating)
    (hr : s.sequencer.state ≠ .running) : Leads w s₀ (enterFanStopping s) :=
  leads_enterStep (leads_setSequencer h ho hr (by decide)) ho (by decide)
    fun _ ht hot hst => leads_enterDamperClosing ht hot (by simp [hst])

/-- R116: RUN_ON. -/
theorem leads_enterRunOn (h : Leads w s₀ s) (ho : s.startup.state = .operating)
    (hr : s.sequencer.state ≠ .running) : Leads w s₀ (enterRunOn s) :=
  leads_enterStep (leads_setSequencer h ho hr (by decide)) ho (by decide)
    fun _ ht hot hst => leads_enterFanStopping ht hot (by simp [hst])

/-- VENTING. -/
theorem leads_enterVenting (h : Leads w s₀ s) (ho : s.startup.state = .operating)
    (hr : s.sequencer.state ≠ .running) : Leads w s₀ (enterVenting s) :=
  leads_enterStep (leads_setSequencer h ho hr (by decide)) ho (by decide)
    fun _ ht hot hst => leads_enterRunOn ht hot (by simp [hst])

/-- FEED_STOPPING, once its state has been entered. -/
theorem leads_enterFeedStopping (h : Leads w s₀ (setSequencer .feedStopping s)) (ho : s.startup.state = .operating) :
    Leads w s₀ (enterFeedStopping s) :=
  leads_enterStep h ho (by decide) fun _ ht hot hst => leads_enterVenting ht hot (by simp [hst])

/-- R128: entry to RUNNING where no demand holds FEED. -/
theorem leads_enterRunning (h : Leads w s₀ s) (ho : s.startup.state = .operating) (hr : s.sequencer.state ≠ .running)
    (hfree : (s.cfg.roles.feed && s.demandStands) = false) : Leads w s₀ (enterRunning s) :=
  leads_postStep (leads_setSequencer_of_feedHold h ho fun hs => by simp [feedHold_eq_false hs hr, hfree])

/-- R128: FEED_WAIT. -/
theorem leads_enterFeedWait (h : Leads w s₀ s) (ho : s.startup.state = .operating)
    (hr : s.sequencer.state ≠ .running) : Leads w s₀ (enterFeedWait s) := by
  have hset : Leads w s₀ (setSequencer .feedWait s) := leads_setSequencer h ho hr (by decide)
  unfold enterFeedWait
  dsimp only
  split
  case isTrue hfeed =>
    have hfree : ((setSequencer .feedWait s).cfg.roles.feed && (setSequencer .feedWait s).demandStands) = false := by
      simp_all
    exact leads_enterRunning (leads_postStep hset) (by simpa using ho) (by simp) hfree
  case isFalse =>
    split
    case isTrue hdemand =>
      have hfree : ((setSequencer .feedWait s).cfg.roles.feed && (setSequencer .feedWait s).demandStands) = false := by
        simp_all
      exact leads_enterRunning (leads_postStep hset) (by simpa using ho) (by simp) hfree
    case isFalse => exact hset

/-- R125: GATE_RETURNING. -/
theorem leads_enterGateReturning (h : Leads w s₀ s) (ho : s.startup.state = .operating)
    (hr : s.sequencer.state ≠ .running) : Leads w s₀ (enterGateReturning s) :=
  leads_enterStep (leads_setSequencer h ho hr (by decide)) ho (by decide)
    fun _ ht hot hst => leads_enterFeedWait ht hot (by simp [hst])

/-- R126: FAN_STARTING. -/
theorem leads_enterFanStarting (h : Leads w s₀ s) (ho : s.startup.state = .operating)
    (hr : s.sequencer.state ≠ .running) : Leads w s₀ (enterFanStarting s) :=
  leads_enterStep (leads_setSequencer h ho hr (by decide)) ho (by decide)
    fun _ ht hot hst => leads_enterGateReturning ht hot (by simp [hst])

/-- R125: DAMPER_OPENING. -/
theorem leads_enterDamperOpening (h : Leads w s₀ s) (ho : s.startup.state = .operating)
    (hr : s.sequencer.state ≠ .running) : Leads w s₀ (enterDamperOpening s) :=
  leads_enterStep (leads_setSequencer h ho hr (by decide)) ho (by decide)
    fun _ ht hot hst => leads_enterFanStarting ht hot (by simp [hst])

/-- The step that follows the present one, FEED_WAIT's where no demand holds FEED. -/
theorem leads_nextStep (h : Leads w s₀ s) (ho : s.startup.state = .operating)
    (hfree : s.sequencer.state = .feedWait → (s.cfg.roles.feed && s.demandStands) = false) :
    Leads w s₀ (nextStep s.sequencer.state s) := by
  cases hst : s.sequencer.state with
  | feedStopping => exact leads_enterVenting h ho (by simp [hst])
  | venting => exact leads_enterRunOn h ho (by simp [hst])
  | runOn => exact leads_enterFanStopping h ho (by simp [hst])
  | fanStopping => exact leads_enterDamperClosing h ho (by simp [hst])
  | damperClosing => exact leads_enterHalted h ho (by simp [hst])
  | damperOpening => exact leads_enterFanStarting h ho (by simp [hst])
  | fanStarting => exact leads_enterGateReturning h ho (by simp [hst])
  | gateReturning => exact leads_enterFeedWait h ho (by simp [hst])
  | feedWait => exact leads_enterRunning h ho (by simp [hst]) (hfree hst)
  | running => exact h
  | halted => exact h

/-- R113, R116: the present step completes. -/
theorem leads_completeStep (h : Leads w s₀ s) (ho : s.startup.state = .operating)
    (hfree : s.sequencer.state = .feedWait → (s.cfg.roles.feed && s.demandStands) = false) {code : Nat} :
    Leads w s₀ (completeStep code s) :=
  leads_nextStep (leads_postStep (leads_endTimer h ho)) (by simpa using ho) hfree

/-- R120: the step-fault flag. -/
theorem leads_setStepFault (h : Leads w s₀ s) (ho : s.startup.state = .operating) {b : Bool} :
    Leads w s₀ (setStepFault b s) :=
  leads_reportFaultWith
    (leads_sequencer (q := { s.sequencer with stepFault := b }) h ho rfl fun htable hs => ⟨htable, hs⟩) fun _ => .inl
      rfl

end

end Sys2Proof.Machine
end

section
/-! SUPPORT. The sequencer's notices, the doors, the sirens and the zone unit lead to what they give by changes that
keep every law. -/
namespace Sys2Proof.Machine

/-! ## Reports that pass the plant by -/

/-- R155: a fault report does not read the sequencer or the doors. -/
theorem reportFault_plant (m : FaultMember) (b : Bool) (s : State) (q : Sequencer) (ds : Pair Door) :
    reportFault m b { s with sequencer := q, doors := ds }
      = { reportFault m b s with sequencer := q, doors := ds } := by
  unfold reportFault
  have hop : State.operating { s with sequencer := q, doors := ds } = s.operating := rfl
  rw [hop]
  dsimp only
  split <;> rfl

/-- R158: a posted event does not read the sequencer or the doors. -/
theorem post_plant (kind : EventKind) (subject value1 value2 flags : Nat) (s : State) (q : Sequencer)
    (ds : Pair Door) :
    post kind subject value1 value2 flags { s with sequencer := q, doors := ds }
      = { post kind subject value1 value2 flags s with sequencer := q, doors := ds } := rfl

section
variable {w : Scope} {s₀ s : State}

/-! ## Ends of steps and notices (R112 to R127) -/

/-- R120: a step whose timer has ended stays the present one when its fault is flagged. -/
theorem state_setStepFault (b : Bool) (s : State) :
    (setStepFault b s).sequencer = { s.sequencer with stepFault := b } := by
  simp [setStepFault]

/-- A change of the sequencer from a state in which the law of the feed hold does not hold is no matter to it. -/
theorem leads_sequencer_of_not (h : Leads w s₀ s) (ho : s.startup.state = .operating) {q : Sequencer}
    (hdemands : q.demands = s.sequencer.demands) (hs : ¬ FeedHoldLaw s) : Leads w s₀ { s with sequencer := q } :=
  leads_sequencer h ho hdemands fun _ hlaw => absurd hlaw hs

/-- R114: a step that ends in fault in FEED_WAIT, in which no step timer runs under the law of the feed hold. -/
theorem leads_faultStep_feedWait (h : Leads w s₀ s) (ho : s.startup.state = .operating)
    (htimer : s.sequencer.stepTimer.isSome = true) (hwait : s.sequencer.state = .feedWait) :
    Leads w s₀ (faultStep s) := by
  have hreported : setStepFault true { s with sequencer := { s.sequencer with stepTimer := none } }
      = { reportFault .stepFault true s with
          sequencer := { s.sequencer with stepTimer := none, stepFault := true } } := by
    simpa [setStepFault] using
      reportFault_plant .stepFault true s { s.sequencer with stepTimer := none, stepFault := true } s.doors
  have hfault : faultStep s = enterRunning (postStep (stepNumber s.sequencer.state)
      (stepFaultCode s.sequencer.state s.flow.status) (sat16 (stepLimit s.cfg s.sequencer.state))
      (setStepFault true { s with sequencer := { s.sequencer with stepTimer := none } })) := by
    simp only [faultStep, hwait, nextStep, if_false, reduceCtorEq]
  rw [hfault, hreported]
  refine leads_postStep (leads_sequencer_of_not (leads_postStep (leads_reportFaultWith h fun _ => .inl rfl))
    (by simpa using ho) ?_ ?_)
  · simp
  · simpa [hwait] using fun hs => by simp [hs] at htimer

/-- R114, R126: a step whose timer runs ends in fault. -/
theorem leads_faultStep (h : Leads w s₀ s) (ho : s.startup.state = .operating)
    (htimer : s.sequencer.stepTimer.isSome = true) : Leads w s₀ (faultStep s) := by
  by_cases hwait : s.sequencer.state = .feedWait
  case pos => exact leads_faultStep_feedWait h ho htimer hwait
  case neg =>
    have hlate : Leads w s₀ (setStepFault true { s with sequencer := { s.sequencer with stepTimer := none } }) :=
      leads_setStepFault (leads_endTimer h ho) ho
    unfold faultStep
    dsimp only
    split
    case isTrue hst =>
      exact leads_enterHalted (leads_postStep hlate) (by simpa using ho) (by simp [state_setStepFault, hst])
    case isFalse =>
      have hnext := leads_nextStep (leads_postStep (subject := stepNumber s.sequencer.state)
        (code := stepFaultCode s.sequencer.state s.flow.status)
        (value2 := sat16 (stepLimit s.cfg s.sequencer.state)) hlate) (by simpa using ho)
        (by simp [state_setStepFault, hwait])
      simpa [state_setStepFault] using hnext

/-- R114, R116: the step timer has expired. -/
theorem leads_expireStep (h : Leads w s₀ s) (ho : s.startup.state = .operating)
    (htimer : s.sequencer.stepTimer.isSome = true) : Leads w s₀ (expireStep s) := by
  unfold expireStep
  split
  case isTrue hst =>
    exact leads_enterFanStopping (leads_postStep (leads_endTimer h ho)) (by simpa using ho) (by simp [hst])
  case isFalse => exact leads_faultStep h ho htimer

/-- R127: a restart is reversed. -/
theorem leads_reversalStep (h : Leads w s₀ s) (ho : s.startup.state = .operating) {st : SeqState}
    (hr : s.sequencer.state ≠ .running) : Leads w s₀ (reversalStep st s) := by
  unfold reversalStep
  cases st with
  | feedWait => exact leads_enterVenting h ho hr
  | gateReturning => exact leads_enterVenting h ho hr
  | fanStarting => exact leads_enterFanStopping h ho hr
  | damperOpening => exact leads_enterDamperClosing h ho hr
  | running | feedStopping | venting | runOn | fanStopping | damperClosing | halted => exact h

/-- R112: a shutdown starts from RUNNING, where FEED_HOLD is dropped as FEED_STOPPING is entered. -/
theorem leads_startShutdown (h : Leads w s₀ s) (ho : s.startup.state = .operating) {code : Nat} :
    Leads w s₀ (enterFeedStopping (postStep 0 5 code
      { s with sequencer := { s.sequencer with feedHold := false } })) := by
  refine leads_enterFeedStopping ?_ (by simpa using ho)
  exact leads_sequencer (s := postStep 0 5 code s)
    (q := (setSequencer .feedStopping (postStep 0 5 code
      { s with sequencer := { s.sequencer with feedHold := false } })).sequencer)
    (leads_postStep h) (by simpa using ho) (by simp [setSequencer])
    fun _ _ => ⟨rfl, by simp [setSequencer], by simp [setSequencer]⟩

/-- R112, R116, R119, R127: a notice of the home view. -/
theorem leads_sequencerNotice (h : Leads w s₀ s) (ho : s.startup.state = .operating) {view : Level} :
    Leads w s₀ (sequencerNotice view s) := by
  unfold sequencerNotice
  refine leads_ite (leads_ite (leads_startShutdown h ho) ?_) h
  split
  case isTrue hrestarting =>
    have hr : s.sequencer.state ≠ .running := fun hst => by simp [hst, SeqState.restarting] at hrestarting
    exact leads_reversalStep (leads_postStep (leads_endTimer h ho)) (by simpa using ho) (by simpa using hr)
  case isFalse =>
    split
    case isTrue hrun => exact leads_completeStep h ho (by simp [hrun.1])
    case isFalse => exact h

/-- R113: a confirming input. -/
theorem leads_confirmByInput (h : Leads w s₀ s) (ho : s.startup.state = .operating) {i : ConfirmInput} :
    Leads w s₀ (confirmByInput i s) := by
  unfold confirmByInput
  split
  case isTrue hc =>
    exact leads_completeStep h ho (fun hwait => by cases i <;> simp [hwait, inputConfirms] at hc)
  case isFalse => exact h

/-- R113, R117, R126: a report of the flow status. -/
theorem leads_confirmByFlow (h : Leads w s₀ s) (ho : s.startup.state = .operating) : Leads w s₀ (confirmByFlow s) := by
  unfold confirmByFlow
  split
  case isTrue hc => exact leads_completeStep h ho (fun hwait => by simp [hwait] at hc)
  case isFalse => exact h

/-! ## Doors (section 7) -/

/-- R143: a door's record whose demand follows its state keeps the law of the demands, where the sequencer's demands
follow the doors'. -/
theorem DemandLaw.set (h : DemandLaw s) {d : Fin 2} {x : Door} {q : Sequencer}
    (hx : x.demand = ((s.cfg.doors.get d).feedHold && demandState x.state))
    (hq : q.demands = s.sequencer.demands.set d x.demand) :
    DemandLaw { s with sequencer := q, doors := s.doors.set d x } := by
  obtain ⟨hfst, hsnd, hdemands⟩ := h
  rw [hdemands] at hq
  fin_cases d
  · exact ⟨hx, hsnd, hq⟩
  · exact ⟨hfst, hx, hq⟩

/-- R143: under the law of the demands the sequencer holds a door's demand. -/
theorem DemandLaw.get (h : DemandLaw s) (d : Fin 2) : s.sequencer.demands.get d = (s.doors.get d).demand := by
  rw [h.2.2]
  fin_cases d <;> rfl

/-- Writing a member twice keeps the last. -/
@[simp] theorem Pair.set_set {α : Type} (p : Pair α) (i : Fin 2) (x y : α) : (p.set i x).set i y = p.set i y := by
  unfold Pair.set
  split <;> rfl

/-- A member written back. -/
@[simp] theorem Pair.set_get_self {α : Type} (p : Pair α) (i : Fin 2) : p.set i (p.get i) = p := by
  unfold Pair.set Pair.get
  split <;> rfl

/-- R129: some demand stands once one has been placed. -/
theorem any_set_true (p : Pair Bool) (d : Fin 2) : (p.set d true).any (fun b => b) = true := by
  fin_cases d <;> simp [Pair.set, Pair.any]

/-- R129: a demand stands after one is withdrawn only where one stood before. -/
theorem any_of_any_set_false {p : Pair Bool} {d : Fin 2} (h : (p.set d false).any (fun b => b) = true) :
    p.any (fun b => b) = true := by
  fin_cases d <;> simp_all [Pair.set, Pair.any]

/-- A change of the plant to a door's record whose demand follows its state, with the demands that follow. -/
theorem leads_plant (h : Leads w s₀ s) (ho : s.startup.state = .operating) {d : Fin 2} {x : Door}
    (hx : x.demand = ((s.cfg.doors.get d).feedHold && demandState x.state)) {q : Sequencer}
    (hdemands : q.demands = s.sequencer.demands.set d x.demand)
    (htable : OutputTableLaw s → q.outputs = seqOutputs s.cfg.roles q.state q.feedHold)
    (htimer : q.stepTimer = s.sequencer.stepTimer ∧ q.state = s.sequencer.state)
    (hhold : s.sequencer.feedHold = (decide (s.sequencer.state = .running) && s.cfg.roles.feed && s.demandStands) →
      q.feedHold = (decide (q.state = .running) && s.cfg.roles.feed && q.demands.any (fun b => b))) :
    Leads w s₀ { s with sequencer := q, doors := s.doors.set d x } := by
  refine h.tail (.plant s q _ ho fun ⟨ht, hh, hd⟩ => ⟨htable ht, ⟨?_, hhold hh.2⟩, hd.set hx hdemands⟩)
  simpa only [htimer] using hh.1

/-- R128, R129: a demand that is placed. -/
theorem leads_placeDemand (h : Leads w s₀ s) (ho : s.startup.state = .operating) {d : Fin 2} {x : Door}
    (hx : x.demand = ((s.cfg.doors.get d).feedHold && demandState x.state)) (hstanding : x.demand = true) :
    Leads w s₀ (placeDemand d { s with doors := s.doors.set d x }) := by
  have hstands := any_set_true s.sequencer.demands d
  unfold placeDemand
  dsimp only
  split
  case isTrue hfirst =>
    have hrun : s.sequencer.state = .running := hfirst.2.1
    have hfeed : s.cfg.roles.feed = true := hfirst.2.2
    refine leads_postStep (leads_plant h ho hx (q := { s.sequencer with
      demands := s.sequencer.demands.set d true, feedHold := true
      outputs := seqOutputs s.cfg.roles s.sequencer.state true }) (by rw [hstanding]) (fun _ => rfl) ⟨rfl, rfl⟩ ?_)
    simp [hrun, hfeed, hstands]
  case isFalse hnot =>
    have hnot' : ¬ ((!s.demandStands) = true ∧ s.sequencer.state = .running ∧ s.cfg.roles.feed = true) := hnot
    refine leads_plant h ho hx (q := { s.sequencer with demands := s.sequencer.demands.set d true })
      (by rw [hstanding]) id ⟨rfl, rfl⟩ fun hhold => ?_
    rw [hhold, hstands]
    grind

/-- R129: the demands without a door's, which leave FEED_HOLD unless they were the last to hold it. -/
theorem leads_dropDemand (h : Leads w s₀ s) (ho : s.startup.state = .operating) {d : Fin 2} {x : Door}
    (hx : x.demand = ((s.cfg.doors.get d).feedHold && demandState x.state)) (hstanding : x.demand = false)
    (hlast : ¬ (s.demandStands = true ∧ (s.sequencer.demands.set d false).any (fun b => b) = false
      ∧ s.sequencer.state = .running ∧ s.cfg.roles.feed = true)) :
    Leads w s₀ { s with
      sequencer := { s.sequencer with demands := s.sequencer.demands.set d false }, doors := s.doors.set d x } := by
  have hstands := @any_of_any_set_false s.sequencer.demands d
  refine leads_plant h ho hx (by rw [hstanding]) id ⟨rfl, rfl⟩ fun hhold => ?_
  rw [hhold]
  unfold State.demandStands at hlast ⊢
  grind

/-- R128, R129: a demand that is withdrawn. -/
theorem leads_withdrawDemand (h : Leads w s₀ s) (ho : s.startup.state = .operating) {d : Fin 2} {x : Door}
    (hx : x.demand = ((s.cfg.doors.get d).feedHold && demandState x.state)) (hstanding : x.demand = false) :
    Leads w s₀ (withdrawDemand d { s with doors := s.doors.set d x }) := by
  unfold withdrawDemand
  dsimp only
  split
  case isTrue hlast =>
    have hnone : (s.sequencer.demands.set d false).any (fun b => b) = false := by
      simpa [State.demandStands] using hlast.2
    split
    case isTrue hrun =>
      refine leads_postStep (leads_plant h ho hx (q := { s.sequencer with
        demands := s.sequencer.demands.set d false, feedHold := false
        outputs := seqOutputs s.cfg.roles s.sequencer.state false }) (by rw [hstanding]) (fun _ => rfl) ⟨rfl, rfl⟩ ?_)
      simp [hnone]
    case isFalse hrun =>
      have hdropped := leads_dropDemand h ho hx hstanding fun hc => hrun hc.2.2
      exact leads_ite (leads_completeStep hdropped ho (by simp [State.demandStands, hnone])) hdropped
  case isFalse hnot =>
    refine leads_dropDemand h ho hx hstanding fun hc => hnot ⟨hc.1, ?_⟩
    simpa [State.demandStands] using hc.2.1

/-- R143: a door's record is replaced by one of another state, and its demand follows. -/
theorem leads_syncDemand (h : Leads w s₀ s) (ho : s.startup.state = .operating) {d : Fin 2} {x : Door}
    (hx : x.demand = (s.doors.get d).demand) : Leads w s₀ (syncDemand d { s with doors := s.doors.set d x }) := by
  unfold syncDemand
  simp only [Pair.get_set_same, Pair.set_set]
  split
  case isTrue heq =>
    refine h.tail (.plant s s.sequencer _ ho fun ⟨htable, hhold, hd⟩ => ⟨htable, hhold, hd.set heq.symm ?_⟩)
    rw [hx, ← hd.get, Pair.set_get_self]
  case isFalse hne =>
    split
    case isTrue hstanding => exact leads_placeDemand (x := { x with demand := _ }) h ho rfl hstanding
    case isFalse hstanding =>
      exact leads_withdrawDemand (x := { x with demand := _ }) h ho rfl (by simpa using hstanding)

/-- R143: a door's record with its state and its demand as they stood. -/
theorem leads_door (h : Leads w s₀ s) (ho : s.startup.state = .operating) {d : Fin 2} {x : Door}
    (hstate : x.state = (s.doors.get d).state) (hdemand : x.demand = (s.doors.get d).demand) :
    Leads w s₀ { s with doors := s.doors.set d x } := by
  refine h.tail (.plant s s.sequencer _ ho fun ⟨htable, hhold, hd⟩ => ⟨htable, hhold, hd.set ?_ ?_⟩)
  · rw [hstate, hdemand]
    fin_cases d
    · exact hd.1
    · exact hd.2.1
  · rw [hdemand, ← hd.get, Pair.set_get_self]

/-- R133, R143: a door's record is replaced, posted and reported, and its demand follows. -/
theorem leads_replaceDoor (h : Leads w s₀ s) (ho : s.startup.state = .operating) {d : Fin 2} {x : Door}
    (hx : x.demand = (s.doors.get d).demand) {b : Bool} {code cause : Nat} :
    Leads w s₀ (syncDemand d
      (reportFault .doorJammed b (post .door d.val code cause 0 { s with doors := s.doors.set d x }))) := by
  have hr : Leads w s₀ (reportFault .doorJammed b (post .door d.val code cause 0 s)) :=
    leads_reportFaultWith (leads_post h) fun _ => .inr rfl
  have hdoors : (reportFault .doorJammed b (post .door d.val code cause 0 s)).doors = s.doors := by simp
  have hreported : reportFault .doorJammed b (post .door d.val code cause 0 { s with doors := s.doors.set d x })
      = { reportFault .doorJammed b (post .door d.val code cause 0 s) with
          doors := (reportFault .doorJammed b (post .door d.val code cause 0 s)).doors.set d x } := by
    rw [hdoors]
    exact (reportFault_plant _ _ (post .door d.val code cause 0 s) s.sequencer _).trans (by simp)
  rw [hreported]
  exact leads_syncDemand hr (by simpa using ho) (by rw [hdoors, hx])

/-- R133, R138, R144: entry to a door state. -/
theorem leads_setDoor (h : Leads w s₀ s) (ho : s.startup.state = .operating) {d : Fin 2} {st : DoorState}
    {cause : Nat} : Leads w s₀ (setDoor d st cause s) := by
  unfold setDoor
  dsimp only
  exact leads_replaceDoor h ho (by rfl)

/-- R139: the closing of a door. -/
theorem leads_closeDoor (h : Leads w s₀ s) (ho : s.startup.state = .operating) {d : Fin 2} :
    Leads w s₀ (closeDoor d s) :=
  leads_ite (leads_setDoor h ho) (leads_setDoor (leads_setDoor h ho) (by simpa using ho))

/-- R138: the release of a door. -/
theorem leads_releaseDoor (h : Leads w s₀ s) (ho : s.startup.state = .operating) {d : Fin 2} {cause : Nat} :
    Leads w s₀ (releaseDoor d cause s) :=
  leads_ite (leads_closeDoor (leads_setDoor h ho) (by simpa using ho)) (leads_setDoor h ho)

/-- R136: the clearing of a door. -/
theorem leads_clearDoor (h : Leads w s₀ s) (ho : s.startup.state = .operating) {d : Fin 2} :
    Leads w s₀ (clearDoor d s) := by
  have hc : Leads w s₀ (setDoor d .clearing 1 s) := leads_setDoor h ho
  have hoc : (setDoor d .clearing 1 s).startup.state = .operating := by simpa using ho
  exact leads_ite (leads_releaseDoor hc hoc) (leads_ite (leads_releaseDoor hc hoc) hc)

/-- R134, R136, R139: a notice of a zone's view at a door. -/
theorem leads_doorNotice (h : Leads w s₀ s) (ho : s.startup.state = .operating) {z : Nat} {view : Level} {d : Fin 2} :
    Leads w s₀ (doorNotice z view d s) := by
  unfold doorNotice
  dsimp only
  (repeat' split)
  · exact leads_clearDoor (leads_door h ho (by rfl) (by rfl)) ho
  · exact leads_releaseDoor (leads_door h ho (by rfl) (by rfl)) ho
  · exact leads_releaseDoor (leads_door h ho (by rfl) (by rfl)) ho
  · exact leads_door h ho (by rfl) (by rfl)
  · exact leads_setDoor (leads_door h ho (by rfl) (by rfl)) ho
  · exact leads_door h ho (by rfl) (by rfl)
  · exact h

/-- R137 to R142: a closed switch. -/
theorem leads_closedSwitch (h : Leads w s₀ s) (ho : s.startup.state = .operating) {d : Fin 2} {active : Bool} :
    Leads w s₀ (closedSwitch d active s) := by
  unfold closedSwitch
  split
  case h_1 => exact leads_setDoor h ho
  case h_2 | h_3 | h_4 => exact leads_closeDoor h ho
  case h_5 => exact leads_releaseDoor h ho
  case h_6 => exact leads_setDoor h ho
  all_goals exact h

/-- R137: a conveyor-clear input. -/
theorem leads_conveyorClear (h : Leads w s₀ s) (ho : s.startup.state = .operating) {d : Fin 2} {active : Bool} :
    Leads w s₀ (conveyorClear d active s) :=
  leads_ite (leads_releaseDoor h ho) h

/-- R137: the clear deadline. -/
theorem leads_expireClear (h : Leads w s₀ s) (ho : s.startup.state = .operating) {d : Fin 2} :
    Leads w s₀ (expireClear d s) :=
  leads_releaseDoor (leads_post h) (by simpa using ho)

/-- R135: the start state of a door. -/
theorem leads_startDoor (h : Leads w s₀ s) (ho : s.startup.state = .operating) {d : Fin 2} :
    Leads w s₀ (startDoor d s) := by
  unfold startDoor
  dsimp only
  exact leads_ite h (leads_setDoor (leads_door h ho (by rfl) (by rfl)) ho)

/-! ## Sirens (section 8) -/

/-- R148: a siren's record is replaced by one whose output stands with its pattern and phase. -/
theorem leads_siren (h : Leads w s₀ s) (ho : s.startup.state = .operating) {i : Fin 2} {x : Siren}
    (hx : (s.sirens.sirens.get i).outputLaw → x.outputLaw) :
    Leads w s₀ { s with sirens := { s.sirens with sirens := s.sirens.sirens.set i x } } := by
  refine h.tail (.sirens s _ ho fun ⟨hfst, hsnd⟩ => ?_)
  fin_cases i
  · exact ⟨hx hfst, hsnd⟩
  · exact ⟨hfst, hx hsnd⟩

/-- R148: a cycle that begins. -/
theorem outputLaw_beginCycle (now : Instant) (p : Pattern) (x : Siren) : (beginCycle now p x).outputLaw := by
  cases p <;> simp [Siren.outputLaw, beginCycle]

/-- R148, R149, R154: the sounding pattern changes. -/
theorem leads_sound (h : Leads w s₀ s) (ho : s.startup.state = .operating) {i : Fin 2} {p : Pattern} :
    Leads w s₀ (sound i p s) :=
  leads_post (leads_siren h ho (by exact fun _ => outputLaw_beginCycle _ _ _))

/-- R149: a change of grant. -/
theorem leads_takeGrant (h : Leads w s₀ s) (ho : s.startup.state = .operating) {i : Fin 2} {old new : Pattern} :
    Leads w s₀ (takeGrant i old new s) := by
  unfold takeGrant
  cases new with
  | quiet => exact leads_sound (leads_siren h ho (by exact id)) ho
  | pulse => exact leads_ite (leads_siren h ho (by exact id)) (leads_sound h ho)
  | steady => exact leads_ite (leads_siren h ho (by exact id)) (leads_sound h ho)

/-- R151, R152: a silence ends. -/
theorem leads_endSilence (h : Leads w s₀ s) (ho : s.startup.state = .operating) {i : Fin 2} {cause : Nat} :
    Leads w s₀ (endSilence i cause s) := by
  unfold endSilence
  exact leads_post (leads_siren h ho (by exact id))

/-- R151: a silenced siren judges its silence. -/
theorem leads_judgeSilence (h : Leads w s₀ s) (ho : s.startup.state = .operating) {i : Fin 2} {level : Level} :
    Leads w s₀ (judgeSilence i level s) := by
  unfold judgeSilence
  exact leads_ite (leads_sound (leads_endSilence h ho) (by simpa using ho))
    (leads_ite (leads_endSilence h ho) (leads_ite (leads_siren h ho (by exact id)) h))

/-- R147: a notice of a zone's view at a siren. -/
theorem leads_sirenNotice (h : Leads w s₀ s) (ho : s.startup.state = .operating) {z : Nat} {view : Level} {i : Fin 2} :
    Leads w s₀ (sirenNotice z view i s) := by
  unfold sirenNotice
  dsimp only
  (repeat' split)
  · exact leads_judgeSilence (leads_siren h ho (by exact id)) ho
  · exact leads_siren h ho (by exact id)
  · exact leads_takeGrant (leads_siren h ho (by exact id)) ho
  · exact h

/-- R150: a siren is silenced. -/
theorem leads_silence (h : Leads w s₀ s) (ho : s.startup.state = .operating) {i : Fin 2} :
    Leads w s₀ (silence i s) := by
  unfold silence
  dsimp only
  exact leads_ite h (leads_post
    (leads_siren h ho (by exact fun _ => outputLaw_beginCycle s.time .quiet (s.sirens.sirens.get i))))

end

end Sys2Proof.Machine
end

section
/-! SUPPORT. The zone unit, the predictor, the valves, the channels and the flow unit lead to what they give by changes
that keep every law. -/
namespace Sys2Proof.Machine

section
variable {w : Scope} {pages : Bool} {s₀ s : State}

/-! ## The zone unit (section 5) -/

/-- A change of the zone unit that leaves the zone table, and in a cascade the reports. -/
theorem leads_zonesWith (h : Leads w s₀ s) {u : ZoneUnit} (hu : u.zones = s.zones.zones)
    (hw : w = .cascade → s.zones.KeepsReports u) : Leads w s₀ { s with zones := u } :=
  h.tail (.zones s u (fun hs => by simpa only [LatchLaw, hu] using hs) hw)

/-- A change of the zone unit by an arrival that leaves the zone table. -/
theorem leads_zones (h : Leads (.arrival pages) s₀ s) {u : ZoneUnit} (hu : u.zones = s.zones.zones) :
    Leads (.arrival pages) s₀ { s with zones := u } :=
  leads_zonesWith h hu nofun

/-- R102: a zone's record is replaced by ones whose view is at least their latched level. -/
theorem leads_updateZone (h : Leads w s₀ s) {z : Nat} {f : Zone → Zone}
    (hf : ∀ r, levelCode r.latched ≤ levelCode r.view → levelCode (f r).latched ≤ levelCode (f r).view) :
    Leads w s₀ (updateZone z f s) := by
  refine h.tail (.zones s _ (fun hs r hr => ?_) fun _ => ⟨rfl, rfl, rfl⟩)
  obtain ⟨r', hr', rfl⟩ := List.mem_map.1 hr
  split
  · exact hf r' (hs r' hr')
  · exact hs r' hr'

/-- R101: the confirm path leaves a record's levels. -/
theorem advanceConfirm_levels (s : State) (n : Nat) (r : Zone) :
    (advanceConfirm s n r).latched = r.latched ∧ (advanceConfirm s n r).view = r.view := by
  unfold advanceConfirm
  (repeat' split) <;> exact ⟨rfl, rfl⟩

/-- Section 6.5: the higher of two levels is no lower than either. -/
theorem le_levelMax (a b : Level) :
    levelCode a ≤ levelCode (Level.max a b) ∧ levelCode b ≤ levelCode (Level.max a b) := by
  cases a <;> cases b <;> decide

/-- R102: a recounted record has a view no lower than its latched level. -/
theorem recountRecord_latched_le (s : State) (r : Zone) :
    levelCode (recountRecord s r).latched ≤ levelCode (recountRecord s r).view := by
  unfold recountRecord
  simp only [advanceConfirm_levels]
  split
  · exact le_refl _
  · exact (le_levelMax _ _).2

/-- R103: a changed view is passed to its readers. -/
theorem leads_notifyView (h : Leads w s₀ s) (ho : s.startup.state = .operating) {z : Nat} {old new : Level} :
    Leads w s₀ (notifyView z old new s) := by
  have hreaders (t : State) (ht : Leads w s₀ t) (hot : t.startup.state = .operating) :
      Leads w s₀ (sirenNotice z new 1 (sirenNotice z new 0 (doorNotice z new 1 (doorNotice z new 0 t)))) := by
    have hdoors := leads_doorNotice (z := z) (view := new) (d := 1)
      (leads_doorNotice (z := z) (view := new) (d := 0) ht hot) (by simpa using hot)
    exact leads_sirenNotice (leads_sirenNotice hdoors (by simpa using hot)) (by simpa using hot)
  have hflush : Leads w s₀ { s with log := (requestFlush s.log).1 } := leads_logPosts h (logPosts_requestFlush _)
  unfold notifyView
  dsimp only
  apply hreaders
  · exact leads_ite (leads_sequencerNotice (leads_ite hflush h) (by split <;> exact ho)) (leads_ite hflush h)
  · split <;> split <;> simpa using ho

/-- R102, R103: a recount of a zone, with a report of HALTED that leads on. -/
theorem leads_recountZoneWith {onHalt : State → State}
    (hhalt : ∀ t, Leads w s₀ t → t.startup.state = .operating → Leads w s₀ (onHalt t))
    (h : Leads w s₀ s) (ho : s.startup.state = .operating) {z : Nat} : Leads w s₀ (recountZoneWith onHalt z s) := by
  unfold recountZoneWith
  split
  case h_1 => exact h
  case h_2 old _ =>
    have hrecord : Leads w s₀ (updateZone z (fun _ => recountRecord s old) s) :=
      leads_updateZone h fun _ _ => recountRecord_latched_le s old
    have hview := leads_notifyView (z := z) (old := old.view) (new := (recountRecord s old).view)
      (leads_post (kind := .zoneLevel) (subject := z) (value1 := levelCode (recountRecord s old).view)
        (value2 := levelCode old.view)
        (flags := flagLatchChanged (decide ((recountRecord s old).latched ≠ old.latched))) hrecord)
      (by simpa using ho)
    exact leads_ite hrecord (leads_ite (hhalt _ hview (by simpa using ho)) hview)

/-- R94 to R96: a recount of the own vote, with a report of HALTED that leads on. -/
theorem leads_recountOwnWith {onHalt : State → State}
    (hhalt : ∀ t, Leads w s₀ t → t.startup.state = .operating → Leads w s₀ (onHalt t))
    (h : Leads w s₀ s) (ho : s.startup.state = .operating) : Leads w s₀ (recountOwnWith onHalt s) := by
  have hvotes : Leads w s₀ { s with zones := recountVotes s } := leads_zonesWith h rfl fun _ => ⟨rfl, rfl, rfl⟩
  exact leads_ite hvotes
    (leads_recountZoneWith hhalt (leads_post (leads_handVote hvotes ho)) (by simpa using ho))

/-- R92, R118: the report of HALTED. -/
theorem leads_reportHalted (h : Leads w s₀ s) (ho : s.startup.state = .operating) : Leads w s₀ (reportHalted s) :=
  leads_recountOwnWith (fun _ ht _ => ht) (leads_zonesWith h (by rfl) (by exact fun _ => ⟨rfl, rfl, rfl⟩)) ho

/-- R94 to R96: a recount of the own vote. -/
theorem leads_recountOwn (h : Leads w s₀ s) (ho : s.startup.state = .operating) : Leads w s₀ (recountOwn s) :=
  leads_recountOwnWith (fun _ ht hot => leads_reportHalted ht hot) h ho

/-- R102: a recount of a zone. -/
theorem leads_recountZone (h : Leads w s₀ s) (ho : s.startup.state = .operating) {z : Nat} :
    Leads w s₀ (recountZone z s) :=
  leads_recountZoneWith (fun _ ht hot => leads_reportHalted ht hot) h ho

/-- R118: an action of the sequencer, with its report of HALTED. -/
theorem leads_reportingHalt {f : State → State} (h : Leads w s₀ (f s)) (ho : (f s).startup.state = .operating) :
    Leads w s₀ (reportingHalt f s) :=
  leads_ite (leads_reportHalted h ho) h

/-- R99: a recount of every tracked zone. -/
theorem leads_recountAllZones (h : Leads w s₀ s) (ho : s.startup.state = .operating) :
    Leads w s₀ (recountAllZones s) :=
  (List.foldlRecOn (motive := fun t => Leads w s₀ t ∧ t.startup.state = .operating) _ _ ⟨h, ho⟩
    fun _ ⟨ht, hot⟩ _ _ => ⟨leads_recountZone ht hot, by simpa using hot⟩).1

/-- OPERATING, as the shared operations test it. -/
theorem operating_iff : s.operating = true ↔ s.startup.state = .operating := by
  simp [State.operating]

/-- R93: a report of conditions, which acts in OPERATING alone. -/
@[simp] theorem leads_reportConditions (h : Leads (.arrival pages) s₀ s) {c : Conditions} :
    Leads (.arrival pages) s₀ (reportConditions c s) := by
  unfold reportConditions
  split
  case isTrue hc =>
    exact leads_recountOwn (leads_zones h (by rfl)) (operating_iff.1 (Bool.and_eq_true_iff.1 hc).1)
  case isFalse => exact h

/-- R90: a detection at the zone unit. -/
theorem leads_ringDetection (h : Leads (.arrival pages) s₀ s) (ho : s.startup.state = .operating) :
    Leads (.arrival pages) s₀ (ringDetection s) := by
  unfold ringDetection setRingDeadline
  exact leads_recountOwn (leads_zones (leads_zones h (by rfl)) (by rfl)) ho

/-- R91: the ring deadline. -/
theorem leads_expireRing (h : Leads (.arrival pages) s₀ s) (ho : s.startup.state = .operating) :
    Leads (.arrival pages) s₀ (expireRing s) := by
  unfold expireRing setRingDeadline dropOldEntries
  exact leads_recountOwn (leads_zones (leads_zones h (by rfl)) (by rfl)) ho

/-- R101: a fire-pending deadline. -/
theorem leads_expireFirePending (h : Leads (.arrival pages) s₀ s) (ho : s.startup.state = .operating) {z : Nat} :
    Leads (.arrival pages) s₀ (expireFirePending z s) := by
  unfold expireFirePending
  exact leads_recountZone (leads_updateZone h (by exact fun _ hr => hr)) ho

/-- R109: the zone unit takes up its work. -/
theorem leads_startZoneUnit (h : Leads (.arrival pages) s₀ s) (ho : s.startup.state = .operating) :
    Leads (.arrival pages) s₀ (startZoneUnit s) := by
  unfold startZoneUnit
  exact leads_recountAllZones (leads_recountOwn (leads_zones h (by rfl)) ho) (by simpa using ho)

/-! ## HALTED stands (R119, R129)

In HALTED neither a notice of a view nor a demand of a door moves the sequencer. -/

/-- R112, R119: a notice of the home view finds nothing to do in HALTED. -/
theorem sequencerNotice_halted (hs : s.sequencer.state = .halted) (view : Level) : sequencerNotice view s = s := by
  simp [sequencerNotice, hs, SeqState.restarting]

/-- R129: a demand placed or withdrawn in HALTED. -/
@[simp] theorem state_syncDemand_halted (hs : s.sequencer.state = .halted) (d : Fin 2) :
    (syncDemand d s).sequencer.state = .halted := by
  simp [syncDemand, placeDemand, withdrawDemand, hs]
  (repeat' split) <;> simp [hs]

/-- R133: the entry to a door state. -/
@[simp] theorem state_setDoor_halted (hs : s.sequencer.state = .halted) (d : Fin 2) (st : DoorState) (cause : Nat) :
    (setDoor d st cause s).sequencer.state = .halted := by
  simp [setDoor, hs]

/-- R139: the closing of a door. -/
@[simp] theorem state_closeDoor_halted (hs : s.sequencer.state = .halted) (d : Fin 2) :
    (closeDoor d s).sequencer.state = .halted := by
  unfold closeDoor
  dsimp only
  split <;> simp [hs]

/-- R138: the release of a door. -/
@[simp] theorem state_releaseDoor_halted (hs : s.sequencer.state = .halted) (d : Fin 2) (cause : Nat) :
    (releaseDoor d cause s).sequencer.state = .halted := by
  unfold releaseDoor
  dsimp only
  split <;> simp [hs]

/-- R136: the clearing of a door. -/
@[simp] theorem state_clearDoor_halted (hs : s.sequencer.state = .halted) (d : Fin 2) :
    (clearDoor d s).sequencer.state = .halted := by
  unfold clearDoor
  dsimp only
  (repeat' split) <;> simp [hs]

/-- R134: a notice of a view at a door. -/
@[simp] theorem state_doorNotice_halted (hs : s.sequencer.state = .halted) (z : Nat) (view : Level) (d : Fin 2) :
    (doorNotice z view d s).sequencer.state = .halted := by
  unfold doorNotice
  dsimp only
  (repeat' split) <;> simp [hs]

/-- R103: a changed view is passed to its readers. -/
@[simp] theorem state_notifyView_halted (hs : s.sequencer.state = .halted) (z : Nat) (old new : Level) :
    (notifyView z old new s).sequencer.state = .halted := by
  unfold notifyView
  dsimp only
  simp only [sirenNotice_frame]
  refine state_doorNotice_halted (state_doorNotice_halted ?_ ..) ..
  (repeat' split) <;> simp [hs, sequencerNotice_halted]

/-- R102: a recount of a zone. -/
theorem state_recountZoneWith_halted {onHalt : State → State}
    (hhalt : ∀ t : State, t.sequencer.state = .halted → (onHalt t).sequencer.state = .halted)
    (hs : s.sequencer.state = .halted) (z : Nat) : (recountZoneWith onHalt z s).sequencer.state = .halted := by
  unfold recountZoneWith
  dsimp only
  (repeat' split) <;> simp [hs, hhalt]

/-- R94: a recount of the own vote. -/
theorem state_recountOwnWith_halted {onHalt : State → State}
    (hhalt : ∀ t : State, t.sequencer.state = .halted → (onHalt t).sequencer.state = .halted)
    (hs : s.sequencer.state = .halted) : (recountOwnWith onHalt s).sequencer.state = .halted := by
  unfold recountOwnWith
  dsimp only
  split
  · exact hs
  · exact state_recountZoneWith_halted hhalt (by simpa using hs) _

/-- R118: the report of HALTED. -/
@[simp] theorem state_reportHalted_halted (hs : s.sequencer.state = .halted) :
    (reportHalted s).sequencer.state = .halted :=
  state_recountOwnWith_halted (fun _ ht => ht) hs

/-- R94: a recount of the own vote. -/
@[simp] theorem state_recountOwn_halted (hs : s.sequencer.state = .halted) :
    (recountOwn s).sequencer.state = .halted :=
  state_recountOwnWith_halted (fun _ ht => state_reportHalted_halted ht) hs

/-! ## Restarts (R104 to R106, R123, R124) -/

/-- R124: a restart sequence begins, from HALTED. -/
theorem leads_beginRestart (h : Leads w s₀ s) (ho : s.startup.state = .operating) {localRestart : Bool} :
    Leads w s₀ (beginRestart localRestart s) := by
  unfold beginRestart
  split
  case isTrue hst =>
    have hflag : Leads w s₀ (setStepFault false s) := leads_setStepFault h ho
    refine leads_enterDamperOpening (leads_postStep
      (leads_recountOwn (leads_zonesWith hflag (by rfl) (by exact fun _ => ⟨rfl, rfl, rfl⟩)) ?_)) ?_ ?_
    · simpa using ho
    · simpa using ho
    · simp only [postStep_frame]
      rw [state_recountOwn_halted (by simpa [state_setStepFault] using hst)]
      decide
  case isFalse => exact h

/-- A stored vote that becomes CLEAR leaves its entry's state and silence deadline. -/
theorem leads_clearStoredVotes (h : Leads (.arrival pages) s₀ s) {z : Nat} :
    Leads (.arrival pages) s₀ (clearStoredVotes z s) := by
  refine h.tail (.peers s _ fun hs p hp => ?_)
  obtain ⟨p', hp', rfl⟩ : ∃ p' ∈ s.peers.toList, clearPeerVote z p' = p := by simpa [mapPeers] using hp
  unfold clearPeerVote
  split
  · exact hs p' hp'
  · exact hs p' hp'

/-- R104: an accepted restart of the home zone. -/
theorem leads_acceptRestart (h : Leads (.arrival pages) s₀ s) (ho : s.startup.state = .operating) {source : Nat} :
    Leads (.arrival pages) s₀ (acceptRestart source s) := by
  unfold acceptRestart
  dsimp only
  refine leads_beginRestart (leads_post (leads_recountZone (leads_ite ?_ (leads_post ?_)) ?_)) ?_
  · exact leads_handVote (leads_zones (leads_clearStoredVotes (leads_zones
      (leads_updateZone h (by exact fun _ _ => Nat.zero_le _)) (by rfl))) (by rfl)) ho
  · exact leads_handVote (leads_zones (leads_clearStoredVotes (leads_zones
      (leads_updateZone h (by exact fun _ _ => Nat.zero_le _)) (by rfl))) (by rfl)) ho
  · split <;> simpa using ho
  · split <;> simpa using ho

/-- R105: a refused restart of the home zone. -/
theorem leads_refuseRestart (h : Leads (.arrival pages) s₀ s) (ho : s.startup.state = .operating) {source : Nat} :
    Leads (.arrival pages) s₀ (refuseRestart source s) :=
  leads_post (leads_handVote h ho)

/-- R106: a restart of another zone. -/
theorem leads_restartOther (h : Leads (.arrival pages) s₀ s) (ho : s.startup.state = .operating) {z source : Nat} :
    Leads (.arrival pages) s₀ (restartOther z source s) :=
  leads_post (leads_recountZone (leads_clearStoredVotes (leads_updateZone h fun _ _ => Nat.zero_le _)) ho)

/-- R104 to R106: a RESTART at the zone unit. -/
@[simp] theorem leads_takeRestart (h : Leads (.arrival pages) s₀ s) {z source : Nat} :
    Leads (.arrival pages) s₀ (takeRestart z source s) := by
  unfold takeRestart
  split
  case isTrue => exact h
  case isFalse hop =>
    have ho : s.startup.state = .operating := by simpa [State.operating] using hop
    exact leads_ite (leads_ite (leads_acceptRestart h ho) (leads_refuseRestart h ho))
      (leads_ite (leads_restartOther h ho) h)

/-- R123: a restart request of the key sequence. -/
theorem leads_requestRestart (h : Leads (.arrival pages) s₀ s) (ho : s.startup.state = .operating) :
    Leads (.arrival pages) s₀ (requestRestart s) := by
  unfold requestRestart
  exact leads_ite (leads_post h) (leads_ite (leads_acceptRestart (leads_handRestart h ho) (by simpa using ho))
    (leads_beginRestart (leads_post h) (by simpa using ho)))

/-! ## Valves and the predictor (sections 2 and 3) -/

/-- A valve's record is replaced by one whose output is OPEN in OPERATING alone, or was so. -/
theorem leads_setValve (h : Leads (.arrival pages) s₀ s) {v : Fin 2} {x : Valve}
    (hx : x.opened = true → s.startup.state = .operating ∨ (s.valves.valves.get v).opened = true) :
    Leads (.arrival pages) s₀ (setValve v x s) := by
  refine h.tail (.valves s _ fun ⟨hstart, hoff⟩ => ⟨hstart, fun hop => ?_⟩)
  obtain ⟨hfst, hsnd, hrest⟩ := hoff hop
  have hno : s.startup.state ≠ .operating := by simpa [State.operating] using hop
  have hclosed : x.opened = false := by
    cases hx' : x.opened with
    | false => rfl
    | true =>
      obtain ho | hwas := hx hx'
      · exact absurd ho hno
      · fin_cases v <;> simp_all [Pair.get]
  fin_cases v
  · exact ⟨hclosed, hsnd, hrest⟩
  · exact ⟨hfst, hclosed, hrest⟩

/-- R59: the valve sequencer's report. -/
@[simp] theorem leads_reportValves (h : Leads (.arrival pages) s₀ s) : Leads (.arrival pages) s₀ (reportValves s) :=
  leads_reportFault (leads_reportFault (leads_reportConditions h))

/-- R48: the beginning of a head window, in operation. -/
theorem leads_beginHead (h : Leads (.arrival pages) s₀ s) (ho : s.startup.state = .operating) {v : Fin 2} :
    Leads (.arrival pages) s₀ (beginHead v s) := by
  unfold beginHead
  dsimp only
  split
  · exact h
  · exact leads_ite (leads_setValve h (by exact fun _ => .inl ho))
      (leads_reportValves (leads_post (leads_setValve h (by exact fun _ => .inl ho))))

/-- R45: a window added, in operation. -/
theorem leads_addWindow (h : Leads (.arrival pages) s₀ s) (ho : s.startup.state = .operating) {v : Fin 2} {w : Window} :
    Leads (.arrival pages) s₀ (addWindow v w s) := by
  have ht {l : List Window} : Leads (.arrival pages) s₀ (setValve v { s.valves.valves.get v with windows := l } s) :=
    leads_setValve h fun _ => .inl ho
  exact leads_ite (leads_beginHead ht ho) ht

/-- R49: the end of a head window. -/
@[simp] theorem leads_closeHead (h : Leads (.arrival pages) s₀ s) {v : Fin 2} :
    Leads (.arrival pages) s₀ (closeHead v s) := by
  unfold closeHead
  dsimp only
  split
  · exact h
  · refine leads_reportValves (leads_ite (leads_setValve ?_ (by exact fun hopen => .inr hopen)) ?_)
    all_goals exact leads_post (leads_setValve h (by exact fun hopen => absurd hopen Bool.false_ne_true))

/-- R51: a miss notice, in operation. -/
theorem leads_missNotice (h : Leads (.arrival pages) s₀ s) {v : Fin 2} {origin : Nat} {closeAt : Instant}
    {substituted : Bool} : Leads (.arrival pages) s₀ (missNotice v origin closeAt substituted s) := by
  unfold missNotice
  exact leads_reportValves (leads_setValve (leads_post h) (by exact fun hopen => .inr hopen))

/-- R33: one prediction, in operation. -/
theorem leads_predict (h : Leads (.arrival pages) s₀ s) (ho : s.startup.state = .operating) {station : Nat}
    {first last : Instant}
    {e : WatchEntry} {v : Fin 2} : Leads (.arrival pages) s₀ (predict station first last e v s) := by
  unfold predict
  dsimp only
  exact leads_ite (leads_addWindow h ho) (leads_ite (leads_missNotice h) (leads_addWindow h ho))

/-- R33: the predictions of one entry, in operation. -/
theorem leads_predictEntry (h : Leads (.arrival pages) s₀ s) (ho : s.startup.state = .operating) {station channel : Nat}
    {first last : Instant} {e : WatchEntry} : Leads (.arrival pages) s₀
      (predictEntry station channel first last e s) := by
  have hfirst : Leads (.arrival pages) s₀ (if e.valves.getLsbD 0 then predict station first last e 0 s else s) :=
    leads_ite (leads_predict h ho) h
  exact leads_ite (leads_ite (leads_predict hfirst (by split <;> simpa using ho)) hfirst) h

/-- R32: a detection at the predictor, in operation. -/
theorem leads_takeDetection (h : Leads (.arrival pages) s₀ s) (ho : s.startup.state = .operating)
    {station channel : Nat}
    {first last : Instant} : Leads (.arrival pages) s₀ (takeDetection station channel first last s) :=
  (List.foldlRecOn (motive := fun t => Leads (.arrival pages) s₀ t ∧ t.startup.state = .operating) _ _ ⟨h, ho⟩
    fun _ ⟨ht, hot⟩ _ _ => ⟨leads_predictEntry ht hot, by simpa using hot⟩).1

/-- R40: an origin marked. -/
@[simp] theorem leads_markOrigin (h : Leads (.arrival pages) s₀ s) {station : Nat} {silent : Bool} :
    Leads (.arrival pages) s₀ (markOrigin station silent s) :=
  leads_reportConditions (h.tail (.watch s _))

/-- R52: a miss hold deadline. -/
@[simp] theorem leads_expireMissHold (h : Leads (.arrival pages) s₀ s) {v : Fin 2} :
    Leads (.arrival pages) s₀ (expireMissHold v s) := by
  unfold expireMissHold
  exact leads_reportValves (leads_setValve h (by exact fun hopen => .inr hopen))

/-- R54: a flow-confirm deadline. -/
@[simp] theorem leads_expireFlowConfirm (h : Leads (.arrival pages) s₀ s) {v : Fin 2} :
    Leads (.arrival pages) s₀ (expireFlowConfirm v s) := by
  unfold expireFlowConfirm
  exact leads_ite (leads_reportValves (leads_post (leads_setValve h (by exact fun hopen => .inr hopen))))
    (leads_setValve h (by exact fun hopen => .inr hopen))

/-- R57: a leak deadline. -/
@[simp] theorem leads_expireLeak (h : Leads (.arrival pages) s₀ s) {v : Fin 2} :
    Leads (.arrival pages) s₀ (expireLeak v s) := by
  unfold expireLeak
  exact leads_ite (leads_setValve h (by exact fun hopen => .inr hopen))
    (leads_reportValves (leads_post (leads_setValve h (by exact fun hopen => .inr hopen))))

/-- R53 to R57: a flow switch. -/
@[simp] theorem leads_flowSwitch (h : Leads (.arrival pages) s₀ s) {v : Fin 2} {active : Bool} :
    Leads (.arrival pages) s₀ (flowSwitch v active s) := by
  unfold flowSwitch flowSeen flowGone
  refine leads_ite (leads_ite ?_ ?_) (leads_ite ?_ ?_)
  · exact leads_reportValves (leads_post (leads_setValve h (by exact fun hopen => .inr hopen)))
  · exact leads_setValve h (by exact fun hopen => .inr hopen)
  · exact leads_reportValves (leads_post (leads_setValve h (by exact fun hopen => .inr hopen)))
  · exact leads_setValve h (by exact fun hopen => .inr hopen)

/-- R58: a water sample. -/
@[simp] theorem leads_takeWater (h : Leads (.arrival pages) s₀ s) {p : Nat} :
    Leads (.arrival pages) s₀ (takeWater p s) := by
  have hsample {d : Comparator} :
      Leads (.arrival pages) s₀ { s with valves := { s.valves with comparator := some d, lastWater := some p } } :=
    h.tail (.valves s _ id)
  unfold takeWater
  split
  · exact h
  · exact leads_ite hsample (leads_reportValves (leads_post hsample))

/-! ## Channels and flow (sections 1 and 2.1) -/

/-- R18: the channels' report. -/
@[simp] theorem leads_reportChannels (h : Leads (.arrival pages) s₀ s) : Leads (.arrival pages) s₀ (reportChannels s) :=
  leads_reportFault (leads_reportConditions h)

/-- R11: a detection. -/
@[simp] theorem leads_detection (h : Leads (.arrival pages) s₀ s) {ch : Fin 4} :
    Leads (.arrival pages) s₀ (detection ch s) := by
  unfold detection
  dsimp only
  split
  case isTrue hop =>
    have ho := operating_iff.1 hop
    exact leads_ringDetection (leads_handDetection (leads_takeDetection (leads_post h) (by simpa using ho))
      (by simpa using ho)) (by simpa using ho)
  case isFalse => exact leads_post h

/-- R3 to R19: a sample. -/
@[simp] theorem leads_takeSample (h : Leads (.arrival pages) s₀ s) {ch : Fin 4} {x : Nat} :
    Leads (.arrival pages) s₀ (takeSample ch x s) := by
  unfold takeSample
  dsimp only
  split
  · exact h.tail (.channels s _)
  · exact leads_reportChannels (leads_post (h.tail (.channels s _)))
  · exact leads_detection (h.tail (.channels s _))

/-- R13: the entry to GLOW. -/
@[simp] theorem leads_enterGlow (h : Leads (.arrival pages) s₀ s) {ch : Fin 4} :
    Leads (.arrival pages) s₀ (enterGlow ch s) :=
  leads_reportChannels (leads_post (h.tail (.channels s _)))

/-- R29: a report of the flow status. -/
@[simp] theorem leads_reportFlow (h : Leads (.arrival pages) s₀ s) : Leads (.arrival pages) s₀ (reportFlow s) := by
  unfold reportFlow
  dsimp only
  split
  case isTrue hop =>
    have ho := operating_iff.1 hop
    exact leads_reportingHalt (leads_confirmByFlow (leads_reportFault (leads_reportConditions h)) ho)
      (by simpa using ho)
  case isFalse => exact leads_reportFault (leads_reportConditions h)

/-- R24, R29: a changed flow record. -/
theorem leads_setFlow (h : Leads (.arrival pages) s₀ s) {f : Flow}
    (hf : HistoryLaw s → f.history.length ≤ 8 ∧ ∀ c ∈ f.history, c ≤ 4094) : Leads (.arrival pages) s₀
      (setFlow f s) := by
  have ht : Leads (.arrival pages) s₀ { s with flow := f } := h.tail (.flow s f hf)
  exact leads_ite ht (leads_reportFlow ht)

end

end Sys2Proof.Machine
end

section
/-! SUPPORT. The line interface, the peer table and the reception lead to what they give by changes that keep every
law. -/
namespace Sys2Proof.Machine

/-! ## Frames taken back (R78, R85) -/

/-- R78: frames of good count that are taken back to a queue. -/
theorem GoodQueue.takeBack {f : Option OutFrame} {q : List OutFrame} (hf : ∀ g ∈ f, g.countGood = true)
    (hq : GoodQueue q) (s : State) : GoodQueue (s.takeBack f q) := by
  unfold State.takeBack
  split
  case h_1 => exact hq
  case h_2 g =>
    split
    · exact hq
    · exact hq.returnFrame (hf g rfl)

/-- R78: a RESTART in a queue after a frame has been taken back stood in the queue, or is that frame. -/
theorem restart_mem_takeBack {s : State} {f : Option OutFrame} {z : Nat} {q : List OutFrame}
    (h : .restart z ∈ s.takeBack f q) : .restart z ∈ q ∨ f = some (.restart z) := by
  unfold State.takeBack at h
  split at h
  case h_1 => exact .inl h
  case h_2 g =>
    split at h
    · exact .inl h
    · exact (restart_mem_returnFrame h).imp_right fun hg => by rw [hg]

/-- The bytes read back leave the presence deadline. -/
@[simp] theorem presenceDeadline_readOwn (now : Instant) (rate : Nat) (l : Line) :
    (readOwn now rate l).presenceDeadline = l.presenceDeadline := by
  unfold readOwn
  split <;> rfl

section
variable {pages : Bool} {s₀ s : State}

/-- R69, R75 to R79: a change of the line that takes frames back from the stages, or empties them. -/
theorem LineChange.of_queue {l : Line} (hqueue : SlotLaw s → GoodQueue l.queue)
    (hrestarts : ∀ z, .restart z ∈ l.queue → .restart z ∈ s.line.frames)
    (hfailed : s.startup.state = .failed → l.queue = s.line.queue)
    (hh : l.holding = s.line.holding ∨ l.holding = none) (hs : l.shift = s.line.shift ∨ l.shift = none)
    (hp : l.presenceDeadline = s.line.presenceDeadline) : LineChange s l where
  slots := fun hlaw => by
    obtain ⟨hslots, hcounts⟩ := hqueue hlaw
    obtain ⟨-, -, hholding, hshift⟩ := hlaw
    refine ⟨hslots, hcounts, ?_, ?_⟩
    · obtain hh | hh := hh
      · rwa [hh]
      · simp [hh]
    · obtain hs | hs := hs
      · rwa [hs]
      · simp [hs]
  restarts := fun z hz => by
    obtain hq | hhold | ⟨d, hd, hf⟩ := mem_frames.1 hz
    · exact .inl (hrestarts z hq)
    · obtain hh | hh := hh
      · exact .inl (mem_frames.2 (.inr (.inl (hh ▸ hhold))))
      · simp [hh] at hhold
    · obtain hs | hs := hs
      · exact .inl (mem_frames.2 (.inr (.inr ⟨d, hs ▸ hd, hf⟩)))
      · simp [hs] at hd
  failed := fun ⟨hstart, hpresence, hempty⟩ => by
    refine ⟨hstart, fun hop => hp.trans (hpresence hop), fun hst => ?_⟩
    obtain ⟨hq, hhold⟩ := hempty hst
    refine ⟨(hfailed hst).trans hq, ?_⟩
    obtain hh | hh := hh
    · exact hh.trans hhold
    · exact hh

/-- R75, R77: a change of the line that takes one frame of the stages back. -/
theorem LineChange.takeBack {l : Line} {f : Option OutFrame} (hf : ∀ g ∈ f, g ∈ s.line.frames)
    (hgood : SlotLaw s → ∀ g ∈ f, g.countGood = true) (hq : l.queue = s.takeBack f s.line.queue)
    (hh : l.holding = s.line.holding ∨ l.holding = none) (hs : l.shift = s.line.shift ∨ l.shift = none)
    (hp : l.presenceDeadline = s.line.presenceDeadline) : LineChange s l := by
  refine .of_queue (fun hlaw => ?_) (fun z hz => ?_) (fun hst => ?_) hh hs hp
  · rw [hq]
    exact GoodQueue.takeBack (hgood hlaw) ⟨hlaw.1, hlaw.2.1⟩ s
  · rw [hq] at hz
    obtain hz | hz := restart_mem_takeBack hz
    · exact mem_frames.2 (.inl hz)
    · exact hf _ hz
  · rw [hq, takeBack_failed hst]

/-- R69, R79: both stages emptied, but for what the change leaves to the line state. -/
theorem LineChange.returnStages (s : State) (st : LineState) :
    LineChange s { returnStages s with state := st } := by
  have hshift : SlotLaw s → ∀ g ∈ s.line.shift.map DrivenFrame.frame, g.countGood = true := by
    rintro ⟨-, -, -, hshift⟩ g hg
    obtain ⟨d, hd, rfl⟩ := Option.mem_map.1 hg
    exact hshift d hd
  refine .of_queue (fun hlaw => ?_) (fun z hz => ?_) (fun hst => ?_) (.inr rfl) (.inr rfl) ?_
  · exact GoodQueue.takeBack hlaw.2.2.1 (GoodQueue.takeBack (hshift hlaw) ⟨hlaw.1, hlaw.2.1⟩ s) s
  · obtain hz | hz := restart_mem_takeBack hz
    · obtain hz | hz := restart_mem_takeBack hz
      · exact mem_frames.2 (.inl hz)
      · exact mem_frames.2 (.inr (.inr (by simpa using hz)))
    · exact mem_frames.2 (.inr (.inl hz))
  · simp [Machine.returnStages, takeBack_failed hst]
  · simp [Machine.returnStages]

/-! ## Errors and the quiet count (R66, R67, R79 to R82) -/

/-- R81, R82: a report of DEGRADED. -/
@[simp] theorem leads_reportDegraded (h : Leads (.arrival pages) s₀ s) {b : Bool} :
    Leads (.arrival pages) s₀ (reportDegraded b s) := by
  have hreported : Leads (.arrival pages) s₀ (reportFault .degraded b
      (reportConditions { s.zones.conditions with lineDegraded := b } s)) :=
    leads_reportFault (leads_reportConditions h)
  unfold reportDegraded
  dsimp only
  split
  case isTrue hop => exact leads_recountAllZones (leads_zones hreported (by rfl)) (operating_iff.1 hop)
  case isFalse => exact hreported

/-- R67, R81: an error is counted. -/
@[simp] theorem leads_lineError (h : Leads (.arrival pages) s₀ s) : Leads (.arrival pages) s₀ (lineError s) := by
  have hcounted : Leads (.arrival pages) s₀ { s with line := countError s.time s.line } :=
    leads_line h (.of_eq rfl rfl rfl rfl)
  unfold lineError
  exact leads_ite (leads_reportDegraded (leads_post (leads_line h (.of_eq (by rfl) (by rfl) (by rfl) (by rfl)))))
    hcounted

/-- R82: the degraded deadline. -/
@[simp] theorem leads_expireDegraded (h : Leads (.arrival pages) s₀ s) :
    Leads (.arrival pages) s₀ (expireDegraded s) := by
  unfold expireDegraded
  exact leads_ite
    (leads_reportDegraded (leads_post (leads_line h (.of_eq (by rfl) (by rfl) (by rfl) (by rfl)))))
    (leads_line h (.of_eq (by rfl) (by rfl) (by rfl) (by rfl)))

/-- R66: a byte that carries an error. -/
@[simp] theorem leads_takeByteError (h : Leads (.arrival pages) s₀ s) :
    Leads (.arrival pages) s₀ (takeByteError s) := by
  have hended :
      Leads (.arrival pages) s₀ { s with line := endReception s.line } := leads_line h (.of_eq rfl rfl rfl rfl)
  exact leads_ite hended (leads_lineError hended)

/-- R67: a frame that is not valid. -/
@[simp] theorem leads_takeBadFrame (h : Leads (.arrival pages) s₀ s) : Leads (.arrival pages) s₀ (takeBadFrame s) :=
  leads_lineError (leads_line h (.of_eq rfl rfl rfl rfl))

/-- R66: a partial frame broken off where the quiet count has reached 12. -/
@[simp] theorem leads_breakOffAt (h : Leads (.arrival pages) s₀ s) {quiet : Nat} :
    Leads (.arrival pages) s₀ (breakOffAt quiet s) :=
  leads_ite (leads_lineError (leads_line h (.of_eq (by rfl) (by rfl) (by rfl) (by rfl)))) h

/-- R80: STUCK is left. -/
@[simp] theorem leads_leaveStuck (h : Leads (.arrival pages) s₀ s) : Leads (.arrival pages) s₀ (leaveStuck s) := by
  unfold leaveStuck
  exact leads_ite
    (leads_reportFault (leads_post (leads_line h (.of_eq (by rfl) (by rfl) (by rfl) (by rfl)))))
    (leads_line h (.of_eq (by rfl) (by rfl) (by rfl) (by rfl)))

/-- R66, R80: a quiet count that has been reached. -/
@[simp] theorem leads_reachQuiet (h : Leads (.arrival pages) s₀ s) {quiet : Nat} :
    Leads (.arrival pages) s₀ (reachQuiet quiet s) := by
  obtain ⟨heq, -⟩ | ⟨heq, -⟩ := reachQuiet_cases quiet s
  · rw [heq]; exact leads_breakOffAt h
  · rw [heq]; exact leads_leaveStuck (leads_breakOffAt h)

/-- R66, R80: what the running quiet count has brought. -/
@[simp] theorem leads_settled (h : Leads (.arrival pages) s₀ s) : Leads (.arrival pages) s₀ s.settled :=
  leads_ite (leads_reachQuiet h) h

/-! ## Sending and stages (R74 to R80) -/

/-- R74: the gap of the head frame. -/
@[simp] theorem leads_expireGap (h : Leads (.arrival pages) s₀ s) : Leads (.arrival pages) s₀ (expireGap s) := by
  unfold expireGap
  split
  case h_1 => exact h
  case h_2 f rest _ =>
    have hreached :
        Leads (.arrival pages) s₀ (reachQuiet (s.line.countAt (frameGap s.station f)) s) := leads_reachQuiet h
    dsimp only
    split
    case isTrue =>
      have hquiet := leads_line hreached (l := setQuiet
        (max (reachQuiet (s.line.countAt (frameGap s.station f)) s).line.quiet (frameGap s.station f))
        (reachQuiet (s.line.countAt (frameGap s.station f)) s).line) (.of_eq rfl rfl rfl rfl)
      exact leads_line hquiet (LineChange.holdHead _)
    case isFalse => exact hreached

/-- R75, R76: the held frame is driven. -/
@[simp] theorem leads_driveHeld (h : Leads (.arrival pages) s₀ s) : Leads (.arrival pages) s₀ (driveHeld s) := by
  unfold driveHeld
  split
  case h_1 => exact h
  case h_2 f hf =>
    refine leads_line h ⟨fun ⟨hslots, hcounts, hholding, _⟩ => ⟨hslots, hcounts, ?_, ?_⟩, fun z hz => .inl ?_,
      fun ⟨hstart, hpresence, hempty⟩ => ⟨hstart, hpresence, fun hst => ⟨(hempty hst).1, rfl⟩⟩⟩
    · rintro g ⟨⟩
    · rintro d ⟨⟩
      exact hholding f hf
    · obtain hq | hhold | ⟨d, ⟨⟩, hd⟩ := mem_frames.1 hz
      · exact mem_frames.2 (.inl hq)
      · exact absurd hhold (by simp)
      · exact mem_frames.2 (.inr (.inl (hd ▸ hf)))

/-- R65, R75: another station's start bit. -/
@[simp] theorem leads_takeStartBit (h : Leads (.arrival pages) s₀ s) {b : StartBit} :
    Leads (.arrival pages) s₀ (takeStartBit b s) := by
  have hreached : Leads (.arrival pages) s₀ (reachQuiet (s.line.countAt b.quiet) s) := leads_reachQuiet h
  unfold takeStartBit
  refine leads_line hreached (.takeBack (fun g hg => mem_frames.2 (.inr (.inl hg))) (fun hlaw => hlaw.2.2.1)
    (by rfl) (.inr (by rfl)) (.inl (by rfl)) (by rfl))

/-- R77: a collision. -/
@[simp] theorem leads_collide (h : Leads (.arrival pages) s₀ s) {r : Misread} :
    Leads (.arrival pages) s₀ (collide r s) := by
  unfold collide
  split
  case h_1 => exact h
  case h_2 d hd =>
    refine leads_post (leads_line h (.takeBack (f := some d.frame) ?_ ?_ (by rfl) (.inl (by rfl)) (.inr (by rfl))
      (by rfl)))
    · rintro g ⟨⟩
      exact mem_frames.2 (.inr (.inr ⟨d, hd, rfl⟩))
    · rintro ⟨-, -, -, hshift⟩ g ⟨⟩
      exact hshift d hd

/-- R69: entry to LISTEN_ONLY. -/
@[simp] theorem leads_enterListenOnly (h : Leads (.arrival pages) s₀ s) {kind : FrameKind} :
    Leads (.arrival pages) s₀ (enterListenOnly kind s) := by
  have hreturned : Leads (.arrival pages) s₀ { s with line := { returnStages s with state := .listenOnly } } :=
    leads_line h (.returnStages s .listenOnly)
  unfold enterListenOnly
  exact leads_ite h (leads_ite (leads_reportFault (leads_reportFault (leads_post hreturned)))
    (leads_reportFault (leads_post hreturned)))

/-- R79: the stuck watch. -/
@[simp] theorem leads_expireStuckWatch (h : Leads (.arrival pages) s₀ s) :
    Leads (.arrival pages) s₀ (expireStuckWatch s) := by
  have hwatch : Leads (.arrival pages) s₀ { s with line := { s.line with stuckWatch := none } } :=
    leads_line h (.of_eq rfl rfl rfl rfl)
  exact leads_ite (leads_reportFault (leads_post (leads_line hwatch (.returnStages _ .stuck)))) hwatch

/-- R79, R80: the end of STUCK. -/
@[simp] theorem leads_exitStuck (h : Leads (.arrival pages) s₀ s) : Leads (.arrival pages) s₀ (exitStuck s) := by
  have hleft : Leads (.arrival pages) s₀ (leaveStuck (breakOffAt 142 s)) := leads_leaveStuck (leads_breakOffAt h)
  exact leads_ite (leads_judgeGap hleft) hleft

/-- R73: a presence deadline that runs has expired. -/
theorem leads_expirePresence (h : Leads (.arrival pages) s₀ s) {d : Instant} (hd : s.line.presenceDeadline = some d) :
    Leads (.arrival pages) s₀ (expirePresence d s) := by
  refine leads_placePresence (leads_line h ⟨id, fun z hz => .inl hz, fun ⟨hstart, hpresence, hempty⟩ => ?_⟩) ?_
  · exact ⟨hstart, fun hop => by simp [hpresence hop] at hd, hempty⟩
  · rintro ⟨-, hpresence, -⟩ hfailed
    have hnotop : State.operating s = false := by simp [State.operating, show s.startup.state = .failed from hfailed]
    exact absurd (hpresence hnotop) (by simp)

/-! ## Valid frames (R68, R69, R76, R179) -/

/-- R179: a valid frame reported to the line-echo test. -/
@[simp] theorem leads_reportHeard (h : Leads (.arrival pages) s₀ s) : Leads (.arrival pages) s₀ (reportHeard s) :=
  leads_ite (h.tail (.startup s _ rfl rfl .inl)) h

/-- R179: a line-echo test that stands ends in a pass. -/
theorem leads_passEcho (h : Leads (.arrival pages) s₀ s) (hecho : s.startup.echoDeadline.isSome = true) :
    Leads (.arrival pages) s₀ (passEcho s) := by
  refine h.tail (.scan s _ (fun ⟨hstage, htest⟩ => hstage.1 ?_) rfl rfl rfl)
  simp [htest hecho]

/-- R68: a peer's valid frame. -/
@[simp] theorem leads_passOn (h : Leads (.arrival pages) s₀ s) : Leads (.arrival pages) s₀ (passOn s) :=
  leads_reportHeard (leads_line h (.of_eq rfl rfl rfl rfl))

/-- R69: a duplicate. -/
@[simp] theorem leads_takeDuplicate (h : Leads (.arrival pages) s₀ s) {kind : FrameKind} :
    Leads (.arrival pages) s₀ (takeDuplicate kind s) :=
  leads_enterListenOnly (leads_reportHeard (leads_line h (.of_eq (by rfl) (by rfl) (by rfl) (by rfl))))

/-- R76: the own frame read back whole. -/
@[simp] theorem leads_takeEcho (h : Leads (.arrival pages) s₀ s) : Leads (.arrival pages) s₀ (takeEcho s) := by
  unfold takeEcho
  split
  case h_1 =>
    split
    · exact leads_reportHeard (leads_line h (.of_eq rfl rfl rfl rfl))
    all_goals exact h
  case h_2 =>
    have hsent : Leads (.arrival pages) s₀ { s with line :=
        { endValidFrame s.line with shift := none, sentTally := min (s.line.sentTally + 1) 65535 } } :=
      leads_line h (.of_queue (fun hlaw => ⟨hlaw.1, hlaw.2.1⟩) (fun z hz => mem_frames.2 (.inl hz)) (fun _ => rfl)
        (.inl rfl) (.inr rfl) rfl)
    dsimp only
    split
    case isTrue hecho => exact leads_passEcho hsent hecho
    case isFalse => exact hsent

/-- R67 to R69: a frame with a source taken whole. -/
theorem leads_takeFrame (h : Leads (.arrival pages) s₀ s) {kind : FrameKind} {source : Byte} {use : State → State}
    (huse : ∀ t, Leads (.arrival pages) s₀ t → Leads (.arrival pages) s₀ (use t)) : Leads (.arrival pages) s₀
      (takeFrame kind source use s) :=
  leads_ite h (leads_ite (leads_takeBadFrame h) (leads_ite (leads_takeDuplicate h) (huse _ (leads_passOn h))))

/-! ## Peers (section 5.1) -/

/-- R86, R88: a presence entry is replaced by one with a silence deadline exactly where it is LIVE. -/
theorem leads_setPeer (h : Leads (.arrival pages) s₀ s) {i : Fin 32} {p : Peer}
    (hp : p.silence.isSome = true ↔ p.state = .live) :
    Leads (.arrival pages) s₀ { s with peers := s.peers.set i p } := by
  refine h.tail (.peers s _ fun hs q hq => ?_)
  obtain ⟨j, hj, rfl⟩ := List.getElem_of_mem hq
  simp only [Vector.getElem_toList, Vector.getElem_set]
  split
  · exact hp
  · exact hs _ (by simp)

/-- R89: a changed entry at the zone unit. -/
@[simp] theorem leads_reportPeer {w : Scope} (h : Leads w s₀ s) {old new : Peer} :
    Leads w s₀ (reportPeer old new s) := by
  have hhome {t : State} (ht : Leads w s₀ t) (ho : t.startup.state = .operating) (z : Option Nat) :
      Leads w s₀ (recountHome z t) := by
    cases z with
    | none => exact ht
    | some n => exact leads_recountZone ht ho
  unfold reportPeer
  split
  case isTrue hc =>
    have ho : s.startup.state = .operating := operating_iff.1 (Bool.and_eq_true _ _ ▸ hc).1
    exact leads_ite (hhome h ho _) (hhome (hhome h ho _) (by simpa using ho) _)
  case isFalse => exact h

/-- R86: a frame at its source's entry. -/
@[simp] theorem leads_hearPeer (h : Leads (.arrival pages) s₀ s) {i : Fin 32} {change : Peer → Peer} :
    Leads (.arrival pages) s₀ (hearPeer i change s) := by
  have hset :
      Leads (.arrival pages) s₀ { s with peers := (s.peers.set i
        (Peer.hear s.time s.cfg.presencePeriod (change s.peers[i]))) } :=
    leads_setPeer h (by simp [Peer.hear])
  unfold hearPeer
  exact leads_reportPeer (leads_ite (leads_markOrigin (leads_ite hset (leads_post hset)))
    (leads_ite hset (leads_post hset)))

/-- R88: an entry that falls silent. -/
@[simp] theorem leads_silencePeer (h : Leads (.arrival pages) s₀ s) {i : Fin 32} :
    Leads (.arrival pages) s₀ (silencePeer i s) :=
  leads_reportPeer (leads_markOrigin (leads_post (leads_setPeer h (by simp))))

/-- R32: a peer's detection. -/
@[simp] theorem leads_takePeerDetection (h : Leads (.arrival pages) s₀ s) {source channel count : Byte}
    {age span : Half}
    {start : Instant} : Leads (.arrival pages) s₀ (takePeerDetection source channel count age span start s) := by
  unfold takePeerDetection
  split
  case isTrue hop =>
    have ho := operating_iff.1 hop
    exact leads_takeDetection (leads_ite (leads_post h) h) (by split <;> simpa using ho)
  case isFalse => exact h

/-! ## Frames taken whole, and bytes (R65 to R69) -/

/-- R32, R86: a DETECT taken whole. -/
@[simp] theorem leads_takeDetect (h : Leads (.arrival pages) s₀ s) {source channel count : Byte} {age span : Half} :
    Leads (.arrival pages) s₀ (takeDetect source channel count age span s) :=
  leads_takeFrame h fun _ ht => leads_takePeerDetection (leads_hearPeer ht)

/-- R86, R87: a VOTE taken whole. -/
@[simp] theorem leads_takeVote (h : Leads (.arrival pages) s₀ s) {source zone level reason : Byte} :
    Leads (.arrival pages) s₀ (takeVote source zone level reason s) :=
  leads_takeFrame h fun _ ht => leads_hearPeer ht

/-- R86, R87: a PRESENCE taken whole. -/
@[simp] theorem leads_takePresence (h : Leads (.arrival pages) s₀ s)
    {source homeZone level reason extraction status : Byte}
    {velocity : Half} :
    Leads (.arrival pages) s₀ (takePresence source homeZone level reason extraction velocity status s) :=
  leads_takeFrame h fun _ ht => leads_hearPeer ht

/-- R104: a RESTART taken whole. -/
@[simp] theorem leads_takeRestartFrame (h : Leads (.arrival pages) s₀ s) {source : Byte} {zone : Half} :
    Leads (.arrival pages) s₀ (takeRestartFrame source zone s) :=
  leads_takeFrame h fun _ ht => leads_takeRestart (leads_hearPeer ht)

/-- R67 to R69: a frame of a kind taken whole. -/
@[simp] theorem leads_takeWhole (h : Leads (.arrival pages) s₀ s) {kind : FrameKind} {bytes : List Byte} :
    Leads (.arrival pages) s₀ (takeWhole kind bytes s) := by
  unfold takeWhole
  dsimp only
  split
  case isTrue =>
    cases kind with
    | detect => exact leads_takeDetect h
    | vote => exact leads_takeVote h
    | restart => exact leads_takeRestartFrame h
    | presence => exact leads_takePresence h
  case isFalse => exact leads_takeBadFrame h

/-- R65: a byte that has ended, but for what the change leaves to the receiver. -/
theorem leads_byteOver (h : Leads (.arrival pages) s₀ s) {rests : Bool} :
    Leads (.arrival pages) s₀ { s with line := byteOver rests s.line } :=
  leads_line h (.of_eq rfl rfl rfl rfl)

/-- R66: a byte that ends in a partial frame. -/
theorem leads_endFrameByte (h : Leads (.arrival pages) s₀ s) {whole : FrameKind → List Byte → State → State}
    (hwhole : ∀ k bytes, Leads (.arrival pages) s₀ (whole k bytes s)) {start : Instant} {bytes : List Byte}
    {stop : StopBit} :
    Leads (.arrival pages) s₀ (endFrameByte whole start bytes stop s) := by
  obtain heq | heq | ⟨k, heq⟩ := endFrameByte_cases whole start bytes stop s
  · rw [heq]; exact leads_line h (.of_eq (by rfl) (by rfl) (by rfl) (by rfl))
  · rw [heq]; exact leads_takeByteError h
  · rw [heq]; exact hwhole k _

/-- R65, R66: another station's byte has ended. -/
@[simp] theorem leads_endOtherByte (h : Leads (.arrival pages) s₀ s) {data : Byte} {stop : StopBit} :
    Leads (.arrival pages) s₀ (endOtherByte data stop s) := by
  unfold endOtherByte
  split
  · exact leads_byteOver h
  · exact leads_endFrameByte h fun _ _ => leads_takeWhole h

/-- R66, R68: the last byte that the node drives of a frame has ended. -/
@[simp] theorem leads_endOwnByte (h : Leads (.arrival pages) s₀ s) {data : Byte} :
    Leads (.arrival pages) s₀ (endOwnByte data s) := by
  unfold endOwnByte
  split
  · exact leads_byteOver h
  · exact leads_endFrameByte h fun _ _ => leads_takeEcho h

/-- R181: the present byte of a frame that is driven no further has ended. -/
@[simp] theorem leads_endCutFrame (h : Leads (.arrival pages) s₀ s) : Leads (.arrival pages) s₀ (endCutFrame s) := by
  unfold endCutFrame
  split
  case h_1 => exact leads_byteOver h
  case h_2 d _ =>
    have hread : Leads (.arrival pages) s₀ { s with line := readOwn s.time s.rate s.line } :=
      leads_line h (.of_eq (by simp) (by simp) (by simp) (by simp))
    exact leads_line (leads_endOwnByte hread)
      (.of_queue (fun hlaw => ⟨hlaw.1, hlaw.2.1⟩) (fun z hz => mem_frames.2 (.inl hz)) (fun _ => rfl)
        (.inl rfl) (.inr rfl) rfl)

/-- R65, R66: the byte on the line has ended. -/
@[simp] theorem leads_endByte (h : Leads (.arrival pages) s₀ s) : Leads (.arrival pages) s₀ (endByte s) := by
  unfold endByte
  split
  · exact leads_endOtherByte h
  · exact leads_ite (leads_endCutFrame h) h
  · exact leads_endOwnByte h
  all_goals exact h

/-- An arrival after the end of the byte on the line. -/
theorem leads_afterByte (h : Leads (.arrival pages) s₀ s) {f : State → State}
    (hf : ∀ t, Leads (.arrival pages) s₀ t → Leads (.arrival pages) s₀ (f t)) :
    Leads (.arrival pages) s₀ (afterByte f s) :=
  leads_ite (leads_endByte h) (hf _ (leads_endByte h))

end

end Sys2Proof.Machine
end

section
/-! SUPPORT. The arrivals of the field, the key sequence, the contacts and the service port lead to what they give by
changes that keep every law, or end in a reset. -/
namespace Sys2Proof.Machine

section
variable {pages : Bool} {s₀ s : State}

/-! ## Deadlines -/

/-- A deadline that is due runs. -/
theorem isSome_of_due {now : Instant} {d : Option Instant} (h : due now d = true) : d.isSome = true := by
  cases d with
  | none => simp [due] at h
  | some d => rfl

/-- What an expiry that acts where it is due leads to. -/
theorem leads_guarded (h : Leads (.arrival pages) s₀ s) {c : Bool} {t : State}
    (ht : c = true → Leads (.arrival pages) s₀ t) : Leads (.arrival pages) s₀ (if c then t else s) := by
  split
  case isTrue hc => exact ht hc
  case isFalse => exact h

/-! ## The flow unit (R24, R26) -/

/-- R24: a count that joins the history. -/
theorem joinHistory_bounds {c : Nat} {l : List Nat} (hc : c ≤ 4094) (hlen : l.length ≤ 8) (hl : ∀ x ∈ l, x ≤ 4094) :
    (joinHistory c l).length ≤ 8 ∧ ∀ x ∈ joinHistory c l, x ≤ 4094 := by
  unfold joinHistory
  split
  · refine ⟨by simp only [List.length_append, List.length_singleton]; omega, fun x hx => ?_⟩
    obtain hx | hx := List.mem_append.1 hx
    · exact hl x hx
    · exact (List.mem_singleton.1 hx).symm ▸ hc
  · refine ⟨by simp only [List.length_append, List.length_drop, List.length_singleton]; omega, fun x hx => ?_⟩
    obtain hx | hx := List.mem_append.1 hx
    · exact hl x (List.mem_of_mem_drop hx)
    · exact (List.mem_singleton.1 hx).symm ▸ hc

/-- R24: the history after a good sample. -/
theorem goodSample_bounds {c : Nat} (hc : c ≤ 4094) (hs : HistoryLaw s) :
    (goodSample s.cfg c s.flow).history.length ≤ 8
      ∧ ∀ x ∈ (goodSample s.cfg c s.flow).history, x ≤ 4094 := by
  unfold goodSample
  dsimp only
  split
  · exact joinHistory_bounds hc (Nat.zero_le _) (by simp)
  · exact joinHistory_bounds hc hs.1 hs.2

/-- R23 to R28: a pressure sample. -/
theorem leads_pressureSample (h : Leads (.arrival pages) s₀ s) {count : BitVec 12} {sensorFault : Bool} :
    Leads (.arrival pages) s₀ (setFlow (if badPressure count sensorFault then badSample s.time s.flow
      else goodSample s.cfg count.toNat s.flow) s) := by
  refine leads_setFlow h fun hs => ?_
  split
  case isTrue =>
    unfold badSample
    split
    · exact hs
    · exact hs
  case isFalse hgood =>
    have hc : count.toNat ≠ 4095 := fun heq => hgood (by simp [badPressure, heq])
    exact goodSample_bounds (by have := count.isLt; omega) hs

/-! ## The key sequence (R121 to R123) -/

/-- R121: the key state and the unlock deadline. -/
@[simp] theorem leads_setKey (h : Leads (.arrival pages) s₀ s) {k : KeyState} {d : Option Instant} :
    Leads (.arrival pages) s₀ (setKey k d s) :=
  h.tail (.key s k d)

/-- R121: K1. -/
@[simp] theorem leads_keyTurn (h : Leads (.arrival pages) s₀ s) {active : Bool} :
    Leads (.arrival pages) s₀ (keyTurn active s) := by
  unfold keyTurn
  split
  case h_1 | h_2 | h_3 => exact leads_setKey h
  all_goals exact h

/-- R121, R123: K2 in operation. -/
theorem leads_keyPress (h : Leads (.arrival pages) s₀ s) (ho : s.startup.state = .operating) :
    Leads (.arrival pages) s₀ (keyPress s) :=
  leads_ite (leads_requestRestart (leads_setKey h) ho) h

/-! ## Sirens (R148 to R152) -/

/-- R150: SIL in operation. -/
theorem leads_silenceAll (h : Leads (.arrival pages) s₀ s) (ho : s.startup.state = .operating) :
    Leads (.arrival pages) s₀ (silenceAll s) :=
  leads_silence (leads_silence h ho) (by simpa using ho)

/-- R148: a phase deadline, which runs in PULSE alone. -/
theorem leads_expirePhase (h : Leads (.arrival pages) s₀ s) (ho : s.startup.state = .operating) {i : Fin 2}
    (hphase : (s.sirens.sirens.get i).phaseDeadline.isSome = true) : Leads (.arrival pages) s₀ (expirePhase i s) :=
  leads_siren h ho fun ⟨_, hpulse⟩ => by simp [Siren.outputLaw, hpulse hphase]

/-- R148, R149: the end of a cycle. -/
theorem leads_expireCycle (h : Leads (.arrival pages) s₀ s) (ho : s.startup.state = .operating) {i : Fin 2} :
    Leads (.arrival pages) s₀ (expireCycle i s) := by
  unfold expireCycle setSiren
  exact leads_ite (leads_sound (leads_siren h ho (by exact id)) ho)
    (leads_siren h ho (by exact fun _ => outputLaw_beginCycle _ _ _))

/-- R152: a siren's resound. -/
theorem leads_resoundSiren (h : Leads (.arrival pages) s₀ s) (ho : s.startup.state = .operating) {i : Fin 2} :
    Leads (.arrival pages) s₀ (resoundSiren i s) :=
  leads_sound (leads_endSilence h ho) (by simpa using ho)

/-! ## Contacts (R2) -/

/-- R113, R118: a confirming input in operation. -/
theorem leads_confirmChange (h : Leads (.arrival pages) s₀ s) (ho : s.startup.state = .operating) {i : ConfirmInput}
  {active : Bool} :
    Leads (.arrival pages) s₀ (confirmChange i active s) :=
  leads_ite (leads_reportingHalt (leads_confirmByInput h ho) (by simpa using ho)) h

/-- What the block that reads an input does with it, in operation, or at a flow switch. -/
theorem leads_contactAction (h : Leads (.arrival pages) s₀ s) {i : Input} {active : Bool}
    (ho : readBeforeOperating i = false → s.startup.state = .operating) :
        Leads (.arrival pages) s₀ (contactAction i active s) := by
  cases i with
  | fs0 | fs1 => exact leads_flowSwitch h
  | fh0 | fh1 => exact leads_recountOwn h (ho rfl)
  | k1 => exact leads_keyTurn h
  | k2 => exact leads_ite (leads_keyPress h (ho rfl)) h
  | sil => exact leads_ite (leads_silenceAll h (ho rfl)) h
  | fsc | gv | gn | dmc | dmo => exact leads_confirmChange h (ho rfl)
  | dc0 | dc1 => exact leads_closedSwitch h (ho rfl)
  | cc0 | cc1 => exact leads_conveyorClear h (ho rfl)

/-- R2: a change of debounced level. -/
@[simp] theorem leads_takeContact (h : Leads (.arrival pages) s₀ s) {i : Input} {active : Bool} :
    Leads (.arrival pages) s₀ (takeContact i active s) := by
  refine leads_guarded h fun _ => ?_
  have hlevel : Leads (.arrival pages) s₀ (setLevel i active s) := h.tail (.inputs s _)
  refine leads_guarded hlevel fun hc => leads_contactAction hlevel fun hread => ?_
  rw [hread, Bool.or_false] at hc
  exact operating_iff.1 hc

/-- R2: a change of raw level. -/
@[simp] theorem leads_rawChange (h : Leads (.arrival pages) s₀ s) {i : Input} {active : Bool} :
    Leads (.arrival pages) s₀ (rawChange i active s) := by
  have hraw : Leads (.arrival pages) s₀ (setRaw i active s) := h.tail (.inputs s _)
  exact leads_ite hraw (leads_ite (leads_takeContact hraw) (hraw.tail (.inputs _ _)))

/-! ## The service port (section 11) -/

/-- R185: a command completes with a status that is not 0. -/
theorem leads_complete (h : Leads (.arrival pages) s₀ s) {status : Byte} {reply : List Byte} (hs : status ≠ 0) :
    Leads (.arrival pages) s₀ (complete status reply s) :=
  h.tail (.service s _ fun _ _ hzero => absurd hzero hs)

/-- R185: a command completes with the status OK. -/
theorem leads_completeOk (h : Leads (.arrival pages) s₀ s) {reply : List Byte} :
    Leads (.arrival pages) s₀ (complete statusOk reply s) := leads_complete h (by decide)

/-- The port waits. -/
@[simp] theorem leads_holdCommand (h : Leads (.arrival pages) s₀ s) {command : Byte} {params : List Byte}
    {wait : PortWait} : Leads (.arrival pages) s₀ (holdCommand command params wait s) :=
  h.tail (.service s _ fun _ hidle => nomatch hidle)

/-- R171: READ_LOG. -/
@[simp] theorem leads_serveLog (h : Leads (.arrival pages) s₀ s) {params : List Byte} :
    Leads (.arrival pages) s₀ (serveLog params s) :=
  leads_ite (leads_completeOk h) (leads_ite (leads_holdCommand h) (leads_completeOk h))

/-- R171: a held READ_LOG. -/
@[simp] theorem leads_serveHeldLog (h : Leads (.arrival pages) s₀ s) : Leads (.arrival pages) s₀ (serveHeldLog s) := by
  unfold serveHeldLog
  split
  · exact leads_completeOk h
  · exact h

/-- R169: CLEAR_PROTECTION. -/
@[simp] theorem leads_clearProtection (h : Leads (.arrival pages) s₀ s) {b : Fin 16} :
    Leads (.arrival pages) s₀ (clearProtection b s) := by
  have hcleared : LogKeeps s.log { s.log with store := { s.log.store with
      table := s.log.store.table.set b { s.log.store.table[b] with isProtected := false } } } :=
    .of_eq rfl rfl rfl rfl
  have hcut := leads_log h hcleared (allowsLog_of_buffer_eq rfl)
  unfold clearProtection
  exact leads_ite (leads_completeOk h) (leads_ite (leads_completeOk h) (leads_completeOk
    (leads_ite (leads_searchFrom (leads_post hcut)) (leads_post hcut))))

/-- R163: FLUSH_LOG. -/
@[simp] theorem leads_flushByCommand (h : Leads (.arrival pages) s₀ s) : Leads (.arrival pages) s₀ (flushByCommand s) :=
  leads_completeOk (leads_logPosts h (logPosts_requestFlush _))

/-- A start-up record with another memory deadline. -/
theorem leads_memoryDeadline (h : Leads (.arrival pages) s₀ s) {d : Option Instant} :
    Leads (.arrival pages) s₀ { s with startup := { s.startup with memoryDeadline := d } } :=
  h.tail (.startup s _ rfl rfl .inl)

/-- R188: a request to the configuration memory. -/
@[simp] theorem leads_requestConfig (h : Leads (.arrival pages) s₀ s) {command : Byte} {params : List Byte} :
    Leads (.arrival pages) s₀ (requestConfig command params s) :=
  leads_ite (leads_holdCommand h) (leads_holdCommand (leads_memoryDeadline h))

/-- R188: a configuration command held for the loader. -/
@[simp] theorem leads_releaseConfig (h : Leads (.arrival pages) s₀ s) :
    Leads (.arrival pages) s₀ (releaseConfig s) := by
  unfold releaseConfig
  split
  · exact leads_requestConfig h
  · exact h

/-- R188: bytes written to the configuration memory. -/
theorem leads_writeConfig (h : Leads (.arrival pages) s₀ s) {a : Nat} {bs : List Byte} :
    Leads (.arrival pages) s₀ { s with configMemory := Memory.writeBytes a bs s.configMemory } :=
  h.tail (.configMemory s _ Memory.writeBytes_wf)

/-- R188: the memory's answer in time. -/
@[simp] theorem leads_acceptAnswer (h : Leads (.arrival pages) s₀ s) {readBack : BitVec 32} :
    Leads (.arrival pages) s₀ (acceptAnswer readBack s) := by
  unfold acceptAnswer
  split
  · exact leads_ite (leads_completeOk (leads_writeConfig (leads_memoryDeadline h)))
      (leads_completeOk (leads_memoryDeadline h))
  · exact h

/-- R188: no answer of the memory. -/
@[simp] theorem leads_configUnanswered (h : Leads (.arrival pages) s₀ s) :
    Leads (.arrival pages) s₀ (configUnanswered s) := by
  unfold configUnanswered
  split
  case h_1 c params _ =>
    have hwritten := leads_writeConfig (a := paramOffset params)
      (bs := [0, 1, 2, 3].map (Config.unansweredConfigByte s.freeCount)) (leads_memoryDeadline (d := none) h)
    exact leads_ite (leads_completeOk (hwritten.tail (.freeCount _ (s.freeCount + 1))))
      (leads_completeOk (leads_memoryDeadline h))
  case h_2 => exact h

/-! ## Completions of the log store (R164 to R168) -/

/-- R165: the write position advances. -/
@[simp] theorem leads_advance (h : Leads (.arrival pages) s₀ s) {b p : Fin 16} :
    Leads (.arrival pages) s₀ (advance b p s) :=
  leads_ite (leads_idleLog
    (leads_log h (.of_eq (by rfl) (by rfl) (by rfl) (by rfl)) (allowsLog_of_buffer_eq (by rfl)))) (leads_searchFrom h)

/-- R164: a page program done. -/
@[simp] theorem leads_programDone (h : Leads (.arrival true) s₀ s) {b p : Fin 16} :
    Leads (.arrival true) s₀ (programDone b p s) := by
  have hserved : Leads (.arrival true) s₀ (serveHeldLog { s with log := (commitProgram b p s.log).1 }) :=
    leads_serveHeldLog (leads_log h (logKeeps_commitProgram b p s.log) (allowsLog_of_buffer_eq rfl))
  exact leads_ite (leads_advance (leads_log hserved (logKeeps_emptyBuffer _) trivial)) (leads_idleLog hserved)

/-- R167: every record of the buffer counts as unprogrammed. -/
theorem logKeeps_unprogram (g : LogSystem) : LogKeeps g { g with store := { g.store with programmed := 0 } } :=
  ⟨fun ⟨hq, hb, _⟩ => ⟨hq, hb, Nat.zero_le _⟩, id⟩

/-- R167: a page program failed. -/
@[simp] theorem leads_programFailed (h : Leads (.arrival pages) s₀ s) {b p : Fin 16} :
    Leads (.arrival pages) s₀ (programFailed b p s) := by
  have hretired := leads_retire (b := b) (cause := 0) ((leads_log h (logKeeps_leaveProgram
    (Config.failedProgramByte s.freeCount) (Config.cutProgramMark s.freeCount) b p s.log)
    (allowsLog_of_buffer_eq rfl)).tail
    (.freeCount _ (s.freeCount + 1)))
  exact leads_searchFrom (leads_serveHeldLog (leads_log hretired (logKeeps_unprogram _) (allowsLog_of_buffer_eq rfl)))

/-- R166: an erase done. -/
@[simp] theorem leads_eraseDone (h : Leads (.arrival pages) s₀ s) {b : Fin 16} :
    Leads (.arrival pages) s₀ (eraseDone b s) :=
  leads_idleLog (leads_serveHeldLog (leads_log h (logKeeps_commitErase b s.log) (allowsLog_of_buffer_eq rfl)))

/-- R166: an erase failed. -/
@[simp] theorem leads_eraseFailed (h : Leads (.arrival pages) s₀ s) {b : Fin 16} :
    Leads (.arrival pages) s₀ (eraseFailed b s) :=
  leads_searchFrom (leads_serveHeldLog (leads_retire ((leads_log h (logKeeps_leaveErase
    (Config.cutEraseByte s.freeCount) (Config.cutEraseCount s.freeCount) b s.log)
    (allowsLog_of_buffer_eq rfl)).tail
    (.freeCount _ (s.freeCount + 1)))))

/-! ## Commands of the port, which may end in a reset (R183 to R189) -/

/-- What a state leads to, perhaps by a reset at the end. -/
def LeadsOrResets (s t : State) : Prop :=
  Leads (.arrival true) s t ∨ ∃ kind u, Leads (.arrival true) s u ∧ t = beginReset kind u

/-- R173: a reset begins, or in RESETTING its cause changes. -/
theorem leadsOrResets_takeReset (h : Leads (.arrival true) s₀ s) (kind : ResetKind) :
    LeadsOrResets s₀ (takeReset kind s) := by
  unfold takeReset
  split
  · exact .inl (leads_ite (h.tail (.startup s _ rfl rfl .inl)) h)
  · exact .inr ⟨kind, s, h, rfl⟩

/-- R186 to R189: a command carried out. -/
theorem leadsOrResets_carryOut (h : Leads (.arrival true) s₀ s) {c : Byte} {params : List Byte} :
    LeadsOrResets s₀ (carryOut c params s) := by
  unfold carryOut
  dsimp only
  split
  case h_12 => exact leadsOrResets_takeReset h .service
  case h_3 =>
    split
    · exact .inl (leads_complete h (by decide))
    · exact .inl (leads_completeOk h)
  case h_1 | h_2 | h_4 | h_5 | h_6 => exact .inl (leads_completeOk h)
  case h_7 => exact .inl (leads_serveLog h)
  case h_8 => exact .inl (leads_flushByCommand h)
  case h_9 => exact .inl (leads_clearProtection h)
  case h_10 | h_11 => exact .inl (leads_requestConfig h)

/-- R184, R185: a command taken where one waits and the port is ready, after a write to the exchange area. -/
theorem leadsOrResets_tryTake (h : Leads (.arrival true) s₀ s) {v : Service} :
    LeadsOrResets s₀ (tryTake { s with service := v }) := by
  unfold tryTake judgeCommand
  split
  case isTrue =>
    have htaken : Leads (.arrival true) s₀ { s with service := { v with command := 0 } } :=
      h.tail (.service s _ fun _ _ _ => rfl)
    split
    · exact .inl (leads_complete htaken (by decide))
    · split
      · exact .inl (leads_complete htaken (by decide))
      · split
        · exact .inl (leads_complete htaken (by decide))
        · exact leadsOrResets_carryOut htaken
  case isFalse hready =>
    refine .inl (h.tail (.service s _ fun _ hidle hstatus => ?_))
    by_contra hcommand
    exact hready ⟨hidle, hcommand, hstatus⟩

/-- R183: a write transaction. -/
theorem leadsOrResets_writeTransaction (h : Leads (.arrival true) s₀ s) {bytes : List Byte} :
    LeadsOrResets s₀ (writeTransaction bytes s) := by
  unfold writeTransaction
  split
  · exact .inl h
  · split
    · exact leadsOrResets_tryTake h
    · exact .inl h

/-- R184: a command given. -/
theorem leadsOrResets_giveCommand (h : Leads (.arrival true) s₀ s) {c : Byte} {params : List Byte} :
    LeadsOrResets s₀ (giveCommand c params s) := by
  unfold giveCommand
  split
  · exact leadsOrResets_tryTake h
  · exact .inl h

end

end Sys2Proof.Machine
end

section
/-! SUPPORT. Start-up leads to what it gives by changes that keep every law, but for the hand-over of the configuration
set; and so does every command. -/
namespace Sys2Proof.Machine

section
variable {s₀ s : State}

/-! ## Identity, failure and the line-echo test (R174, R178, R179, R181) -/

/-- R181: start-up fails out of STARTING. -/
theorem leads_failStart (h : Leads (.arrival true) s₀ s) (hs : StartupLaw s → s.startup.state ≠ .operating)
    {reason : Failure} :
    Leads (.arrival true) s₀ (failStart reason s) :=
  h.tail (.fail s _ hs rfl rfl rfl)

/-- Under the law of start-up a stage stands in STARTING alone. -/
theorem not_operating_of_stage {stage : Stage} (hstage : s.startup.stage = some stage) (hs : StartupLaw s) :
    s.startup.state ≠ .operating := by
  have hstate : s.startup.state = .starting := hs.1.1 (by simp [hstage])
  simp [hstate]

/-- R174: RESETTING ends. -/
theorem leads_beginStart (h : Leads (.arrival true) s₀ s) (hs : s.startup.state = .resetting) {station rate : Nat} :
    Leads (.arrival true) s₀ (beginStart station rate s) := by
  have htime : Leads (.arrival true) s₀ { s with time := 0 } := h.tail (.time s 0)
  unfold beginStart
  dsimp only
  split
  case isTrue =>
    have hposted := leads_post (kind := .reset) (subject := 0) (value1 := resetCode s.startup.cause)
      (value2 := rate * 256 + station) (flags := 0)
      (htime.tail (.startup _ { s.startup with station := some station, rate := some rate, warnings := some 0 }
        rfl rfl .inl))
    exact hposted.tail (.fail _ _ (fun _ => by simp [hs]) rfl rfl rfl)
  case isFalse =>
    have hstarted := leads_post (kind := .reset) (subject := 0) (value1 := resetCode s.startup.cause)
      (value2 := rate * 256 + station) (flags := 0)
      (htime.tail (.start _ { s.startup with
        state := .starting, stage := some .image, station := some station, rate := some rate
        warnings := some 0, memoryDeadline := some (later 0 50) } hs rfl rfl rfl))
    exact hstarted

/-- R179: the line-echo test begins, at SELF_TEST. -/
theorem leads_beginEcho (h : Leads (.arrival true) s₀ s) (hs : s.startup.stage = some .selfTest) :
    Leads (.arrival true) s₀ (beginEcho s) := by
  refine leads_placePresence (h.tail (.startup s _ rfl rfl fun _ => .inr hs)) ?_
  rintro ⟨⟨hstage, -⟩, -⟩ hfailed
  have hstarting : s.startup.state = .starting := hstage.1 (by simp [hs])
  simp [hstarting] at hfailed

/-- R179: an echo deadline that runs has expired. -/
theorem leads_expireEcho (h : Leads (.arrival true) s₀ s) (hecho : s.startup.echoDeadline.isSome = true) :
    Leads (.arrival true) s₀ (expireEcho s) :=
  leads_ite (leads_passEcho h hecho) (leads_failStart h fun hs => not_operating_of_stage (hs.2 hecho) hs)

/-! ## The hand-over (R176, R177) -/

/-- R176: the warnings of one check. -/
@[simp] theorem leads_warnAll (h : Leads (.arrival true) s₀ s) {subject : Nat} {ws : List (Nat × Nat)} :
    Leads (.arrival true) s₀ (warnAll subject ws s) :=
  List.foldlRecOn (motive := Leads (.arrival true) s₀) _ _ h fun _ ht _ _ =>
    (leads_post ht).tail (.startup _ _ rfl rfl .inl)

/-- R176: the warnings leave the start-up state and the stage. -/
theorem startup_warnAll (subject : Nat) (ws : List (Nat × Nat)) (s : State) :
    (warnAll subject ws s).startup.state = s.startup.state
      ∧ (warnAll subject ws s).startup.stage = s.startup.stage :=
  List.foldlRecOn (motive := fun t : State => t.startup.state = s.startup.state ∧ t.startup.stage = s.startup.stage)
    _ _ ⟨rfl, rfl⟩ fun _ ht _ _ => ht

/-- R177: every block with the values of a configuration set, before the warnings are posted. -/
def installSet (c : ConfigSet) (s : State) : State :=
  let zones := buildZones 0 c.tracked [c.homeZone]
  { s with
    config := some c
    inputs := { s.inputs with level := s.inputs.raw, deadline := Vector.replicate 16 none }
    channels :=
      ⟨startChannel c.channels.c0, startChannel c.channels.c1, startChannel c.channels.c2,
       startChannel c.channels.c3⟩
    watch := (buildWatch s.station 0 c.watch []).1.map (fun e => e.2)
    valves :=
      { valves :=
          ⟨startValve s.time c.valves.fst (s.rawLevel .fs0), startValve s.time c.valves.snd (s.rawLevel .fs1)⟩
        comparator := some .normal, lastWater := none }
    zones := { s.zones with zones := zones.1.map startZone }
    sirens :=
      { s.sirens with sirens :=
          ⟨startSiren (keptZones zones.1 (namedSirenZones c.sirens.fst)),
           startSiren (keptZones zones.1 (namedSirenZones c.sirens.snd))⟩ }
    startup := { s.startup with stage := some .selfTest } }

/-- R177: what follows once the values stand. -/
theorem leads_handOverSet {c : ConfigSet} : Leads (.arrival true) (installSet c s) (handOverSet c s) :=
  leads_log (leads_warnAll (leads_warnAll (leads_warnAll .refl))) (.of_eq rfl rfl rfl rfl) trivial

/-! ## The notice of OPERATING (R156, R170, R180) -/

/-- R155, R156: what the first reports of the fault summary leave of the state: the log, the summary and the relay,
which stands as it stood or with the summary. -/
def Reported (s t : State) : Prop :=
  ∃ f r g, t = { s with sirens := { s.sirens with summary := f, relay := r }, log := g } ∧ LogKeeps s.log g
    ∧ (r = s.sirens.relay ∨ r = f.isEmpty)

/-- A change of the log leaves summary and relay. -/
theorem reported_log {t : State} (h : Reported s t) {g : LogSystem} (hg : LogKeeps t.log g) :
    Reported s { t with log := g } := by
  obtain ⟨f, r, g', rfl, hkeeps, hr⟩ := h
  exact ⟨f, r, g, rfl, hkeeps.trans hg, hr⟩

/-- An event posted. -/
theorem reported_post {t : State} (h : Reported s t) {kind : EventKind} {subject value1 value2 flags : Nat} :
    Reported s (post kind subject value1 value2 flags t) :=
  reported_log h ((logKeeps_enqueue _ _).trans (logKeeps_takeInIdle _ _))

/-- A change of the summary, with the relay that follows. -/
theorem reported_summary {t : State} (h : Reported s t) (f : FaultSummary) :
    Reported s { t with sirens := { t.sirens with summary := f, relay := f.isEmpty } } := by
  obtain ⟨f', r, g, rfl, hkeeps, -⟩ := h
  exact ⟨f, f.isEmpty, g, rfl, hkeeps, .inr rfl⟩

/-- R155, R156: a fault report. -/
theorem reported_reportFault {t : State} (h : Reported s t) {m : FaultMember} {b : Bool} :
    Reported s (reportFault m b t) := by
  unfold reportFault
  split
  · exact reported_post (reported_summary h _)
  · exact h

/-- R156: the siren unit's notice: the relay is energized where the summary is empty. -/
theorem reported_startRelay {t : State} (h : Reported s t) : Reported s (startRelay t) := by
  unfold startRelay
  split
  case isTrue hempty =>
    have hrelay := reported_summary h t.sirens.summary
    rw [hempty] at hrelay
    exact reported_post hrelay
  case isFalse => exact h

/-- R156: where the relay was de-energized, the notice leaves it with the summary. -/
theorem relay_startRelay {t : State} (h : Reported s t) (hoff : s.sirens.relay = false) :
    (startRelay t).sirens.relay = (startRelay t).sirens.summary.isEmpty := by
  unfold startRelay
  split
  case isTrue hempty => exact hempty.symm
  case isFalse hfull =>
    obtain ⟨f, r, g, rfl, -, hr⟩ := h
    obtain rfl | rfl := hr
    · exact hoff.trans (by simpa using hfull)
    · rfl

/-- R155, R170: the log's scan and the first reports. -/
theorem reported_reportMembers (s : State) : Reported s (reportMembers (startLog s)) := by
  have hs : Reported s s := ⟨s.sirens.summary, s.sirens.relay, s.log, rfl, .refl _, .inl rfl⟩
  have hscan : Reported s { s with log := scanLog s.log } := reported_log hs (logKeeps_scanLog _)
  have hlog : Reported s (startLog s) := by
    unfold startLog
    dsimp only
    split
    · exact reported_log hscan (logKeeps_returnToIdle _ _ _)
    · exact hscan
  unfold reportMembers
  dsimp only
  iterate 9 apply reported_reportFault
  exact hlog

/-- R156, R180: start-up becomes OPERATING, with the first reports. -/
theorem leads_startRelay (h : Leads (.arrival true) s₀ s) (hs : s.startup.stage = some .scan) :
    Leads (.arrival true) s₀ (startRelay (reportMembers (startLog
      { s with startup := { s.startup with state := .operating, stage := none } }))) := by
  have hmembers := reported_reportMembers { s with startup := { s.startup with state := .operating, stage := none } }
  have hrelay := relay_startRelay hmembers
  obtain ⟨f, r, g, heq, hkeeps, -⟩ := reported_startRelay hmembers
  rw [heq] at hrelay ⊢
  have hlog : Leads (.arrival true) s₀ { s with log := g } := leads_log h hkeeps trivial
  refine hlog.tail (.operate _ { s.startup with state := .operating, stage := none } f r hs rfl rfl rfl ?_)
  rintro ⟨hstart, hoff⟩
  have hstate : s.startup.state = .starting := hstart.1.1 (by simp [hs])
  refine hrelay ?_
  simpa [State.operating, hstate] using hoff

/-- R73: the first PRESENCE of operation. -/
theorem leads_startPresence (h : Leads (.arrival true) s₀ s) (ho : s.startup.state = .operating) :
    Leads (.arrival true) s₀ (startPresence s) := by
  refine leads_placePresence (leads_line h ⟨id, fun _ hz => .inl hz, fun ⟨hstart, _, hempty⟩ => ?_⟩) ?_
  · exact ⟨hstart, fun hop => by simp [State.operating, ho] at hop, hempty⟩
  · intro _
    simp [ho]

/-- R121: the judging of the key leaves start-up. -/
@[simp] theorem startup_startKey (s : State) : (startKey s).startup = s.startup := by
  unfold startKey setKey
  split <;> rfl

/-- R135: the start state of a door leaves start-up. -/
@[simp] theorem startup_startDoor (d : Fin 2) (s : State) : (startDoor d s).startup = s.startup := by
  unfold startDoor
  dsimp only
  split <;> simp

/-- R73: the first PRESENCE leaves start-up. -/
@[simp] theorem startup_startPresence (s : State) : (startPresence s).startup = s.startup := by
  simp [startPresence]

/-- R73 to R135: what the other blocks take up with the notice of OPERATING. -/
theorem leads_startBlocks (h : Leads (.arrival true) s₀ s) (ho : s.startup.state = .operating) :
    Leads (.arrival true) s₀ (startZoneUnit (startPresence (startDoor 1 (startDoor 0 (startKey s))))) := by
  have hkey : Leads (.arrival true) s₀ (startKey s) := leads_ite (leads_setKey h) h
  have hdoors := leads_startDoor (d := 1) (leads_startDoor (d := 0) hkey (by simpa using ho)) (by simpa using ho)
  exact leads_startZoneUnit (leads_startPresence hdoors (by simpa using ho)) (by simpa using ho)

/-- R180: start-up becomes OPERATING. -/
theorem leads_becomeOperating (h : Leads (.arrival true) s₀ s) (hs : s.startup.stage = some .scan) :
    Leads (.arrival true) s₀ (becomeOperating s) := by
  unfold becomeOperating
  dsimp only
  apply leads_startBlocks (leads_startRelay h hs)
  obtain ⟨f, r, g, heq, -⟩ := reported_startRelay (reported_reportMembers
    { s with startup := { s.startup with state := .operating, stage := none } })
  rw [heq]

/-! ## Every command -/

/-- What a command leads to: a state by changes of one component each, a reset of such a state, or at the read of the
image the hand-over of a configuration set. -/
inductive Answers (c : Instr) (s t : State) : Prop
  | leads (h : LeadsOrResets s t)
  | handsOver (set : ConfigSet) (u : State) (hc : c = .imageReadEnd) (hs : s.startup.stage = some .image)
      (hu : Leads (.arrival true) s u) (hstate : u.startup.state = s.startup.state)
      (hstage : u.startup.stage = some .image)
      (ht : Leads (.arrival true) (installSet set u) t)

/-- A command that leads to a state. -/
theorem answers_of_leads {c : Instr} {t : State} (h : Leads (.arrival true) s t) : Answers c s t := .leads (.inl h)

end

end Sys2Proof.Machine
end

section
/-! SUPPORT. Every command and every step: the next state, and how it is reached. -/
namespace Sys2Proof.Machine

section
variable {s₀ s : State}

/-! ## The commands whose meaning is more than one operation -/

/-- R175 to R177: the end of the read of the image, at stage IMAGE. -/
theorem answers_judgeImage (hs : s.startup.stage = some .image) :
    Answers .imageReadEnd s (releaseConfig (judgeImage s)) := by
  have hjudged : Leads (.arrival true) s { s with startup := { s.startup with
      version := some (imageByte (Memory.readBytes s.configMemory 0 512) 0), memoryDeadline := none } } :=
    (leads_refl s).tail (.startup s _ rfl rfl .inl)
  unfold judgeImage
  dsimp only
  split
  case isTrue =>
    have hwarned := leads_warnAll (subject := 1)
      (ws := (readConfigSet (Memory.readBytes s.configMemory 0 512)).warnings) hjudged
    obtain ⟨hstate, hstage⟩ := startup_warnAll 1 (readConfigSet (Memory.readBytes s.configMemory 0 512)).warnings
      { s with startup := { s.startup with
        version := some (imageByte (Memory.readBytes s.configMemory 0 512) 0), memoryDeadline := none } }
    exact .handsOver _ _ rfl hs hwarned hstate (hstage.trans hs) (leads_releaseConfig leads_handOverSet)
  case isFalse => exact answers_of_leads (leads_releaseConfig (leads_failStart hjudged fun hlaw =>
      not_operating_of_stage (s := s) hs hlaw))

/-- R175, R188: the memory's time-out. -/
theorem leads_memoryAnswerTimeout (h : Leads (.arrival true) s₀ s) :
    Leads (.arrival true) s₀ (if s.startup.stage = some .image then
        releaseConfig (failStart .configBad { s with startup := { s.startup with memoryDeadline := none } })
      else configUnanswered s) := by
  split
  case isTrue hs =>
    exact leads_releaseConfig (leads_failStart (leads_memoryDeadline (d := none) h) fun hlaw =>
      not_operating_of_stage (s := s) hs hlaw)
  case isFalse => exact leads_configUnanswered h

/-- R178, R179: the output readback. -/
theorem leads_outputReadback (h : Leads (.arrival true) s₀ s) {good : Prop} [Decidable good] :
    Leads (.arrival true) s₀ (if s.startup.stage = some .selfTest ∧ s.startup.echoDeadline = none then
        if good then beginEcho s else failStart .selfTest s
      else s) := by
  split
  case isTrue hs =>
    exact leads_ite (leads_beginEcho h hs.1) (leads_failStart h fun hlaw => not_operating_of_stage hs.1 hlaw)
  case isFalse => exact h

/-- R66: FRAME_BROKEN_OFF once the byte on the line has ended. -/
theorem leads_brokenOff (h : Leads (.arrival true) s₀ s) :
    Leads (.arrival true) s₀ (let u := breakOffAt 12 s; { u with line := judgeGap u.station u.line }) :=
  leads_judgeGap (leads_breakOffAt h)

/-- R74: PRESENCE_DEADLINE_EXPIRY. -/
theorem leads_presenceExpiry (h : Leads (.arrival true) s₀ s) :
    Leads (.arrival true) s₀ (match s.line.presenceDeadline with
      | none => s
      | some d => if due s.time (some d) then expirePresence d s else s) := by
  split
  case h_1 => exact h
  case h_2 d hd => exact leads_ite (leads_expirePresence h hd) h

/-- R164 to R167: PAGE_PROGRAM_COMPLETE. -/
theorem leads_programComplete (h : Leads (.arrival true) s₀ s) {success : Bool} :
    Leads (.arrival true) s₀ (match s.log.store.state, s.log.store.position with
      | .programming, some (b, p) => if success then programDone b p s else programFailed b p s
      | _, _ => s) := by
  split
  · exact leads_ite (leads_programDone h) (leads_programFailed h)
  · exact h

/-- R166: ERASE_COMPLETE. -/
theorem leads_eraseComplete (h : Leads (.arrival true) s₀ s) {success : Bool} :
    Leads (.arrival true) s₀ (match s.log.store.state, s.log.store.position with
      | .erasing, some (b, _) => if success then eraseDone b s else eraseFailed b s
      | _, _ => s) := by
  split
  · exact leads_ite (leads_eraseDone h) (leads_eraseFailed h)
  · exact h

/-- An expiry that acts in OPERATING where it is due. -/
theorem leads_ifOperating (h : Leads (.arrival true) s₀ s) {c : Bool} {t : State}
    (ht : s.startup.state = .operating → c = true → Leads (.arrival true) s₀ t) :
    Leads (.arrival true) s₀ (if s.operating && c then t else s) := by
  refine leads_guarded h fun hc => ?_
  rw [Bool.and_eq_true] at hc
  exact ht (operating_iff.1 hc.1) hc.2

/-! ## Every command -/

/-- Every command answers a next state, to which the state before leads. -/
theorem exec_answers (c : Instr) (s : State) : ∃ t, exec c s = .next t ∧ Answers c s t := by
  have h : Leads (.arrival true) s s := .refl
  cases c with
  | resetBegin kind => exact ⟨_, rfl, .leads (leadsOrResets_takeReset h kind)⟩
  | resettingEnd station rate =>
    refine ⟨_, rfl, answers_of_leads ?_⟩
    split
    case isTrue hs => exact leads_beginStart h hs
    case isFalse => exact h
  | imageReadEnd =>
    refine ⟨_, rfl, ?_⟩
    split
    case isTrue hs => exact answers_judgeImage hs
    case isFalse => exact answers_of_leads h
  | memoryAnswerTimeout => exact ⟨_, rfl, answers_of_leads (leads_ite (leads_memoryAnswerTimeout h) h)⟩
  | outputReadback storeGood sense => exact ⟨_, rfl, answers_of_leads (leads_outputReadback h)⟩
  | echoDeadlineExpiry =>
    exact ⟨_, rfl, answers_of_leads (leads_guarded h fun hdue => leads_expireEcho h (isSome_of_due hdue))⟩
  | logScanComplete =>
    refine ⟨_, rfl, answers_of_leads ?_⟩
    split
    case isTrue hs => exact leads_becomeOperating h hs
    case isFalse => exact h
  | rawInputChange n active => exact ⟨_, rfl, answers_of_leads (leads_ite h (leads_rawChange h))⟩
  | sample ch x => exact ⟨_, rfl, answers_of_leads (leads_takeSample h)⟩
  | glowDeadlineExpiry ch => exact ⟨_, rfl, answers_of_leads (leads_ite (leads_enterGlow h) h)⟩
  | pressureSample count sensorFault => exact ⟨_, rfl, answers_of_leads (leads_ite (leads_pressureSample h) h)⟩
  | holdDeadlineExpiry =>
    exact ⟨_, rfl, answers_of_leads (leads_ite (leads_setFlow h (by exact fun hs => hs)) h)⟩
  | openExpiry v =>
    exact ⟨_, rfl, answers_of_leads (leads_ifOperating h fun ho _ => leads_beginHead h ho)⟩
  | closeExpiry v => exact ⟨_, rfl, answers_of_leads (leads_ite (leads_closeHead h) h)⟩
  | missHoldExpiry v => exact ⟨_, rfl, answers_of_leads (leads_ite (leads_expireMissHold h) h)⟩
  | flowConfirmExpiry v => exact ⟨_, rfl, answers_of_leads (leads_ite (leads_expireFlowConfirm h) h)⟩
  | leakDeadlineExpiry v => exact ⟨_, rfl, answers_of_leads (leads_ite (leads_expireLeak h) h)⟩
  | waterSample p => exact ⟨_, rfl, answers_of_leads (leads_ite (leads_takeWater h) h)⟩
  | fsChange v active => exact ⟨_, rfl, answers_of_leads (leads_takeContact h)⟩
  | fhChange n active => exact ⟨_, rfl, answers_of_leads (leads_takeContact h)⟩
  | confirmInputChange n active => exact ⟨_, rfl, answers_of_leads (leads_takeContact h)⟩
  | k1Change active => exact ⟨_, rfl, answers_of_leads (leads_takeContact h)⟩
  | k2Press => exact ⟨_, rfl, answers_of_leads (leads_takeContact h)⟩
  | unlockDeadlineExpiry => exact ⟨_, rfl, answers_of_leads (leads_ite (leads_setKey h) h)⟩
  | dcChange d active => exact ⟨_, rfl, answers_of_leads (leads_takeContact h)⟩
  | ccChange d active => exact ⟨_, rfl, answers_of_leads (leads_takeContact h)⟩
  | silChange active => exact ⟨_, rfl, answers_of_leads (leads_takeContact h)⟩
  | frameError => exact ⟨_, rfl, answers_of_leads (leads_ite (leads_takeBadFrame (leads_settled h)) h)⟩
  | byteError => exact ⟨_, rfl, answers_of_leads (leads_ite (leads_takeByteError (leads_settled h)) h)⟩
  | frameBrokenOff =>
    exact ⟨_, rfl, answers_of_leads (leads_ite (leads_afterByte h fun _ ht => leads_brokenOff ht) h)⟩
  | detectReceived source channel count age span peak =>
    exact ⟨_, rfl, answers_of_leads (leads_takeDetect (leads_settled h))⟩
  | voteReceived source zone level reason => exact ⟨_, rfl, answers_of_leads (leads_takeVote (leads_settled h))⟩
  | presenceReceived source homeZone level reason extraction velocity status =>
    exact ⟨_, rfl, answers_of_leads (leads_takePresence (leads_settled h))⟩
  | restartReceived source zone => exact ⟨_, rfl, answers_of_leads (leads_takeRestartFrame (leads_settled h))⟩
  | ownEcho => exact ⟨_, rfl, answers_of_leads (leads_takeEcho h)⟩
  | duplicateStationFrame kind =>
    exact ⟨_, rfl, answers_of_leads (leads_ite (leads_takeDuplicate (leads_settled h)) h)⟩
  | gapExpiry => exact ⟨_, rfl, answers_of_leads (leads_afterByte h fun _ ht => leads_expireGap ht)⟩
  | frameDriveStart => exact ⟨_, rfl, answers_of_leads (leads_driveHeld h)⟩
  | foreignStartBit start =>
    exact ⟨_, rfl, answers_of_leads (leads_ite (leads_afterByte h fun _ ht => leads_takeStartBit ht) h)⟩
  | collision read => exact ⟨_, rfl, answers_of_leads (leads_collide h)⟩
  | stuckWatchExpiry => exact ⟨_, rfl, answers_of_leads (leads_ite (leads_expireStuckWatch h) h)⟩
  | stuckExit => exact ⟨_, rfl, answers_of_leads (leads_ite (leads_afterByte h fun _ ht => leads_exitStuck ht) h)⟩
  | degradedDeadlineExpiry => exact ⟨_, rfl, answers_of_leads (leads_ite (leads_expireDegraded h) h)⟩
  | presenceDeadlineExpiry => exact ⟨_, rfl, answers_of_leads (leads_presenceExpiry h)⟩
  | silenceDeadlineExpiry station => exact ⟨_, rfl, answers_of_leads (leads_ite (leads_silencePeer h) h)⟩
  | ringDeadlineExpiry =>
    exact ⟨_, rfl, answers_of_leads (leads_ifOperating h fun ho _ => leads_expireRing h ho)⟩
  | haltedAtAged => exact ⟨_, rfl, answers_of_leads (leads_ite (leads_zones h (by rfl)) h)⟩
  | firePendingExpiry zone =>
    exact ⟨_, rfl, answers_of_leads (leads_ifOperating h fun ho _ => leads_expireFirePending h ho)⟩
  | stepTimerExpiry =>
    exact ⟨_, rfl, answers_of_leads (leads_ifOperating h fun ho hdue =>
      leads_reportingHalt (leads_expireStep h ho (isSome_of_due hdue)) (by simpa using ho))⟩
  | clearDeadlineExpiry d =>
    refine ⟨_, rfl, answers_of_leads (leads_guarded h fun hc => leads_expireClear h ?_)⟩
    simp only [Bool.and_eq_true] at hc
    exact operating_iff.1 hc.1.1
  | travelDeadlineExpiry d =>
    refine ⟨_, rfl, answers_of_leads (leads_guarded h fun hc => leads_setDoor h ?_)⟩
    simp only [Bool.and_eq_true] at hc
    exact operating_iff.1 hc.1.1
  | phaseDeadlineExpiry n =>
    exact ⟨_, rfl, answers_of_leads (leads_ifOperating h fun ho hdue =>
      leads_expirePhase h ho (isSome_of_due hdue))⟩
  | cycleDeadlineExpiry n =>
    exact ⟨_, rfl, answers_of_leads (leads_ifOperating h fun ho _ => leads_expireCycle h ho)⟩
  | resoundDeadlineExpiry n =>
    exact ⟨_, rfl, answers_of_leads (leads_ifOperating h fun ho _ => leads_resoundSiren h ho)⟩
  | pageProgramComplete success => exact ⟨_, rfl, answers_of_leads (leads_programComplete h)⟩
  | eraseComplete success => exact ⟨_, rfl, answers_of_leads (leads_eraseComplete h)⟩
  | serviceAreaWrite bytes => exact ⟨_, rfl, .leads (leadsOrResets_writeTransaction h)⟩
  | statusClear => exact ⟨_, rfl, .leads (leadsOrResets_writeTransaction h)⟩
  | nodeStatus part => exact ⟨_, rfl, .leads (leadsOrResets_giveCommand h)⟩
  | readPresence station => exact ⟨_, rfl, .leads (leadsOrResets_giveCommand h)⟩
  | readZone zone => exact ⟨_, rfl, .leads (leadsOrResets_giveCommand h)⟩
  | readChannel channel => exact ⟨_, rfl, .leads (leadsOrResets_giveCommand h)⟩
  | readValve valve => exact ⟨_, rfl, .leads (leadsOrResets_giveCommand h)⟩
  | readLogPosition => exact ⟨_, rfl, .leads (leadsOrResets_giveCommand h)⟩
  | readLog block page record => exact ⟨_, rfl, .leads (leadsOrResets_giveCommand h)⟩
  | flushLog => exact ⟨_, rfl, .leads (leadsOrResets_giveCommand h)⟩
  | clearProtection block => exact ⟨_, rfl, .leads (leadsOrResets_giveCommand h)⟩
  | readConfig offset => exact ⟨_, rfl, .leads (leadsOrResets_giveCommand h)⟩
  | writeConfig offset data => exact ⟨_, rfl, .leads (leadsOrResets_giveCommand h)⟩
  | configMemoryAnswer readBack =>
    exact ⟨_, rfl, answers_of_leads (leads_ite (leads_configUnanswered h) (leads_acceptAnswer h))⟩
  | nodeReset confirmation => exact ⟨_, rfl, .leads (leadsOrResets_giveCommand h)⟩
  | k2Release => exact ⟨_, rfl, answers_of_leads (leads_takeContact h)⟩

/-! ## Every step -/

/-- R1, R65: a millisecond. -/
theorem leads_passMillisecond (h : Leads (.arrival true) s₀ s) : Leads (.arrival true) s₀ (passMillisecond s) := by
  have hline : LineChange s (passLine (s.time + 1) s.rate s.line) := by
    unfold passLine
    split
    · exact .of_eq rfl rfl rfl rfl
    · exact .of_eq (by simp) (by simp) (by simp) (by simp)
  have hstay : LineChange s s.line := .of_eq rfl rfl rfl rfl
  unfold passMillisecond
  split
  case isTrue => exact h
  case isFalse =>
    have hpassed : Leads (.arrival true) s₀ { s with
        line := if s.handedOver then passLine (s.time + 1) s.rate s.line else s.line } :=
      leads_line h (by split <;> assumption)
    exact (hpassed.tail (.time _ (s.time + 1))).tail
      (.inputs _ { s.inputs with k1Hold := passHold (s.time + 1) s.inputs.k1Hold })

/-- No expiry of the node's own brings the end of the image's read. -/
theorem dueCommand_ne_imageReadEnd (s : State) : dueCommand s ≠ some .imageReadEnd := by
  intro hdue
  obtain ⟨⟨b, c⟩, hfind, rfl⟩ := Option.map_eq_some_iff.1 hdue
  have hmem := List.mem_of_find?_eq_some hfind
  have hcontact (i : Input) (active : Bool) : contactCommand i active ≠ .imageReadEnd := by
    cases i <;> simp only [contactCommand, ne_eq, reduceCtorEq, not_false_eq_true]
    split <;> simp
  simp [dueContacts, dueField, dueLine, dueSilences, dueZones, duePlant, hcontact] at hmem

/-- What the node does of itself answers a next state, to which the state before leads. -/
theorem idle_answers (s : State) : ∃ t, idle s = .next t ∧ LeadsOrResets s t := by
  unfold idle
  split
  case h_1 c hc =>
    obtain ⟨t, ht, hanswers⟩ := exec_answers c s
    refine ⟨t, ht, ?_⟩
    cases hanswers with
    | leads h => exact h
    | handsOver _ _ himage => exact absurd (himage ▸ hc) (dueCommand_ne_imageReadEnd s)
  case h_2 => exact ⟨_, rfl, .inl (leads_ite (leads_endByte .refl) (leads_passMillisecond .refl))⟩

/-- Every step answers a next state: what the state leads to, perhaps with the command at the front of the queue taken
off it. -/
theorem step_answers (s : State) :
    ∃ t, step s = .next t
      ∧ (LeadsOrResets s t
        ∨ ∃ c rest, s.pending = c :: rest ∧ Answers c { s with pending := rest } t) := by
  unfold step
  split
  case h_1 =>
    obtain ⟨t, ht, h⟩ := idle_answers s
    exact ⟨t, ht, .inl h⟩
  case h_2 c rest hpending =>
    obtain ⟨t, ht, h⟩ := exec_answers c { s with pending := rest }
    exact ⟨t, ht, .inr ⟨c, rest, hpending, h⟩⟩

end

end Sys2Proof.Machine
end

section
/-! PROOF. Every step keeps the laws of Safety.lean, each by the changes of its own components (O3, O6, O7, O9
to O17). -/
namespace Sys2Proof.Machine

/-! ## From changes to steps -/

/-- What every change, every reset and the hand-over keep, whatever commands wait, every step keeps. -/
theorem step_keeps {P : State → Prop} (hpending : ∀ s q, P s → P { s with pending := q })
    (hchange : ∀ s t, Change (.arrival true) s t → P s → P t) (hreset : ∀ k s, P s → P (beginReset k s))
    (hinstall : ∀ c s, s.startup.stage = some .image → P s → P (installSet c s))
    (s t : State) (hs : P s) (hstep : step s = .next t) : P t := by
  have hends {u v : State} (hu : P u) (h : LeadsOrResets u v) : P v := by
    obtain h | ⟨k, w, h, rfl⟩ := h
    · exact h.keeps hchange hu
    · exact hreset k w (h.keeps hchange hu)
  obtain ⟨t', ht', h⟩ := step_answers s
  obtain rfl : t' = t := by simpa [ht'] using hstep
  obtain h | ⟨c, rest, -, h⟩ := h
  · exact hends hs h
  · cases h with
    | leads h => exact hends (hpending s rest hs) h
    | handsOver set u _ _ hu _ hstage ht =>
      exact ht.keeps hchange (hinstall set u hstage (hu.keeps hchange (hpending s rest hs)))

section
variable {w : Scope} {s t : State}

/-! ## Memories, log and configuration -/

/-- R172: what a reset leaves of the array is in canonical form. -/
theorem cutLogOperation_wf (n : Nat) {g : LogSystem} (h : Memory.wf g.array) :
    Memory.wf (cutLogOperation n g).array := by
  unfold cutLogOperation
  split
  · exact (logKeeps_leaveProgram _ _ _ _ g).2 h
  · exact (logKeeps_leaveErase _ _ _ g).2 h
  · exact h

/-- R188: what a reset leaves of the configuration memory is in canonical form. -/
theorem cutConfigWrite_wf (n : Nat) (port : Port) {m : Memory} (h : Memory.wf m) :
    Memory.wf (cutConfigWrite n port m) := by
  unfold cutConfigWrite
  split
  · split
    · exact Memory.writeSome_wf h
    · exact h
  · exact h

/-- Settles O6: the configuration memory and the log array are only written and cleared, which keeps their form. -/
theorem stepKeepsMemoriesCanonical : Obligations.StepKeepsMemoriesCanonical := by
  refine step_keeps (fun _ _ hs => hs) (fun s t hchange hs => ?_) (fun k s hs => ?_) (fun c s _ hs => hs)
  · cases hchange with
    | log _ _ h => exact ⟨hs.1, h.2 hs.2⟩
    | configMemory _ _ h => exact ⟨h hs.1, hs.2⟩
    | _ => exact hs
  · exact ⟨cutConfigWrite_wf _ _ hs.1, cutLogOperation_wf _ hs.2⟩

/-- Settles O14: a record joins queue and buffer only where there is room. -/
theorem stepKeepsLogBounds : Obligations.StepKeepsLogBounds := by
  refine step_keeps (fun _ _ hs => hs) (fun s t hchange hs => ?_) (fun k s hs => ?_) (fun c s _ hs => hs)
  · cases hchange with
    | log _ _ h => exact h.1 hs
    | _ => exact hs
  · exact ⟨Nat.zero_le _, Nat.zero_le _, Nat.zero_le _⟩

/-- Settles O17: no change concerns the configuration set, which a reset discards and the hand-over brings. -/
theorem stepKeepsTheConfiguration : Obligations.StepKeepsTheConfiguration := by
  intro s t hstep
  have hends {u v : State} (h : LeadsOrResets u v) : v.config = u.config ∨ v.startup.state = .resetting := by
    obtain h | ⟨k, w, -, rfl⟩ := h
    · exact .inl h.config
    · exact .inr rfl
  obtain ⟨t', ht', h⟩ := step_answers s
  obtain rfl : t' = t := by simpa [ht'] using hstep
  obtain h | ⟨c, rest, hpending, h⟩ := h
  · exact (hends h).imp_right .inl
  · cases h with
    | leads h => exact (hends h).imp_right .inl
    | handsOver _ _ hc hs => exact .inr (.inr ⟨hs, by simp [hpending, hc]⟩)

/-- Settles O3: a command leads to its next state by changes that leave the waiting commands, as do a reset and the
hand-over. -/
theorem everyCommandAnswersAndKeepsTheQueue : Obligations.EveryCommandAnswersAndKeepsTheQueue := by
  intro c s
  obtain ⟨t, ht, h⟩ := exec_answers c s
  refine ⟨t, ht, ?_⟩
  cases h with
  | leads h =>
    obtain h | ⟨k, u, h, rfl⟩ := h
    · exact h.pending
    · exact h.pending
  | handsOver set u _ _ hu _ _ ht => exact ht.pending.trans hu.pending

/-! ## Zones, peers and flow -/

/-- R97: the records that the zone table starts with. -/
theorem startZone_levels (z : Nat) : levelCode (startZone z).latched ≤ levelCode (startZone z).view := le_refl _

/-- Settles O13: every record of the zone table is recounted with its latch below its view. -/
theorem stepKeepsViewsAboveLatches : Obligations.StepKeepsViewsAboveLatches := by
  refine step_keeps (fun _ _ hs => hs) (fun s t hchange hs => ?_) (fun k s hs => ?_) (fun c s _ hs => ?_)
  · cases hchange with
    | zones _ _ h => exact h hs
    | _ => exact hs
  · exact fun z hz => absurd hz (List.not_mem_nil)
  · intro z hz
    obtain ⟨n, -, rfl⟩ := List.mem_map.1 hz
    exact startZone_levels n

/-- R85: a presence entry right after reset. -/
theorem silenceLaw_reset : SilenceLaw State.reset := by
  intro p hp
  obtain rfl : p = Peer.reset := by
    have : p ∈ (Vector.replicate 32 Peer.reset).toList := hp
    simpa using this
  simp [Peer.reset]

/-- Settles O15: a frame sets state and deadline of its entry together, and so does the expiry. -/
theorem stepKeepsSilenceDeadlinesWithLive : Obligations.StepKeepsSilenceDeadlinesWithLive := by
  refine step_keeps (fun _ _ hs => hs) (fun s t hchange hs => ?_) (fun k s hs => silenceLaw_reset) (fun c s _ hs => hs)
  cases hchange with
  | peers _ _ h => exact h hs
  | _ => exact hs

/-- Settles O16: a good sample is one of at most 4094, and a full history drops its oldest. -/
theorem stepKeepsTheHistoryBound : Obligations.StepKeepsTheHistoryBound := by
  refine step_keeps (fun _ _ hs => hs) (fun s t hchange hs => ?_) (fun k s hs => ?_) (fun c s _ hs => hs)
  · cases hchange with
    | flow _ _ h => exact h hs
    | _ => exact hs
  · exact ⟨Nat.zero_le _, fun c hc => absurd hc List.not_mem_nil⟩

/-! ## Sirens -/

/-- Settles O10: a siren's output, pattern and phase change together. -/
theorem stepKeepsSirenOutputs : Obligations.StepKeepsSirenOutputs := by
  have hquiet : Siren.reset.outputLaw := by simp [Siren.reset, Siren.outputLaw]
  refine step_keeps (fun _ _ hs => hs) (fun s t hchange hs => ?_) (fun k s hs => ⟨hquiet, hquiet⟩)
    (fun c s _ hs => ⟨hquiet, hquiet⟩)
  cases hchange with
  | sirens _ _ _ h => exact h hs
  | _ => exact hs

/-! ## Start-up and the outputs -/

/-- Section 10: every change keeps the law of start-up. -/
theorem Change.startupLaw (h : Change w s t) (hs : StartupLaw s) : StartupLaw t := by
  obtain ⟨hstage, hecho⟩ := hs
  cases h with
  | startup _ x hst hsg he =>
    refine ⟨by simpa only [hst, hsg] using hstage, fun hsome => ?_⟩
    rw [hsg]
    exact (he hsome).elim hecho id
  | start _ x hres hst hsg he =>
    refine ⟨by simp [hst, hsg], fun hsome => ?_⟩
    have himage := hecho (he ▸ hsome)
    have := hstage.1 (by simp [himage])
    simp [hres] at this
  | scan _ x hstarting hst hsg he => exact ⟨by simp [hst, hsg, hstarting ⟨hstage, hecho⟩], by simp [he]⟩
  | fail _ x _ hst hsg he => exact ⟨by simp [hst, hsg], by simp [he]⟩
  | operate _ x f r hscan hst hsg he =>
    refine ⟨by simp [hst, hsg], fun hsome => ?_⟩
    simp [hscan] at hecho
    simp [he, hecho] at hsome
  | _ => exact ⟨hstage, hecho⟩

/-- Section 10: the law of start-up right after reset. -/
theorem startupLaw_reset (k : ResetKind) (s : State) : StartupLaw (beginReset k s) := by
  simp [StartupLaw, beginReset, Startup.reset]

/-- R177: the hand-over keeps the law of start-up. -/
theorem startupLaw_installSet {c : ConfigSet} (hs : s.startup.stage = some .image) (h : StartupLaw s) :
    StartupLaw (installSet c s) := by
  obtain ⟨hstage, hecho⟩ := h
  exact ⟨by simpa [installSet, hs] using hstage, fun _ => rfl⟩

/-- A change that comes outside OPERATING leaves it, but for the notice of OPERATING, or comes from OPERATING. -/
theorem operating_eq_false_of_stage {stage : Stage} (hs : s.startup.stage = some stage) (h : StartupLaw s) :
    s.operating = false := by
  simpa [State.operating] using not_operating_of_stage hs h

/-- Settles O7: an output is energized by the valves, the plant, the sirens and the relay, each in OPERATING alone. -/
theorem stepKeepsOutputsOffOutsideOperating : Obligations.StepKeepsOutputsOffOutsideOperating := by
  refine step_keeps (fun _ _ hs => hs) (fun s t hchange hs => ?_) (fun k s hs => ?_) (fun c s hstage hs => ?_)
  · have hstart := hchange.startupLaw hs.1
    refine ⟨hstart, fun hop => ?_⟩
    obtain ⟨hlaw, hoff⟩ := hs
    cases hchange with
    | valves _ _ h => exact (h ⟨hlaw, hoff⟩).2 hop
    | plant _ _ _ ho => simp [State.operating, ho] at hop
    | sirens _ _ ho => simp [State.operating, ho] at hop
    | faults _ _ ho => simp [State.operating, ho] at hop
    | startup _ x hst => exact hoff (by simpa [State.operating, hst] using hop)
    | start _ x hres => exact hoff (by simp [State.operating, hres])
    | scan _ x hstarting => exact hoff (by simp [State.operating, hstarting hlaw])
    | fail _ x hno => exact hoff (by simpa [State.operating] using hno hlaw)
    | operate _ x f r _ hst => simp [State.operating, hst] at hop
    | _ => exact hoff hop
  · exact ⟨startupLaw_reset k s, fun _ => ⟨rfl, rfl, rfl, rfl, rfl, rfl, rfl, rfl⟩⟩
  · refine ⟨startupLaw_installSet hstage hs.1, fun _ => ?_⟩
    obtain ⟨-, -, hfst, hsnd, hseq, -, -, hrelay⟩ := hs.2 (operating_eq_false_of_stage hstage hs.1)
    exact ⟨rfl, rfl, hfst, hsnd, hseq, rfl, rfl, hrelay⟩

/-- Settles O11: the relay is set with the summary, in OPERATING alone, and with the notice of OPERATING. -/
theorem stepKeepsTheRelayLaw : Obligations.StepKeepsTheRelayLaw := by
  refine step_keeps (fun _ _ hs => hs) (fun s t hchange hs => ?_) (fun k s hs => ?_) (fun c s hstage hs => ?_)
  · have hstart := hchange.startupLaw hs.1
    refine ⟨hstart, ?_⟩
    have hlaw := hs
    obtain ⟨hlaw', hrelay⟩ := hs
    cases hchange with
    | faults _ _ ho => simp [State.operating, ho]
    | startup _ x hst => simpa [State.operating, hst] using hrelay
    | start _ x hres hst => simpa [State.operating, hres, hst] using hrelay
    | scan _ x _ hst => simpa only [State.operating, hst] using hrelay
    | fail _ x hno hst =>
      have hnot : State.operating s = false := by simpa [State.operating] using hno hlaw'
      rw [hnot, Bool.false_and] at hrelay
      simpa [State.operating, hst] using hrelay
    | operate _ x f r _ hst _ _ hr => simpa [State.operating, hst] using hr hlaw
    | _ => exact hrelay
  · exact ⟨startupLaw_reset k s, rfl⟩
  · exact ⟨startupLaw_installSet hstage hs.1, hs.2⟩

/-! ## The line -/

/-- R70: every change keeps one frame a slot and the counts. -/
theorem Change.slotLaw (h : Change w s t) (hs : SlotLaw s) : SlotLaw t := by
  cases h with
  | line _ _ h => exact h.slots hs
  | fail _ => exact ⟨.nil, by simp, by simp, hs.2.2.2⟩
  | _ => exact hs

/-- R72: the law of RESTARTs, by the frames that are RESTARTs. -/
theorem restartLaw_iff : RestartLaw s ↔ StartupLaw s
    ∧ ((s.startup.state = .resetting ∨ s.startup.stage = some .image) → ∀ z, .restart z ∉ s.line.frames)
    ∧ ∀ z, .restart z ∈ s.line.frames → z = s.cfg.homeZone := by
  have hnone (fs : List OutFrame) : (∀ f ∈ fs, f.isRestart = false) ↔ ∀ z, .restart z ∉ fs := by
    refine ⟨fun h z hz => by simpa [OutFrame.isRestart] using h _ hz, fun h f hf => ?_⟩
    cases f with
    | restart z => exact absurd hf (h z)
    | _ => rfl
  have hnames (n : Nat) (fs : List OutFrame) :
      (∀ f ∈ fs, f.restartNames n = true) ↔ ∀ z, .restart z ∈ fs → z = n := by
    refine ⟨fun h z hz => by simpa [OutFrame.restartNames] using h _ hz, fun h f hf => ?_⟩
    cases f with
    | restart z => simpa [OutFrame.restartNames] using h z hf
    | _ => rfl
  rw [RestartLaw, hnone, hnames]

/-- R181: the frames of a line whose queue and holding stage have been emptied. -/
theorem mem_frames_of_emptied {l : Line} {f : OutFrame} (h : f ∈ { l with queue := [], holding := none }.frames) :
    f ∈ l.frames := by
  simp only [mem_frames, List.not_mem_nil, false_or, reduceCtorEq] at h ⊢
  exact .inr (.inr h)

/-- R72: every change keeps the law of RESTARTs. -/
theorem Change.restartLaw (h : Change w s t) (hs : RestartLaw s) : RestartLaw t := by
  rw [restartLaw_iff] at hs ⊢
  refine ⟨h.startupLaw hs.1, ?_⟩
  obtain ⟨hlaw, hnone, hnames⟩ := hs
  cases h with
  | line _ l h =>
    refine ⟨fun hearly z hz => ?_, fun z hz => ?_⟩
    · obtain hz | ⟨ho, -⟩ := h.restarts z hz
      · exact hnone hearly z hz
      · obtain hearly | hearly := hearly
        · exact absurd (hearly.symm.trans ho) (by decide)
        · exact not_operating_of_stage hearly hlaw ho
    · exact (h.restarts z hz).elim (hnames z) And.right
  | startup _ x hst hsg => exact ⟨by simpa only [hst, hsg] using hnone, hnames⟩
  | start _ x hres => exact ⟨fun _ => hnone (.inl hres), hnames⟩
  | scan _ x hstarting hst hsg => exact ⟨by simp [hst, hsg, hstarting hlaw], hnames⟩
  | fail _ x _ hst hsg => exact ⟨by simp [hst, hsg], fun z hz => hnames z (mem_frames_of_emptied hz)⟩
  | operate _ x f r _ hst hsg => exact ⟨by simp [hst, hsg], hnames⟩
  | _ => exact ⟨hnone, hnames⟩

/-- R72: the hand-over keeps the law of RESTARTs: there is none before it. -/
theorem restartLaw_installSet {c : ConfigSet} (hstage : s.startup.stage = some .image) (hs : RestartLaw s) :
    RestartLaw (installSet c s) := by
  rw [restartLaw_iff] at hs ⊢
  obtain ⟨hlaw, hnone, -⟩ := hs
  exact ⟨startupLaw_installSet hstage hlaw, fun _ => hnone (.inr hstage),
    fun z hz => absurd hz (hnone (.inr hstage) z)⟩

/-- R73, R85: every change keeps the law of a failed start-up's line. -/
theorem Change.failedLineLaw (h : Change w s t) (hs : FailedLineLaw s) : FailedLineLaw t := by
  have hstart := h.startupLaw hs.1
  have hkept := hs
  obtain ⟨hlaw, hpresence, hempty⟩ := hs
  cases h with
  | line _ l h => exact h.failed hkept
  | startup _ x hst =>
    exact ⟨hstart, by simpa only [State.operating, hst] using hpresence, by simpa only [hst] using hempty⟩
  | start _ x hres hst => exact ⟨hstart, fun _ => hpresence (by simp [State.operating, hres]), by simp [hst]⟩
  | scan _ x _ hst =>
    exact ⟨hstart, by simpa only [State.operating, hst] using hpresence, by simpa only [hst] using hempty⟩
  | fail _ x hno =>
    exact ⟨hstart, fun _ => hpresence (by simpa [State.operating] using hno hlaw), fun _ => ⟨rfl, rfl⟩⟩
  | operate _ x f r _ hst => exact ⟨hstart, by simp [State.operating, hst], by simp [hst]⟩
  | _ => exact ⟨hstart, hpresence, hempty⟩

/-- R73, R85: the hand-over keeps the law of a failed start-up's line. -/
theorem failedLineLaw_installSet {c : ConfigSet} (hstage : s.startup.stage = some .image) (hs : FailedLineLaw s) :
    FailedLineLaw (installSet c s) :=
  ⟨startupLaw_installSet hstage hs.1, hs.2⟩

/-- Settles O12: hand-overs and returns keep one frame a slot, of which there are seven; a RESTART of the home zone
alone is handed over, in operation; and a failure empties queue and holding stage, to which no frame then returns. -/
theorem stepKeepsSlotsAndQueueBound : Obligations.StepKeepsSlotsAndQueueBound := by
  refine ⟨?_, fun s hs => length_le_of_pairwise hs.1, ?_, ?_⟩
  · exact step_keeps (fun _ _ hs => hs) (fun _ _ hchange hs => hchange.slotLaw hs)
      (fun _ _ _ => ⟨.nil, fun _ hf => absurd hf List.not_mem_nil, fun _ hf => absurd hf (Option.not_mem_none _),
        fun _ hd => absurd hd (Option.not_mem_none _)⟩) (fun _ _ _ hs => hs)
  · refine step_keeps (fun _ _ hs => hs) (fun _ _ hchange hs => hchange.restartLaw hs) (fun k s _ => ?_)
      (fun _ _ hstage hs => restartLaw_installSet hstage hs)
    exact ⟨startupLaw_reset k s, fun _ f hf => absurd hf List.not_mem_nil, fun f hf => absurd hf List.not_mem_nil⟩
  · exact step_keeps (fun _ _ hs => hs) (fun _ _ hchange hs => hchange.failedLineLaw hs)
      (fun k s _ => ⟨startupLaw_reset k s, fun _ => rfl, fun _ => ⟨rfl, rfl⟩⟩)
      (fun _ _ hstage hs => failedLineLaw_installSet hstage hs)

/-! ## The plant -/

/-- Section 6.2: in HALTED every output of the sequencer is de-energized. -/
theorem seqOutputs_halted (roles : Roles) (feedHold : Bool) :
    seqOutputs roles .halted feedHold = ⟨false, false, false, false⟩ := by
  change (⟨roles.feed && decide (SeqState.halted = .running) && !feedHold, roles.abort && false, roles.fan && false,
    roles.damper && false⟩ : SeqOutputs) = _
  simp

/-- Section 6.2: FEED is energized in RUNNING alone, and not while FEED_HOLD stands. -/
theorem feed_seqOutputs (roles : Roles) (st : SeqState) (feedHold : Bool) :
    (seqOutputs roles st feedHold).feed = (roles.feed && decide (st = .running) && !feedHold) := rfl

/-- R131, R145: every change keeps sequencer and doors at rest outside OPERATING. -/
theorem Change.restLaw (h : Change w s t) (hlaw : StartupLaw s) (hs : RestLaw s) : RestLaw t := by
  intro hop
  cases h with
  | plant _ _ _ ho => simp [State.operating, ho] at hop
  | startup _ x hst => exact hs (by simpa [State.operating, hst] using hop)
  | start _ x hres => exact hs (by simp [State.operating, hres])
  | scan _ x hstarting => exact hs (by simp [State.operating, hstarting hlaw])
  | fail _ x hno => exact hs (by simpa [State.operating] using hno hlaw)
  | operate _ x f r _ hst => simp [State.operating, hst] at hop
  | _ => exact hs hop

/-- R111, R129, R143: every change keeps the law of outputs, feed hold and demands. -/
theorem Change.plantLaw (h : Change w s t) (hs : PlantLaw s) : PlantLaw t := by
  cases h with
  | plant _ _ _ _ h => exact h hs
  | _ => exact hs

/-- R129: the hand-over finds sequencer and doors at rest, where roles and doors of every set agree with the law. -/
theorem feedLaw_installSet {c : ConfigSet} (hstage : s.startup.stage = some .image) (hs : FeedLaw s) :
    FeedLaw (installSet c s) := by
  obtain ⟨hlaw, htable, ⟨htimer, hhold⟩, ⟨hfst, hsnd, hdemands⟩, hrest⟩ := hs
  have hatRest := hrest (operating_eq_false_of_stage hstage hlaw)
  obtain ⟨hst, hdoor0, hdoor1⟩ := hatRest
  have hdemand (k : DoorConfig) : (k.feedHold && demandState .off) = false := by simp [demandState]
  have hkept : (installSet c s).sequencer = s.sequencer ∧ (installSet c s).doors = s.doors := ⟨rfl, rfl⟩
  refine ⟨startupLaw_installSet hstage hlaw, ?_, ⟨htimer, ?_⟩, ⟨?_, ?_, hdemands⟩, fun _ => ⟨hst, hdoor0, hdoor1⟩⟩
  · rw [OutputTableLaw, hkept.1, htable, hst, seqOutputs_halted, seqOutputs_halted]
  · rw [hst] at hhold
    simpa [hkept, hst] using hhold
  · rw [hdoor0, hdemand] at hfst
    rw [hkept.2, hdoor0, hdemand, hfst]
  · rw [hdoor1, hdemand] at hsnd
    rw [hkept.2, hdoor1, hdemand, hsnd]

/-- R129: where a feed-hold door is outside HELD and OFF, a demand stands. -/
theorem demandStands_of_door {d : Fin 2} (h : DemandLaw s) (hfeed : (s.cfg.doors.get d).feedHold = true)
    (hheld : (s.doors.get d).state ≠ .held) (hoff : (s.doors.get d).state ≠ .off) : s.demandStands = true := by
  have hdemand : demandState (s.doors.get d).state = true := by
    cases hst : (s.doors.get d).state <;> simp_all [demandState]
  have hstanding : s.sequencer.demands.get d = true := by
    rw [h.get]
    fin_cases d
    · exact h.1.trans (Bool.and_eq_true_iff.2 ⟨hfeed, hdemand⟩)
    · exact h.2.1.trans (Bool.and_eq_true_iff.2 ⟨hfeed, hdemand⟩)
  fin_cases d <;> simp_all [State.demandStands, Pair.any, Pair.get]

/-- Settles O9: sequencer and doors change in operation, and together where a demand comes or goes; FEED is then off in
RUNNING because FEED_HOLD stands, and off in every other state. -/
theorem stepKeepsTheFeedLaw : Obligations.StepKeepsTheFeedLaw := by
  refine ⟨step_keeps (fun _ _ hs => hs) (fun s t hchange hs => ?_) (fun k s _ => ?_)
    (fun _ _ hstage hs => feedLaw_installSet hstage hs), ?_⟩
  · obtain ⟨hlaw, htable, hhold, hdemand, hrest⟩ := hs
    obtain ⟨htable', hhold', hdemand'⟩ := hchange.plantLaw ⟨htable, hhold, hdemand⟩
    exact ⟨hchange.startupLaw hlaw, htable', hhold', hdemand', hchange.restLaw hlaw hrest⟩
  · exact ⟨startupLaw_reset k s, (seqOutputs_halted _ _).symm, ⟨by simp [beginReset, State.reset, Sequencer.reset],
    rfl⟩,
      ⟨by simp [beginReset, State.reset, Door.reset, demandState], by simp [beginReset, State.reset, Door.reset,
        demandState], rfl⟩,
      fun _ => ⟨rfl, rfl, rfl⟩⟩
  · rintro s d ⟨-, htable, ⟨-, hhold⟩, hdemand, -⟩ hfeed hheld hoff
    have hstands := demandStands_of_door hdemand hfeed hheld hoff
    rw [htable, feed_seqOutputs, hhold, hstands]
    cases s.cfg.roles.feed <;> cases decide (s.sequencer.state = .running) <;> rfl

end

end Sys2Proof.Machine
end

section
/-! PROOF. The step's front, the state right after reset, and what the node does of itself (O1, O2, O4, O5). -/
namespace Sys2Proof.Machine

/-- Settles O1: the step takes the front of the queue by its own equation. -/
theorem stepRunsTheFrontCommand : Obligations.StepRunsTheFrontCommand := by
  intro c rest s
  rfl

/-- Settles O4: each part of the reset state is its block's own reset value. -/
theorem resetHoldsTheStatedValues : Obligations.ResetHoldsTheStatedValues := by
  refine ⟨rfl, rfl, rfl, rfl, ⟨rfl, rfl, rfl, rfl, rfl, rfl, rfl, rfl⟩, ?_, rfl, rfl, ?_, rfl, rfl, rfl, rfl, rfl, rfl,
    rfl,
    rfl, rfl, rfl, rfl, rfl, rfl, rfl, rfl, rfl, ?_, rfl, rfl, rfl, rfl, rfl, rfl, rfl, rfl, rfl, rfl, ?_, ?_, rfl, rfl,
      rfl,
    rfl, rfl, rfl, rfl, ?_, rfl⟩
  · exact fun ch => by fin_cases ch <;> rfl
  · exact fun v => by fin_cases v <;> rfl
  · exact fun n => by simp [State.reset, Peer.reset]
  · exact fun d => by fin_cases d <;> rfl
  · exact fun i => by fin_cases i <;> rfl
  · exact fun b => by simp [State.reset, LogStore.reset, BlockEntry.blank]

/-- Settles O5: the reset state is at rest, with empty queues, memories and tables. -/
theorem lawsHoldAtReset : Obligations.LawsHoldAtReset := by
  have hstart : StartupLaw State.reset := by simp [StartupLaw, State.reset, Startup.reset]
  have hquiet : Siren.reset.outputLaw := by simp [Siren.reset, Siren.outputLaw]
  have hempty : ∀ f ∈ State.reset.line.frames, False := fun f hf => absurd hf List.not_mem_nil
  have hblank : Memory.wf [] := ⟨.nil, fun c hc => absurd hc List.not_mem_nil⟩
  refine ⟨⟨hblank, hblank⟩, ⟨hstart, fun _ => ⟨rfl, rfl, rfl, rfl, rfl, rfl, rfl, rfl⟩⟩, ⟨rfl, rfl⟩, ?_,
    ⟨hquiet, hquiet⟩, ⟨hstart, rfl⟩, ⟨.nil, ?_, ?_, ?_⟩, ?_, ⟨Nat.zero_le _, Nat.zero_le _, Nat.zero_le _⟩,
    silenceLaw_reset, ⟨Nat.zero_le _, fun c hc => absurd hc List.not_mem_nil⟩,
    ⟨hstart, fun _ f hf => (hempty f hf).elim, fun f hf => (hempty f hf).elim⟩, fun _ _ => rfl,
    ⟨hstart, fun _ => rfl, fun _ => ⟨rfl, rfl⟩⟩⟩
  · have hdemand (k : DoorConfig) : Door.reset.demand = (k.feedHold && demandState Door.reset.state) := by
      simp [Door.reset, demandState]
    exact ⟨hstart, (seqOutputs_halted _ _).symm, ⟨fun h => absurd h Bool.false_ne_true, rfl⟩,
      ⟨hdemand _, hdemand _, rfl⟩, fun _ => ⟨rfl, rfl, rfl⟩⟩
  · exact fun f hf => absurd hf List.not_mem_nil
  · exact fun f hf => absurd hf (Option.not_mem_none _)
  · exact fun d hd => absurd hd (Option.not_mem_none _)
  · exact fun z hz => absurd hz List.not_mem_nil

/-! ## What the node does of itself (logs 1, 12, 20, 43) -/

section
variable {s : State}

/-- With no command waiting, the step is what the node does of itself. -/
theorem step_idle (hp : s.pending = []) : step s = idle s := by
  unfold step
  rw [hp]

/-- With nothing due, the byte on the line ends. -/
theorem step_endByte (hp : s.pending = []) (hd : dueCommand s = none) (he : s.byteEnds = true) :
    step s = .next (endByte s) := by
  rw [step_idle hp, idle, hd]
  simp [he]

/-- With nothing due and no byte that ends, a millisecond passes. -/
theorem step_passMillisecond (hp : s.pending = []) (hd : dueCommand s = none) (he : s.byteEnds = false) :
    step s = .next (passMillisecond s) := by
  rw [step_idle hp, idle, hd]
  simp [he]

/-- R66: a byte with a good stop bit that leaves the frame unfinished joins it. -/
theorem endFrameByte_unfinished {bytes : List Byte} {stop : StopBit} (h : Unfinished bytes)
    (hstop : stopGood stop = true) (whole : FrameKind → List Byte → State → State) (start : Instant) (s : State) :
    endFrameByte whole start bytes stop s = joinByte start bytes stop s := by
  unfold endFrameByte
  rw [if_pos hstop]
  obtain rfl | ⟨hlen, hkind⟩ := h
  · rfl
  · match bytes, hlen with
    | sync :: kind :: rest, _ =>
      simp only [List.getD_cons_succ, List.getD_cons_zero] at hkind
      obtain ⟨rfl, hlt⟩ | ⟨rfl, hlt⟩ | ⟨rfl, hlt⟩ | ⟨rfl, hlt⟩ := hkind
      all_goals exact if_neg (Nat.not_le.2 hlt)

/-- R65: the activity of a line on which a byte has ended. -/
theorem lineRests_iff (stop : StopBit) :
    (if lineRests stop then Activity.mark else .busy) = if stop = .mark ∨ stop = .space then .mark else .busy := by
  cases stop <;> rfl

/-- R65: a good stop bit, and whether the line rests after it. -/
theorem rests_of_good {stop : StopBit} (h : stop = .mark ∨ stop = .followed) :
    stopGood stop = true
      ∧ (if lineRests stop then Activity.mark else .busy) = if stop = .mark then .mark else .busy := by
  obtain rfl | rfl := h <;> exact ⟨rfl, rfl⟩

/-- R1, R65: a millisecond with the line as it is then. -/
theorem passMillisecond_of_running (hr : s.startup.state ≠ .resetting) :
    passMillisecond s = { s with
      time := s.time + 1
      inputs := { s.inputs with k1Hold := passHold (s.time + 1) s.inputs.k1Hold }
      line := if s.handedOver then passLine (s.time + 1) s.rate s.line else s.line } := by
  rw [passMillisecond, if_neg hr]

/-- R65: the line at mark a millisecond later. -/
theorem passLine_mark {l : Line} (h : l.activity = .mark) (now : Instant) (rate : Nat) :
    passLine now rate l = countOn rate l := by
  simp [passLine, Line.counting, h]

/-- R66: the line on which the node drives a frame, a millisecond later. -/
theorem passLine_own {l : Line} {d : DrivenFrame} (h : l.activity = .own) (hd : l.shift = some d) (now : Instant)
    (rate : Nat) :
    passLine now rate l = { l with receiver := l.receiver.readFirst (d.readBack now rate) d.bytes } := by
  simp [passLine, Line.counting, h, readOwn_own h hd]

/-- A line on which neither the quiet count runs nor the node drives a frame, a millisecond later. -/
theorem passLine_else {l : Line} (hmark : l.activity ≠ .mark) (hown : l.activity ≠ .own ∨ l.shift = none)
    (now : Instant) (rate : Nat) : passLine now rate l = l := by
  have hread : readOwn now rate l = l := hown.elim (readOwn_of_not_own · now rate) (readOwn_of_empty · now rate)
  simp [passLine, Line.counting, hmark, hread]

/-- R65: a millisecond changes of the line its quiet count, its stuck watch and its receiver at most. -/
theorem passLine_frame (l : Line) (now : Instant) (rate : Nat) :
    passLine now rate l = { l with
      quiet := (passLine now rate l).quiet, quietPart := (passLine now rate l).quietPart
      stuckWatch := (passLine now rate l).stuckWatch, receiver := (passLine now rate l).receiver } := by
  by_cases hmark : l.activity = .mark
  · simp [passLine_mark hmark, countOn, setQuiet, hmark]
  · obtain hs | ⟨d, hs⟩ := Option.eq_none_or_eq_some l.shift
    · rw [passLine_else hmark (.inr hs)]
    · by_cases hown : l.activity = .own
      · rw [passLine_own hown hs]
      · rw [passLine_else hmark (.inl hown)]

end

/-- Settles O2: the cases of the step on an empty queue, each with the byte that ends or the millisecond that passes. -/
theorem idleTakesTheDueExpiryOrOneMillisecond : Obligations.IdleTakesTheDueExpiryOrOneMillisecond := by
  refine ⟨fun s c hp hd => ?_, fun s hp hd he => step_endByte hp hd he, fun s data stop hp hd ha hr => ?_,
    fun s start bytes data stop hp hd ha hr hstop hu => ?_, fun s data hp hd ha hr => ?_,
    fun s start bytes data hp hd ha hr hu => ?_, fun s hp hd he hs => ?_, fun s hp hd he hs => ?_⟩
  · rw [step_idle hp, idle, hd]
  · rw [step_endByte hp hd (by simp [State.byteEnds, ha])]
    simp only [endByte, ha, endOtherByte, hr, byteOver, lineRests_iff]
  · obtain ⟨hgood, hrests⟩ := rests_of_good hstop
    rw [step_endByte hp hd (by simp [State.byteEnds, ha])]
    simp only [endByte, ha, endOtherByte, hr, endFrameByte_unfinished hu hgood, joinByte, byteOver, hrests]
  · rw [step_endByte hp hd (by simp [State.byteEnds, ha])]
    simp [endByte, ha, endOwnByte, hr, byteOver]
  · rw [step_endByte hp hd (by simp [State.byteEnds, ha])]
    simp only [endByte, ha, endOwnByte, hr, endFrameByte_unfinished (stop := .mark) hu rfl, joinByte, byteOver]
    rfl
  · rw [step_passMillisecond hp hd he, passMillisecond, if_pos hs]
  · refine ⟨_, step_passMillisecond hp hd he, ?_⟩
    rw [passMillisecond_of_running hs]
    refine ⟨fun hh ha => ?_, fun hh ha d hd => ?_, ?_, ?_⟩
    · simp [hh, passLine_mark ha, countOn, setQuiet, watchAt]
    · simp only [hh, if_true, passLine_own ha hd]
      refine ⟨trivial, fun hr => ?_, fun start bytes hr => ?_⟩
      · rw [hr]; rfl
      · rw [hr]; rfl
    · rintro (hh | ⟨hmark, hown⟩)
      · simp [hh]
      · simp [passLine_else hmark hown]
    · dsimp only
      split
      · rw [← passLine_frame]
      · rfl

end Sys2Proof.Machine
end

section
/-! PROOF. The taking of a command at a ready port, and what a reset leaves (O18). -/
namespace Sys2Proof.Machine

/-! ## Bytes at rising addresses -/

/-- Writing some of the bytes leaves every byte outside them as it was. -/
theorem Memory.read_writeSome_other {which : Nat → Bool} {i a x : Nat} {bs : List Byte} {m : Memory}
    (hx : x < a ∨ a + bs.length ≤ x) : Memory.read (Memory.writeSome which i a bs m) x = Memory.read m x := by
  induction bs generalizing i a m with
  | nil => rfl
  | cons b t ih =>
    simp only [List.length_cons] at hx
    simp only [Memory.writeSome]
    rw [ih (by omega)]
    split
    · exact Memory.read_write_other (by omega)
    · rfl

/-- R192: a record has sixteen bytes. -/
@[simp] theorem length_recordBytes (r : Record) : (recordBytes r).length = 16 := by
  simp [recordBytes, bytes2, bytes4]

/-- R164: the bytes of the records that a program writes. -/
@[simp] theorem length_flatten_recordBytes (rs : List Record) :
    ((rs.map recordBytes).flatten).length = 16 * rs.length := by
  induction rs with
  | nil => rfl
  | cons r t ih => simp only [List.map_cons, List.flatten_cons, List.length_append, length_recordBytes, ih,
      List.length_cons]; omega

/-! ## Operations that a reset cuts off (R172, R188) -/

section
variable {s t : State}

/-- R172: a program that is cut off. -/
theorem cutLogOperation_programming {n : Nat} {g : LogSystem} {b p : Fin 16} (hs : g.store.state = .programming)
    (hp : g.store.position = some (b, p)) :
    cutLogOperation n g = leaveProgram (Config.cutProgramByte n) (Config.cutProgramMark n) b p g := by
  unfold cutLogOperation
  rw [hs, hp]

/-- R172: an erase that is cut off. -/
theorem cutLogOperation_erasing {n : Nat} {g : LogSystem} {b p : Fin 16} (hs : g.store.state = .erasing)
    (hp : g.store.position = some (b, p)) :
    cutLogOperation n g = leaveErase (Config.cutEraseByte n) (Config.cutEraseCount n) b g := by
  unfold cutLogOperation
  rw [hs, hp]

/-- R172: nothing is cut off where neither a program nor an erase runs. -/
theorem cutLogOperation_else {n : Nat} {g : LogSystem}
    (h : g.store.position = none ∨ g.store.state ≠ .programming ∧ g.store.state ≠ .erasing) :
    cutLogOperation n g = g := by
  unfold cutLogOperation
  split
  case h_1 hs hp => exact absurd h (by simp [hs, hp])
  case h_2 hs hp => exact absurd h (by simp [hs, hp])
  case h_3 => rfl

/-- R172: what a program that was not completed may change of the headers. -/
theorem headers_leaveProgram (which : Nat → Bool) (mark : Bool) (b p : Fin 16) (g : LogSystem) :
    (∀ k : Fin 16, k ≠ b → (leaveProgram which mark b p g).headers[k] = g.headers[k])
      ∧ (leaveProgram which mark b p g).headers[b]
        = { g.headers[b] with isProtected := (leaveProgram which mark b p g).headers[b].isProtected }
      ∧ (g.headers[b].isProtected = true → (leaveProgram which mark b p g).headers[b].isProtected = true)
      ∧ (g.store.unprogrammed.any (fun r => decide (r.context = .fire)) = false →
          (leaveProgram which mark b p g).headers = g.headers) := by
  unfold leaveProgram
  dsimp only
  split
  case isTrue hfire =>
    refine ⟨fun k hk => ?_, by simp, by simp, fun hnone => by simp [hnone] at hfire⟩
    simp [Fin.val_inj, hk.symm]
  case isFalse => exact ⟨fun _ _ => rfl, rfl, id, fun _ => rfl⟩

/-- R172: what an erase that was not completed may change of the headers. -/
theorem headers_leaveErase (bytes counts : Nat → Bool) (b : Fin 16) (g : LogSystem) :
    (∀ k : Fin 16, k ≠ b → (leaveErase bytes counts b g).headers[k] = g.headers[k])
      ∧ (leaveErase bytes counts b g).headers[b]
        = { g.headers[b] with counts := (leaveErase bytes counts b g).headers[b].counts }
      ∧ ∀ q : Fin 16, (leaveErase bytes counts b g).headers[b].counts[q] = g.headers[b].counts[q]
          ∨ (leaveErase bytes counts b g).headers[b].counts[q] = 0 := by
  refine ⟨fun k hk => ?_, by simp [leaveErase], fun q => ?_⟩
  · simp [leaveErase, Fin.val_inj, hk.symm]
  · have hcount : (leaveErase bytes counts b g).headers[b].counts[q]
        = if counts pageNumbers[q] then 0 else g.headers[b].counts[q] := by simp [leaveErase]
    rw [hcount]
    split
    · exact .inr rfl
    · exact .inl rfl

/-- R172: a reset changes of the array what a cut-off operation may. -/
theorem arrayCutOff_of_cut {n : Nat} (hh : t.log.headers = (cutLogOperation n s.log).headers)
    (ha : t.log.array = (cutLogOperation n s.log).array) : ArrayCutOff s t := by
  rw [ArrayCutOff, hh, ha]
  refine ⟨fun b p hs hp => ?_, fun b p hs hp => ?_, fun h => ?_⟩
  · rw [cutLogOperation_programming hs hp]
    refine ⟨fun a hout => ?_, headers_leaveProgram _ _ b p s.log⟩
    exact Memory.read_writeSome_other (by rwa [length_flatten_recordBytes])
  · rw [cutLogOperation_erasing hs hp]
    refine ⟨fun a hout => ?_, headers_leaveErase _ _ b s.log⟩
    simpa only [leaveErase] using Memory.read_clearSome_other hout
  · rw [cutLogOperation_else h]
    exact ⟨rfl, rfl⟩

/-- R188: only a WRITE_CONFIG that waits on the memory is cut off. -/
theorem cutConfigWrite_else {n : Nat} {port : Port} {m : Memory}
    (h : ∀ params, port ≠ .executing 0x0B params .configMemory) : cutConfigWrite n port m = m := by
  unfold cutConfigWrite
  split
  case h_1 command params =>
    exact if_neg fun hc => h params (by rw [hc])
  case h_2 => rfl

/-- R173, R188: a reset changes of the configuration memory what a cut-off write may. -/
theorem configCutOff_of_cut {n : Nat} (h : t.configMemory = cutConfigWrite n s.service.port s.configMemory) :
    ConfigCutOff s t := by
  rw [ConfigCutOff, h]
  refine ⟨fun params hport a hout => ?_, fun hport => cutConfigWrite_else hport⟩
  rw [hport]
  exact Memory.read_writeSome_other hout

/-! ## Commands at a ready port (R183 to R185) -/

/-- R184, R193: the eight parameter bytes of a command given with some of them. -/
def padParams (params : List Byte) : List Byte := params ++ List.replicate (8 - params.length) 0

/-- R184: the state in which a given command has been taken. -/
def State.taken (s : State) (params : List Byte) : State :=
  { s with service := { s.service with command := 0, params := padParams params } }

/-- R184: a command that is given to a ready port is taken and judged. -/
theorem giveCommand_ready (h : s.portReady) {c : Byte} (hc : c ≠ 0) (params : List Byte) :
    giveCommand c params s = judgeCommand c (padParams params) (s.taken params) := by
  obtain ⟨hawake, hport, hstatus⟩ := h
  have hportAwake : s.portAwake = true := by simpa [State.portAwake] using hawake
  rw [giveCommand, if_pos hportAwake]
  exact if_pos ⟨hport, hc, hstatus⟩

/-- R185: the exchange area after a command that was taken and completed. -/
theorem complete_taken (s : State) (params : List Byte) (status : Byte) (reply : List Byte) :
    complete status reply (s.taken params)
      = { s with service := s.service.completed (padParams params) status reply } := rfl

/-- R185: a command that needs K1 is refused without it. -/
theorem giveCommand_keyRequired (h : s.portReady) {c : Byte} (hc : c ≠ 0) (hknown : knownCommand c = true)
    (hneeds : needsKey c = true) (hkey : s.portKey = false) (params : List Byte) :
    giveCommand c params s
      = { s with service := s.service.completed (padParams params) statusKeyRequired [] } := by
  have hrefused : (needsKey c && !(s.taken params).portKey) = true := by
    rw [hneeds, show (s.taken params).portKey = false from hkey]
    rfl
  rw [giveCommand_ready h hc, judgeCommand, if_neg (by simp [hknown]), if_pos hrefused, complete_taken]

/-- R185: a command that passes the test of K1 is judged by its parameters. -/
theorem giveCommand_allowed (h : s.portReady) {c : Byte} (hc : c ≠ 0) (hknown : knownCommand c = true)
    (hkey : needsKey c = true → s.portKey = true) (params : List Byte) :
    giveCommand c params s
      = if !paramsGood c (padParams params) s then
          { s with service := s.service.completed (padParams params) statusBadParam [] }
        else carryOut c (padParams params) (s.taken params) := by
  have hallowed : ¬ (needsKey c && !(s.taken params).portKey) = true := by
    rw [show (s.taken params).portKey = s.portKey from rfl]
    cases hneeds : needsKey c
    · simp
    · simp [hkey hneeds]
  rw [giveCommand_ready h hc, judgeCommand, if_neg (by simp [hknown]), if_neg hallowed, complete_taken]
  rfl

/-- R185: a command with a bad parameter is refused. -/
theorem giveCommand_badParam (h : s.portReady) {c : Byte} (hc : c ≠ 0) (hknown : knownCommand c = true)
    (hkey : needsKey c = true → s.portKey = true) {params : List Byte}
    (hbad : paramsGood c (padParams params) s = false) :
    giveCommand c params s
      = { s with service := s.service.completed (padParams params) statusBadParam [] } := by
  rw [giveCommand_allowed h hc hknown hkey, if_pos (by simp [hbad])]

/-- R185: a command that passes its tests is carried out. -/
theorem giveCommand_good (h : s.portReady) {c : Byte} (hc : c ≠ 0) (hknown : knownCommand c = true)
    (hkey : needsKey c = true → s.portKey = true) {params : List Byte}
    (hgood : paramsGood c (padParams params) s = true) :
    giveCommand c params s = carryOut c (padParams params) (s.taken params) := by
  rw [giveCommand_allowed h hc hknown hkey, if_neg (by simp [hgood])]

/-! ## Resets (R173, R189) -/

/-- R173: a reset out of another state than RESETTING. -/
theorem exec_resetBegin (kind : ResetKind) (hs : s.startup.state ≠ .resetting) :
    exec (.resetBegin kind) s = .next (beginReset kind s) :=
  congrArg Host.Outcome.next (if_neg hs)

/-- R189: NODE_RESET at a ready port with K1. -/
theorem exec_nodeReset (h : s.portReady) (hkey : s.portKey = true) (b : Byte) :
    exec (.nodeReset b) s
      = .next (if b = 0xA5 then
          beginReset .service { s with service := { s.service with
            command := 0, params := [b, 0, 0, 0, 0, 0, 0, 0] } }
        else { s with service := s.service.completed [b, 0, 0, 0, 0, 0, 0, 0] statusBadParam [] }) := by
  refine congrArg Host.Outcome.next ?_
  by_cases hb : b = 0xA5
  · rw [if_pos hb, giveCommand_good h (by decide) rfl (fun _ => hkey) (by simp [paramsGood, paramByte, padParams, hb])]
    exact if_neg h.1
  · have hbyte : b.toNat ≠ 0xA5 := fun heq => hb (BitVec.eq_of_toNat_eq heq)
    rw [if_neg hb, giveCommand_badParam h (by decide) rfl (fun _ => hkey)
      (by simpa [paramsGood, paramByte, padParams] using hbyte)]
    rfl

end

/-- Settles O18: every block's own reset value, but for the raw inputs, the waiting commands and the two memories, in
which a cut-off operation alone leaves its bytes. -/
theorem resetsTakeEveryBlock : Obligations.ResetsTakeEveryBlock := by
  refine ⟨fun kind s hs hprogram herase hport => ?_, fun kind s hs => ?_, fun s hs => ?_, fun s hready hkey => ?_,
    fun b s hready hkey hb => ?_, fun b s hready hkey => ?_⟩
  · refine ⟨_, exec_resetBegin kind hs, ?_⟩
    unfold beginReset
    rw [cutLogOperation_else (.inr ⟨hprogram, herase⟩), hport]
    rfl
  · exact ⟨_, exec_resetBegin kind hs, rfl, ⟨rfl, rfl, rfl, rfl, rfl, rfl, rfl, rfl⟩, rfl, rfl, rfl,
      arrayCutOff_of_cut rfl rfl, configCutOff_of_cut rfl, rfl⟩
  · have hprolong (kind : ResetKind) : exec (.resetBegin kind) s = .next (prolongReset kind s) :=
      congrArg Host.Outcome.next (if_pos hs)
    exact ⟨hprolong .power, hprolong .pin, hprolong .service⟩
  · refine ⟨_, (exec_nodeReset hready hkey 0xA5).trans (congrArg _ (if_pos rfl)), rfl,
      ⟨rfl, rfl, rfl, rfl, rfl, rfl, rfl, rfl⟩, rfl, rfl, rfl, rfl, arrayCutOff_of_cut rfl rfl, ?_⟩
    unfold beginReset
    dsimp only
    rw [cutConfigWrite_else (by simp [hready.2.1])]
    rfl
  · exact (exec_nodeReset hready hkey b).trans (congrArg _ (if_neg hb))
  · exact congrArg Host.Outcome.next (giveCommand_keyRequired hready (by decide) rfl rfl hkey [b])

end Sys2Proof.Machine
end

section
/-! PROOF. What the posting of an event does to the account of records (R158 to R162), what the log shows of the first
record posted, and the settlement of O54. -/
namespace Sys2Proof.Machine

/-! ## The account of a log -/

/-- R161: the records taken, and behind them those that wait. -/
def LogSystem.account (g : LogSystem) : List Record := g.store.buffer ++ g.events.queue

/-- R160, R162: where nothing is lost, a record taken moves from the queue to the buffer. -/
theorem takeOne_account (stamp : Record) {g : LogSystem} (hl : g.events.lost = 0) :
    (takeOne stamp g).account = g.account ∧ (takeOne stamp g).events.lost = 0
      ∧ (takeOne stamp g).events.queue.length ≤ g.events.queue.length := by
  unfold takeOne
  split
  case h_1 => exact ⟨rfl, hl, le_refl _⟩
  case h_2 r rest hq => simp [LogSystem.account, hl, hq]

/-- R162: the same of all the records taken. -/
theorem takeWaiting_account (stamp : Record) (n : Nat) {g : LogSystem} (hl : g.events.lost = 0) :
    (takeWaiting stamp n g).account = g.account ∧ (takeWaiting stamp n g).events.lost = 0
      ∧ (takeWaiting stamp n g).events.queue.length ≤ g.events.queue.length := by
  induction n generalizing g with
  | zero => exact ⟨rfl, hl, le_refl _⟩
  | succ n ih =>
    unfold takeWaiting
    split
    · obtain ⟨haccount, hlost, hlength⟩ := takeOne_account stamp hl
      obtain ⟨haccount', hlost', hlength'⟩ := ih hlost
      exact ⟨haccount'.trans haccount, hlost', hlength'.trans hlength⟩
    · exact ⟨rfl, hl, le_refl _⟩

/-- R164: the start of a program leaves the event queue. -/
@[simp] theorem events_startProgram (g : LogSystem) : (startProgram g).events = g.events := by
  unfold startProgram
  split <;> rfl

/-- R162, R163: the same of what an IDLE log store takes. -/
theorem takeInIdle_account (stamp : Record) {g : LogSystem} (hl : g.events.lost = 0) :
    (takeInIdle stamp g).account = g.account ∧ (takeInIdle stamp g).events.lost = 0
      ∧ (takeInIdle stamp g).events.queue.length ≤ g.events.queue.length := by
  unfold takeInIdle
  dsimp only
  split
  · split
    · simpa only [LogSystem.account, events_startProgram, buffer_startProgram] using takeWaiting_account stamp 32 hl
    · exact takeWaiting_account stamp 32 hl
  · exact ⟨rfl, hl, le_refl _⟩

/-- R159: an event joins a queue with room. -/
theorem enqueue_room (r : Record) {q : EventQueue} (h : q.queue.length < 32) :
    enqueue r q = { q with queue := q.queue ++ [r] } := if_pos h

/-- R159: in KEEP_OLDEST a full queue drops the event. -/
theorem enqueue_keepOldest (r : Record) {q : EventQueue} (h : q.queue.length = 32) (hmode : q.mode = .keepOldest) :
    enqueue r q = { q with lost := min (q.lost + 1) 65535 } := by
  rw [enqueue, if_neg (by omega), hmode]

/-- R159: in KEEP_NEWEST a full queue drops its oldest record. -/
theorem enqueue_keepNewest (r : Record) {q : EventQueue} {first : Record} {rest : List Record}
    (hq : q.queue = first :: rest) (hlen : rest.length = 31) (hmode : q.mode = .keepNewest) :
    enqueue r q = { q with
      queue := rest ++ [r]
      lost := min (q.lost + (if first.kind = .overflow then first.value1 else 1)) 65535 } := by
  rw [enqueue, if_neg (by simp [hq, hlen]), hmode, hq]

/-- R158: an event posted while the log store is not IDLE joins the queue alone. -/
theorem log_post_of_not_idle (kind : EventKind) (subject value1 value2 flags : Nat) {s : State}
    (h : s.log.store.state ≠ .idle) :
    (post kind subject value1 value2 flags s).log
      = { s.log with events := enqueue (s.record kind subject value1 value2 flags) s.log.events } :=
  if_neg h

/-! ## The account of a state -/

/-- R158, R159: where nothing is lost and the queue has room for them, the records `rs` end the account, nothing is lost
and the queue has grown by no more than them. -/
def Appends (rs : List Record) (s t : State) : Prop :=
  s.log.events.lost = 0 → s.log.events.queue.length + rs.length ≤ 32 →
    t.account = s.account ++ rs ∧ t.log.events.lost = 0
      ∧ t.log.events.queue.length ≤ s.log.events.queue.length + rs.length

section
variable {rs rs' : List Record} {s t u : State}

/-- Records appended have been posted. -/
theorem Appends.posts (h : Appends rs s t) : Posts rs s t := fun hl hroom => (h hl hroom).1

/-- Where the log stands, nothing has been posted. -/
theorem Appends.of_log_eq (h : t.log = s.log) : Appends [] s t := fun hl _ => by
  simp [State.account, h, hl]

/-- What has been posted before a change of another component. -/
theorem Appends.log_eq (h : Appends rs s t) (hu : u.log = t.log) : Appends rs s u := by
  simpa only [Appends, State.account, hu] using h

/-- What is posted after a change of another component. -/
theorem Appends.of_log_eq_left (h : Appends rs t u) (ht : t.log = s.log) : Appends rs s u := by
  simpa only [Appends, State.account, ht] using h

/-- Records posted one after another. -/
theorem Appends.trans (h : Appends rs s t) (h' : Appends rs' t u) : Appends (rs ++ rs') s u := by
  intro hl hroom
  rw [List.length_append] at hroom ⊢
  obtain ⟨haccount, hlost, hlength⟩ := h hl (by omega)
  obtain ⟨haccount', hlost', hlength'⟩ := h' hlost (by omega)
  exact ⟨by rw [haccount', haccount, List.append_assoc], hlost', by omega⟩

/-- R158, R159, R162: an event posted ends the account. -/
theorem appends_post (kind : EventKind) (subject value1 value2 flags : Nat) (s : State) :
    Appends [s.record kind subject value1 value2 flags] s (post kind subject value1 value2 flags s) := by
  intro hl hroom
  rw [List.length_singleton] at hroom ⊢
  have hqueue := enqueue_room (s.record kind subject value1 value2 flags) (q := s.log.events) (by omega)
  obtain ⟨haccount, hlost, hlength⟩ := takeInIdle_account (s.record kind subject value1 value2 flags)
    (g := { s.log with events := enqueue (s.record kind subject value1 value2 flags) s.log.events })
    (by rw [hqueue]; exact hl)
  rw [hqueue] at haccount hlost hlength
  refine ⟨?_, ?_, ?_⟩
  · change (post kind subject value1 value2 flags s).log.account = _
    rw [post, hqueue]
    simpa [LogSystem.account, State.account] using haccount
  · rw [post, hqueue]
    exact hlost
  · rw [post, hqueue]
    simpa using hlength

/-! ## The first record posted -/

/-- R162: where one record waits and the buffer has room, it is taken. -/
theorem takeWaiting_single (stamp r : Record) {n : Nat} {g : LogSystem} (hq : g.events.queue = [r])
    (hl : g.events.lost = 0) (hb : g.store.buffer.length < 32) :
    takeWaiting stamp (n + 1) g
      = { g with
          events := { g.events with queue := [] }
          store := { g.store with buffer := g.store.buffer ++ [r] } } := by
  have hone : takeOne stamp g = { g with
      events := { g.events with queue := [] }
      store := { g.store with buffer := g.store.buffer ++ [r] } } := by
    simp [takeOne, hq, hl]
  rw [takeWaiting, if_pos ⟨hb, by simp [hq]⟩, hone]
  cases n with
  | zero => rfl
  | succ n => exact if_neg fun h => h.2 rfl

/-- R158, R162: an event posted on an empty queue is taken by an IDLE log store with room. -/
theorem takeInIdle_enqueue {r : Record} {g : LogSystem} (hidle : g.store.state = .idle) (hq : g.events.queue = [])
    (hl : g.events.lost = 0) (hb : g.store.buffer.length < 32) :
    takeInIdle r { g with events := enqueue r g.events }
      = (let h := { g with store := { g.store with buffer := g.store.buffer ++ [r] } }
        if 32 ≤ h.store.buffer.length ∧ h.store.unprogrammed ≠ [] then startProgram h else h) := by
  obtain ⟨⟨q, lost, mode⟩, store, headers, array⟩ := g
  obtain rfl : q = [] := hq
  rw [enqueue_room r (by simp), takeInIdle, if_pos hidle]
  dsimp only [List.nil_append]
  rw [takeWaiting_single r r (n := 31) (g := ⟨⟨[r], lost, mode⟩, store, headers, array⟩) rfl hl hb]

/-- R158, R162: an event posted is the first posted, and stays where the buffer only grows. -/
theorem postsFirst_of_grows {kind : EventKind} {subject value1 value2 flags : Nat}
    (h : (post kind subject value1 value2 flags s).log.store.buffer <+: t.log.store.buffer) :
    PostsFirst (s.record kind subject value1 value2 flags) s t := by
  intro hidle hq hl hb
  have hbuffer : (post kind subject value1 value2 flags s).log.store.buffer
      = s.log.store.buffer ++ [s.record kind subject value1 value2 flags] := by
    rw [post, takeInIdle_enqueue hidle hq hl hb]
    dsimp only
    split
    · exact buffer_startProgram _
    · rfl
  rw [hbuffer] at h
  obtain ⟨rest, hrest⟩ := h
  simp [← hrest]

/-- R162: but for a page that is left, the page buffer only grows. -/
theorem Leads.buffer_grows {w : Scope} (h : Leads w s t) (hw : w ≠ .arrival true) :
    s.log.store.buffer <+: t.log.store.buffer :=
  h.keeps (P := fun u => s.log.store.buffer <+: u.log.store.buffer) (fun u v hc hu => by
    cases hc with
    | log _ _ _ hallows =>
      match w with
      | .cascade => exact hu.trans hallows.1
      | .arrival false => exact hu.trans hallows
      | .arrival true => exact absurd rfl hw
    | _ => exact hu) List.prefix_rfl

/-- R158, R162: an event posted is the first posted on the way to all that it leads to. -/
theorem Leads.postsFirst {kind : EventKind} {subject value1 value2 flags : Nat} {w : Scope} (hw : w ≠ .arrival true)
    (h : Leads w (post kind subject value1 value2 flags s) t) :
    PostsFirst (s.record kind subject value1 value2 flags) s t :=
  postsFirst_of_grows (h.buffer_grows hw)

/-- What is posted first after a change of other components is posted first, where the record's instant, view and
station stand. -/
theorem PostsFirst.of_log_eq {r : Record} (h : PostsFirst r t u) (ht : t.log = s.log) : PostsFirst r s u := by
  simpa only [PostsFirst, ht] using h

/-! ## Frames -/

/-- A state that differs by what posting can change: it is the other with that taken from it. -/
theorem eq_withLogOf (hrest : t.log.rest = s.log.rest) (h : t = { s with log := t.log }) : t = s.withLogOf t := by
  have hframe : s.withLogOf t = { s with log := (s.withLogOf t).log } := rfl
  rw [hframe, log_withLogOf_of_rest hrest]
  exact h

/-! ## What a cascade leaves -/

/-- A cascade reaches no more than `State.withZonesOf` takes. -/
theorem Leads.beyondZones (h : Leads .cascade s t) : t.beyondZones = s.beyondZones :=
  h.keeps (P := fun u => u.beyondZones = s.beyondZones) (fun u v hc hu => by
    rw [← hu]
    cases hc with
    | log _ _ _ hallows => simp only [State.beyondZones, hallows.2]
    | line _ _ _ hkeeps => simp only [State.beyondZones, (hkeeps rfl).1]
    | _ => rfl) rfl

/-- A cascade leads to the state with what it may change taken from its end. -/
theorem Leads.eq_withZonesOf (h : Leads .cascade s t) : t = s.withZonesOf t := Machine.eq_withZonesOf h.beyondZones

/-- A cascade leaves the conditions, the degraded state and the ring. -/
theorem Leads.keepsReports (h : Leads .cascade s t) : s.zones.KeepsReports t.zones :=
  h.keeps (P := fun u => s.zones.KeepsReports u.zones) (fun u v hc hu => by
    cases hc with
    | zones _ _ _ hkeeps =>
      obtain ⟨hconditions, hdegraded, hring⟩ := hkeeps rfl
      exact ⟨hconditions.trans hu.1, hdegraded.trans hu.2.1, hring.trans hu.2.2⟩
    | _ => exact hu) ⟨rfl, rfl, rfl⟩

/-- A cascade leaves the members of the fault summary but those of the plant. -/
theorem Leads.keepsOthers (h : Leads .cascade s t) : s.sirens.summary.KeepsOthers t.sirens.summary :=
  h.keeps (P := fun u => s.sirens.summary.KeepsOthers u.sirens.summary) (fun u v hc hu => by
    cases hc with
    | faults _ _ _ hkeeps => exact fun m hstep hdoor => (hkeeps rfl m hstep hdoor).trans (hu m hstep hdoor)
    | _ => exact hu) fun _ _ _ => rfl

/-- In a cascade every frame but a VOTE goes on waiting. -/
theorem Leads.waits (h : Leads .cascade s t) {f : OutFrame} (hkind : f.kind ≠ .vote) (hf : s.line.waits f = true) :
    t.line.waits f = true :=
  h.keeps (P := fun u => u.line.waits f = true) (fun u v hc hu => by
    cases hc with
    | line _ _ _ hkeeps => exact (hkeeps rfl).2 f hkind hu
    | _ => exact hu) hf

end

/-- Settles O54: an event joins the queue, from where an IDLE log store takes it. -/
theorem eventsArePosted : Obligations.EventsArePosted := by
  refine ⟨fun kind subject value1 value2 flags s => ⟨(appends_post kind subject value1 value2 flags s).posts, ?_⟩,
    fun kind subject value1 value2 flags s hidle hq hl hb => ?_, fun kind subject value1 value2 flags s hidle hlen
      hmode => ?_,
    fun kind subject value1 value2 flags s h rest hidle hq hlen hmode => ?_⟩
  · exact eq_withLogOf (logRest_post kind subject value1 value2 flags s) rfl
  · rw [post, takeInIdle_enqueue hidle hq hl (by omega)]
    dsimp only
    rw [if_neg (by simp; omega)]
    exact ⟨rfl, hq, hidle⟩
  · rw [log_post_of_not_idle _ _ _ _ _ hidle, enqueue_keepOldest _ hlen hmode]
  · rw [log_post_of_not_idle _ _ _ _ _ hidle, enqueue_keepNewest _ hq hlen hmode]
    rfl

end Sys2Proof.Machine
end

section
/-! PROOF. Writes to the exchange area and the taking of a command (R183, R184): the settlement of O57. -/
namespace Sys2Proof.Machine

section
variable {s : State}

/-! ## The exchange area (R183) -/

/-- R183: the bytes of a write transaction leave the port. -/
@[simp] theorem port_writeArea (o : Nat) (bs : List Byte) (v : Service) : (writeArea o bs v).port = v.port := by
  induction bs generalizing o v with
  | nil => rfl
  | cons b bs ih =>
    rw [writeArea, ih]
    unfold writeAreaByte
    (repeat' split) <;> rfl

/-- R183: a byte written alone. -/
theorem writeArea_single (o : Nat) (b : Byte) (v : Service) :
    writeArea o [b] v
      = if o % 32 = 0 then { v with command := b, offset := 1 }
        else if o % 32 = 1 then { v with status := 0, offset := 2 }
        else if o % 32 < 10 then { v with params := v.params.set (o % 32 - 2) b, offset := o % 32 + 1 }
        else { v with offset := (o + 1) % 32 } := by
  simp only [writeArea, writeAreaByte]
  split
  case isTrue h => simp [h]
  case isFalse =>
    split
    case isTrue h => simp [h]
    case isFalse =>
      split
      case isTrue => rw [Nat.mod_eq_of_lt (by omega : o % 32 + 1 < 32)]
      case isFalse => simp

/-! ## The taking of a command (R184) -/

/-- R184: no command is taken while the port executes, while none waits, or while the status is not 0. -/
theorem tryTake_waits (h : s.service.port ≠ .idle ∨ s.service.command = 0 ∨ s.service.status ≠ 0) : tryTake s = s := by
  refine if_neg fun ⟨hidle, hcommand, hstatus⟩ => ?_
  obtain h | h | h := h
  · exact h hidle
  · exact hcommand h
  · exact h hstatus

/-- R184: a command that waits is taken when the port is ready. -/
theorem tryTake_ready (hidle : s.service.port = .idle) (hcommand : s.service.command ≠ 0)
    (hstatus : s.service.status = 0) :
    tryTake s = judgeCommand s.service.command s.service.params { s with service := { s.service with command := 0 } } :=
  if_pos ⟨hidle, hcommand, hstatus⟩

/-- R183: a write transaction outside RESETTING. -/
theorem writeTransaction_awake (hs : s.startup.state ≠ .resetting) (o : Byte) (bs : List Byte) :
    writeTransaction (o :: bs) s = tryTake { s with service := writeArea o.toNat bs s.service } :=
  if_pos (by simpa [State.portAwake] using hs)

/-- R183, R184: a write transaction after which no command can be taken. -/
theorem exec_areaWrite_waits (hs : s.startup.state ≠ .resetting) {o : Byte} {bs : List Byte} {v : Service}
    (hv : writeArea o.toNat bs s.service = v) (h : v.port ≠ .idle ∨ v.command = 0 ∨ v.status ≠ 0) :
    exec (.serviceAreaWrite (o :: bs)) s = .next { s with service := v } := by
  refine congrArg Host.Outcome.next ?_
  rw [writeTransaction_awake hs, hv]
  exact tryTake_waits (s := { s with service := v }) h

/-- R184, R185: an unknown code is answered at once. -/
theorem judgeCommand_unknown {c : Byte} (hc : 12 < c.toNat) (params : List Byte) :
    judgeCommand c params s = complete statusBadCommand [] s :=
  if_pos (by simp [knownCommand, hc])

/-- R183: STATUS_CLEAR writes one byte to offset 1, as does any such write. -/
theorem writeArea_statusClear (b : Byte) (v : Service) : writeArea 1 [b] v = { v with status := 0, offset := 2 } :=
  writeArea_single 1 b v

/-- R184: a command that waits is taken when the status is cleared. -/
theorem clearedStatus_takes (hs : s.startup.state ≠ .resetting) (hidle : s.service.port = .idle)
    (hcommand : s.service.command ≠ 0) (b : Byte) :
    writeTransaction [1, b] s
      = judgeCommand s.service.command s.service.params
          { s with service := { s.service with command := 0, status := 0, offset := 2 } } := by
  have hcleared : writeArea (1 : Byte).toNat [b] s.service = { s.service with status := 0, offset := 2 } :=
    writeArea_statusClear b _
  rw [writeTransaction_awake hs, hcleared]
  exact tryTake_ready hidle hcommand rfl

/-- R184: every step keeps that no command waits at a port that is IDLE with status 0. -/
theorem step_keeps_portLaw : ∀ s t : State, PortLaw s → step s = .next t → PortLaw t := by
  refine step_keeps (fun _ _ hs => hs) (fun s t hchange hs => ?_) (fun k s hs => ?_) (fun c s _ hs => hs)
  · cases hchange with
    | service _ _ h => exact h hs
    | _ => exact hs
  · exact fun _ _ => rfl

end

/-- Settles O57: a command that the bytes leave waiting is taken where the port is ready. -/
theorem areaWritesAreApplied : Obligations.AreaWritesAreApplied := by
  refine ⟨fun o b s hs hport => ?_, fun b c s hs hport => ?_, fun o s hs hport => ?_, fun c s hready hc => ?_,
    fun s hs hwait => ?_, fun c s hs hidle _ hcommand => ?_, fun s hs hidle _ hcommand => ?_,
    fun c s hs hstatus => ?_, step_keeps_portLaw⟩
  · exact exec_areaWrite_waits hs (writeArea_single o.toNat b s.service)
      (.inl (by rwa [← writeArea_single, port_writeArea]))
  · exact exec_areaWrite_waits hs rfl (.inl (by exact hport))
  · exact exec_areaWrite_waits hs rfl (.inl (by exact hport))
  · obtain ⟨hs, hidle, hstatus⟩ := hready
    have hc' : c ≠ 0 := fun h => by simp [h] at hc
    refine congrArg Host.Outcome.next ?_
    rw [writeTransaction_awake hs]
    refine (tryTake_ready (s := { s with service := { s.service with command := c, offset := 1 } }) hidle hc'
      hstatus).trans ?_
    change judgeCommand c s.service.params { s with service := { s.service with command := 0, offset := 1 } } = _
    rw [judgeCommand_unknown hc, complete, ← hidle]
    rfl
  · refine congrArg Host.Outcome.next ?_
    rw [writeTransaction_awake hs]
    exact tryTake_waits (hwait.imp_right .inl)
  · have hc : s.service.command ≠ 0 := by rw [hcommand]; decide
    have htaken (b : Byte) := clearedStatus_takes hs hidle hc b
    rw [hcommand] at htaken
    exact ⟨congrArg Host.Outcome.next (htaken c), congrArg Host.Outcome.next (htaken 0)⟩
  · have hc : s.service.command ≠ 0 := fun h => by simp [h] at hcommand
    exact congrArg Host.Outcome.next ((clearedStatus_takes hs hidle hc 0).trans (judgeCommand_unknown hcommand _))
  · exact exec_areaWrite_waits hs rfl (.inr (.inr hstatus))

end Sys2Proof.Machine
end

section
/-! PROOF. The reading commands and their replies (R182, R186, R193): the settlement of O58. -/
namespace Sys2Proof.Machine

section
variable {s : State}

/-! ## Replies (R185, R193) -/

/-- R185: the first bytes of a padded reply are those of the reply. -/
theorem take_padReply {n : Nat} {bs : List Byte} (hn : n ≤ bs.length) (h22 : n ≤ 22) :
    (padReply bs).take n = bs.take n := by
  rw [padReply, List.take_append_of_le_length (by simp; omega), List.take_take, min_eq_left h22]

/-- R20, R193: the reply of a channel whose baseline is present begins with state, baseline, trip and re-arm level. -/
theorem replyChannel_begins (k : ChannelConfig) {c : Channel} {b : Nat} (hb : c.baseline = some b) :
    ∃ rest, replyChannel k c
      = [BitVec.ofNat 8 (channelStateCode c.state)] ++ bytes2 (b / 64) ++ bytes2 (k.tripAt b)
        ++ bytes2 (k.rearmAt b) ++ rest := by
  refine ⟨reply2 c.last ++ reply2 c.peak ++ reply1 c.run ++ reply2 c.settle ++ replyInstant c.pulseStart
    ++ bytes2 c.detections ++ bytes2 c.shortPulses, ?_⟩
  have hlevels : (c.baseline.map fun _ => c.baselineCount) = some (b / 64)
      ∧ (c.baseline.map fun _ => tripLevel k c) = some (k.tripAt b)
      ∧ (c.baseline.map fun _ => rearmLevel k c) = some (k.rearmAt b) := by
    simp [hb, tripLevel_eq k hb, rearmLevel_eq k hb, Channel.baselineCount]
  obtain ⟨hbase, htrip, hrearm⟩ := hlevels
  simp only [replyChannel, hbase, htrip, hrearm, reply2, List.append_assoc]

/-- R171, R193: the reply of READ_LOG_POSITION begins with state, write position, buffer, mark and pending flush. -/
theorem replyLogPosition_begins {g : LogSystem} {b p : Fin 16} (h : g.store.position = some (b, p)) :
    ∃ rest, replyLogPosition g
      = [BitVec.ofNat 8 (logStateCode g.store.state), BitVec.ofNat 8 b.val, BitVec.ofNat 8 p.val,
         BitVec.ofNat 8 g.store.buffer.length, BitVec.ofNat 8 g.store.programmed,
         replyBits [g.store.flushPending]] ++ rest :=
  ⟨_, by
    simp only [replyLogPosition, h, Option.map_some, reply1, List.append_assoc, List.cons_append, List.nil_append]
    rfl⟩

/-- R61, R193: the reply of READ_VALVE begins with output, flags and the number of windows. -/
theorem replyValve_begins (v : Valve) (u : Valves) :
    ∃ rest, replyValve v u
      = [BitVec.ofNat 8 (if v.opened then 1 else 0), replyBits [v.noFlow, v.leak],
         BitVec.ofNat 8 v.windows.length] ++ rest :=
  ⟨_, by
    simp only [replyValve, List.append_assoc]
    rfl⟩

/-- A byte that says whether a field stands. -/
theorem ofNat_ite_one (b : Bool) : BitVec.ofNat 8 (if b then 1 else 0) = if b = true then (1 : Byte) else 0 := by
  cases b <;> rfl

/-- R193: one field packed alone. -/
theorem replyBits_one (b : Bool) : replyBits [b] = if b = true then (1 : Byte) else 0 := by
  cases b <;> rfl

/-- R193: two fields packed into one byte. -/
theorem replyBits_two (a b : Bool) :
    replyBits [a, b] = (if a = true then (1 : Byte) else 0) + (if b = true then 2 else 0) := by
  cases a <;> cases b <;> rfl

/-! ## Reading commands (R186) -/

/-- R185, R186: a reading command whose parameter names something. -/
theorem reading_good (h : s.portReady) {c : Byte} (hc : c ≠ 0) (hknown : knownCommand c = true)
    (hfree : needsKey c = false) {params reply : List Byte} (hgood : paramsGood c (padParams params) s = true)
    (hreply : carryOut c (padParams params) (s.taken params) = complete statusOk reply (s.taken params)) :
    giveCommand c params s = { s with service := s.service.completed (padParams params) statusOk reply } := by
  rw [giveCommand_good h hc hknown (by simp [hfree]) hgood, hreply, complete_taken]

/-- R185, R186: a reading command whose parameter names nothing. -/
theorem reading_bad (h : s.portReady) {c : Byte} (hc : c ≠ 0) (hknown : knownCommand c = true)
    (hfree : needsKey c = false) {params : List Byte} (hbad : paramsGood c (padParams params) s = false) :
    giveCommand c params s = { s with service := s.service.completed (padParams params) statusBadParam [] } :=
  giveCommand_badParam h hc hknown (by simp [hfree]) hbad

/-- R186: READ_CHANNEL of a channel. -/
theorem exec_readChannel (h : s.portReady) (n : Fin 4) :
    exec (.readChannel (BitVec.ofNat 8 n.val)) s
      = .next { s with
          service := s.service.completed [BitVec.ofNat 8 n.val, 0, 0, 0, 0, 0, 0, 0] statusOk
            (replyChannel (s.cfg.channels.get n) (s.channels.get n)) } := by
  refine congrArg Host.Outcome.next (reading_good h (by decide) rfl rfl ?_ ?_)
  · fin_cases n <;> rfl
  · fin_cases n <;> rfl

/-- R186: READ_VALVE of a valve. -/
theorem exec_readValve (h : s.portReady) (v : Fin 2) :
    exec (.readValve (BitVec.ofNat 8 v.val)) s
      = .next { s with
          service := s.service.completed [BitVec.ofNat 8 v.val, 0, 0, 0, 0, 0, 0, 0] statusOk
            (replyValve (s.valves.valves.get v) s.valves) } := by
  refine congrArg Host.Outcome.next (reading_good h (by decide) rfl rfl ?_ ?_)
  · fin_cases v <;> rfl
  · fin_cases v <;> rfl

/-- R186: READ_LOG_POSITION. -/
theorem exec_readLogPosition (h : s.portReady) :
    exec .readLogPosition s
      = .next { s with service :=
          s.service.completed [0, 0, 0, 0, 0, 0, 0, 0] statusOk (replyLogPosition s.log) } :=
  congrArg Host.Outcome.next (reading_good h (by decide) rfl rfl rfl rfl)

/-- R186: NODE_STATUS. -/
theorem exec_nodeStatus (h : s.portReady) (n : Byte) :
    exec (.nodeStatus n) s
      = .next { s with service :=
          if n.toNat ≤ 5 then s.service.completed [n, 0, 0, 0, 0, 0, 0, 0] statusOk (replyStatus n.toNat s)
          else s.service.completed [n, 0, 0, 0, 0, 0, 0, 0] statusBadParam [] } := by
  refine congrArg Host.Outcome.next ?_
  by_cases hn : n.toNat ≤ 5
  · rw [if_pos hn]
    exact reading_good h (by decide) rfl rfl (decide_eq_true hn) rfl
  · rw [if_neg hn]
    exact reading_bad h (by decide) rfl rfl (decide_eq_false hn)

/-- R186: READ_PRESENCE. -/
theorem exec_readPresence (h : s.portReady) (n : Byte) :
    exec (.readPresence n) s
      = .next { s with service :=
          if 1 ≤ n.toNat ∧ n.toNat ≤ 31 ∧ n.toNat ≠ s.station then
            s.service.completed [n, 0, 0, 0, 0, 0, 0, 0] statusOk (replyPresence s.peers[stationIndex n])
          else s.service.completed [n, 0, 0, 0, 0, 0, 0, 0] statusBadParam [] } := by
  have hgood : paramsGood 0x02 (padParams [n]) s
      = decide (1 ≤ n.toNat ∧ n.toNat ≤ 31 ∧ n.toNat ≠ s.station) := by
    rw [Bool.decide_and, Bool.decide_and, ← Bool.and_assoc]
    rfl
  refine congrArg Host.Outcome.next ?_
  by_cases hn : 1 ≤ n.toNat ∧ n.toNat ≤ 31 ∧ n.toNat ≠ s.station
  · rw [if_pos hn]
    exact reading_good h (by decide) rfl rfl (hgood.trans (decide_eq_true hn)) rfl
  · rw [if_neg hn]
    exact reading_bad h (by decide) rfl rfl (hgood.trans (decide_eq_false hn))

/-- R186: the parameter test of READ_ZONE. -/
theorem paramsGood_readZone (n : Byte) (s : State) :
    paramsGood 0x03 (padParams [n]) s = (decide (1 ≤ n.toNat) && decide (n.toNat ≤ 15) &&
      (s.zoneRecord n.toNat).isSome) :=
  rfl

/-- R186: READ_ZONE of a tracked zone. -/
theorem exec_readZone (h : s.portReady) {n : Byte} {z : Zone} (hz : s.zoneRecord n.toNat = some z) (hlow : 1 ≤ n.toNat)
    (hhigh : n.toNat ≤ 15) :
    exec (.readZone n) s
      = .next { s with service := s.service.completed [n, 0, 0, 0, 0, 0, 0, 0] statusOk (replyZone z) } := by
  have hcarried : carryOut 0x03 (padParams [n]) (s.taken [n]) = complete statusOk (replyZone z) (s.taken [n]) := by
    change (match s.zoneRecord n.toNat with
      | none => complete statusBadParam [] (s.taken [n])
      | some z => complete statusOk (replyZone z) (s.taken [n])) = _
    rw [hz]
  exact congrArg Host.Outcome.next (reading_good h (by decide) rfl rfl
    ((paramsGood_readZone n s).trans (by simp [hz, hlow, hhigh])) hcarried)

end

/-- Settles O58: each reading command is judged by its parameter and answered at once. -/
theorem readingCommandsAnswer : Obligations.ReadingCommandsAnswer := by
  refine ⟨fun n s h => exec_nodeStatus h n, fun n s h => exec_readPresence h n,
    fun n s z h hz hlow hhigh => exec_readZone h hz hlow hhigh, fun n s h hz => ?_, fun n s h => exec_readChannel h n,
    fun n s h hn => ?_, fun v s h => exec_readValve h v, fun n s h hn => ?_, fun s h => exec_readLogPosition h,
    fun s b p h hp => ⟨_, exec_readLogPosition h, ?_⟩, fun n s b h hb => ⟨_, exec_readChannel h n, ?_⟩,
    fun v s h => ⟨_, exec_readValve h v, ?_⟩, fun s h => ⟨_, exec_nodeStatus h 0, rfl⟩⟩
  · exact congrArg Host.Outcome.next (reading_bad h (by decide) rfl rfl
    ((paramsGood_readZone n s).trans (by simp [hz])))
  · exact congrArg Host.Outcome.next (reading_bad h (by decide) rfl rfl (decide_eq_false (by exact Nat.not_le.2 hn)))
  · exact congrArg Host.Outcome.next (reading_bad h (by decide) rfl rfl (decide_eq_false (by exact Nat.not_le.2 hn)))
  · obtain ⟨rest, hreply⟩ := replyLogPosition_begins hp
    change (padReply (replyLogPosition s.log)).take 6 = _
    rw [hreply, take_padReply (by simp) (by decide), replyBits_one]
    rfl
  · obtain ⟨rest, hreply⟩ := replyChannel_begins (s.cfg.channels.get n) hb
    change (padReply (replyChannel _ _)).take 7 = _
    rw [hreply, take_padReply (by simp [bytes2]) (by decide)]
    rfl
  · obtain ⟨rest, hreply⟩ := replyValve_begins (s.valves.valves.get v) s.valves
    change (padReply (replyValve _ _)).take 3 = _
    rw [hreply, take_padReply (by simp) (by decide), replyBits_two, ofNat_ite_one]
    rfl

end Sys2Proof.Machine
end

section
/-! PROOF. The values of a configuration set lie in their ranges (R176): the settlement of O21. -/
namespace Sys2Proof.Machine

section
variable (image : List Byte) (o : Nat) {lo hi : Nat}

/-- R176: a clamped number lies in its range. -/
theorem clampRange_bounds (raw : Nat) (h : lo ≤ hi) :
    lo ≤ (clampRange o raw lo hi).value ∧ (clampRange o raw lo hi).value ≤ hi :=
  ⟨le_max_left _ _, max_le h (min_le_right _ _)⟩

/-- R176: a one-byte field. -/
theorem field1_bounds (h : lo ≤ hi) : lo ≤ (field1 image o lo hi).value ∧ (field1 image o lo hi).value ≤ hi :=
  clampRange_bounds o _ h

/-- R176: a two-byte field. -/
theorem field2_bounds (h : lo ≤ hi) : lo ≤ (field2 image o lo hi).value ∧ (field2 image o lo hi).value ≤ hi :=
  clampRange_bounds o _ h

/-- R176: the debounce time. -/
theorem fieldDebounce_bounds : (fieldDebounce image o).value = 0
    ∨ 5 ≤ (fieldDebounce image o).value ∧ (fieldDebounce image o).value ≤ 100 := by
  unfold fieldDebounce clampTo
  dsimp only
  split
  · exact .inl rfl
  · exact .inr ⟨le_max_left _ _, max_le (by decide) (min_le_right _ _)⟩

/-- Section 1: the values of a spark channel; the dark floor keeps 8 below the ceiling. -/
theorem readChannelConfig_inRange : (readChannelConfig image o).value.inRange := by
  have hceiling := field2_bounds image (o + 8) (lo := 64) (hi := 1000) (by decide)
  refine ⟨field2_bounds _ _ (by decide), field1_bounds _ _ (by decide), field1_bounds _ _ (by decide),
    field1_bounds _ _ (by decide), field2_bounds _ _ (by decide), hceiling, ?_, ?_⟩
  · exact (min_le_left _ _).trans (min_le_right _ _)
  · change min (min _ 63) ((field2 image (o + 8) 64 1000).value - 8) + 8 ≤ (field2 image (o + 8) 64 1000).value
    omega

/-- Section 3: the values of a valve. -/
theorem readValveConfig_inRange : (readValveConfig image o).value.inRange :=
  ⟨(field2_bounds _ _ (by decide)).2, field2_bounds _ _ (by decide), field2_bounds _ _ (by decide),
    field1_bounds _ _ (by decide)⟩

/-- Section 2.2: the values of a watch position. -/
theorem readWatchConfig_inRange : (readWatchConfig image o).value.inRange :=
  ⟨(field1_bounds _ _ (by decide)).2, field2_bounds _ _ (by decide), (field1_bounds _ _ (by decide)).2⟩

/-- Section 7: the values of a door. -/
theorem readDoorConfig_inRange : (readDoorConfig image o).value.inRange :=
  ⟨(field1_bounds _ _ (by decide)).2, (field1_bounds _ _ (by decide)).2, (field1_bounds _ _ (by decide)).2,
    field1_bounds _ _ (by decide)⟩

/-- R146: bit 0 of a siren's zone set names no zone. -/
theorem readSirenConfig_zone0 : (readSirenConfig image o).value.zones.getLsbD 0 = false := by
  simp [readSirenConfig, fieldBits, clampTo]

/-- A.3: the tracked zones of a set. -/
theorem readConfigSet_tracked : (readConfigSet image).value.tracked.length = 7
    ∧ ∀ z ∈ (readConfigSet image).value.tracked, z ≤ 15 := by
  refine ⟨rfl, fun z hz => ?_⟩
  have hz' : z ∈ [2, 3, 4, 5, 6, 7, 8].map fun o => (field1 image o 0 15).value := hz
  obtain ⟨o, -, rfl⟩ := List.mem_map.1 hz'
  exact (field1_bounds image o (by decide)).2

/-- A.3: the watch positions of a set. -/
theorem readConfigSet_watch : (readConfigSet image).value.watch.length = 8
    ∧ ∀ w ∈ (readConfigSet image).value.watch, w.inRange := by
  refine ⟨rfl, fun w hw => ?_⟩
  have hw' : w ∈ [100, 106, 112, 118, 124, 130, 136, 142].map fun o => (readWatchConfig image o).value := hw
  obtain ⟨o, -, rfl⟩ := List.mem_map.1 hw'
  exact readWatchConfig_inRange image o

/-- R176: the sample interval is one of its three values. -/
theorem readConfigSet_sampleInterval : (readConfigSet image).value.sampleInterval = 250
    ∨ (readConfigSet image).value.sampleInterval = 500 ∨ (readConfigSet image).value.sampleInterval = 1000 := by
  unfold readConfigSet
  dsimp only
  (repeat' split) <;> simp

end

/-- Settles O21: every field is clamped to its range as it is read. -/
theorem configurationValuesLieInRange : Obligations.ConfigurationValuesLieInRange := by
  intro image
  refine ⟨field1_bounds image 1 (by decide), readConfigSet_tracked image, field1_bounds image 9 (by decide),
    field2_bounds image 10 (by decide), readConfigSet_sampleInterval image, fieldDebounce_bounds image 13,
    field2_bounds image 16 (by decide), field2_bounds image 18 (by decide), (field1_bounds image 20 (by decide)).2,
    (field2_bounds image 21 (by decide)).2, (field2_bounds image 23 (by decide)).2, field1_bounds image 25 (by decide),
    (field1_bounds image 26 (by decide)).2, field1_bounds image 27 (by decide), field1_bounds image 28 (by decide),
    field1_bounds image 29 (by decide), field2_bounds image 30 (by decide), field1_bounds image 32 (by decide),
    field1_bounds image 34 (by decide), field2_bounds image 35 (by decide), (field1_bounds image 37 (by decide)).2,
    field1_bounds image 38 (by decide), field1_bounds image 39 (by decide), field1_bounds image 40 (by decide),
    (field1_bounds image 41 (by decide)).2, fun ch => ?_, fun v => ?_, readConfigSet_watch image, fun d => ?_,
      fun i => ?_⟩
  · fin_cases ch <;> exact readChannelConfig_inRange image _
  · fin_cases v <;> exact readValveConfig_inRange image _
  · fin_cases d <;> exact readDoorConfig_inRange image _
  · fin_cases i <;> exact readSirenConfig_zone0 image _

end Sys2Proof.Machine
end

section
/-! PROOF. The end of RESETTING, the judging of the image and the hand-over (R174 to R177): the settlement of O19 and
O20. -/
namespace Sys2Proof.Machine

section
variable {s t u : State}

/-! ## RESETTING ends (R174) -/

/-- R174: the state once the switches are read, before the RESET event is posted. -/
def State.switchesRead (s : State) (station rate : Nat) : State :=
  { s with
    time := 0
    startup :=
      { s.startup with
        state := .starting, stage := some .switches, station := some station, rate := some rate
        warnings := some 0 } }

/-- R158, R174: the RESET event joins the queue of a log store that has not been scanned. -/
theorem post_reset (hscan : s.log.store.state = .scanning) (hroom : s.log.events.queue.length < 32)
    (hzones : s.zones.zones = []) (station rate : Nat) :
    post .reset 0 (resetCode s.startup.cause) (rate * 256 + station) 0 (s.switchesRead station rate)
      = { s.switchesRead station rate with
          log := { s.log with events := { s.log.events with queue := s.log.events.queue ++
            [⟨0, .reset, 0, .clear, station, 0, resetCode s.startup.cause, rate * 256 + station⟩] } } } := by
  have hlog := log_post_of_not_idle .reset 0 (resetCode s.startup.cause) (rate * 256 + station) 0
    (s := s.switchesRead station rate) (by simp [State.switchesRead, hscan])
  have hview : (s.switchesRead station rate).homeView = .clear := by
    simp [State.homeView, State.switchesRead, hzones]
  have hstate : post .reset 0 (resetCode s.startup.cause) (rate * 256 + station) 0 (s.switchesRead station rate)
      = { s.switchesRead station rate with
          log := (post .reset 0 (resetCode s.startup.cause) (rate * 256 + station) 0
            (s.switchesRead station rate)).log } := rfl
  rw [hstate, hlog, State.record, hview]
  exact congrArg (fun e => { s.switchesRead station rate with log := { s.log with events := e } })
    (enqueue_room _ hroom)

/-! ## Warnings (R176) -/

/-- R176: what warnings lead to: events posted and the warning count. -/
def Warned (s t : State) : Prop :=
  t = { s with log := t.log, startup := { s.startup with warnings := t.startup.warnings } } ∧ t.log.rest = s.log.rest

/-- Warnings after warnings. -/
theorem Warned.trans (h : Warned s t) (h' : Warned t u) : Warned s u := by
  obtain ⟨ht, hrest⟩ := h
  obtain ⟨hu, hrest'⟩ := h'
  refine ⟨?_, hrest'.trans hrest⟩
  rw [hu, ht]

/-- R176: what warnings lead to, with the log and the count named. -/
theorem Warned.elim (h : Warned s t) : ∃ (n : Option Nat) (g : LogSystem), g.rest = s.log.rest
    ∧ t = { s with log := g, startup := { s.startup with warnings := n } } :=
  ⟨_, _, h.2, h.1⟩

/-- R176: the warnings of one check. -/
theorem warned_warnAll (subject : Nat) (ws : List (Nat × Nat)) (s : State) : Warned s (warnAll subject ws s) :=
  List.foldlRecOn (motive := Warned s) _ _ ⟨rfl, rfl⟩ fun _ ht _ _ => ht.trans ⟨rfl, logRest_post _ _ _ _ _ _⟩

/-- R175: the image as the loader reads it. -/
def State.image (s : State) : List Byte := Memory.readBytes s.configMemory 0 512

/-- R175: the first byte of the image. -/
theorem imageByte_image_zero (s : State) : imageByte s.image 0 = (Memory.read s.configMemory 0).toNat := by
  simp [State.image, imageByte, Memory.readBytes]

/-- R176: the state after the image is read and before it is judged. -/
def State.imageRead (s : State) : State :=
  { s with startup := { s.startup with version := some (imageByte s.image 0), memoryDeadline := none } }

/-- R175, R176: the state in which an accepted image is handed over. -/
def State.clamped (s : State) : State := warnAll 1 (readConfigSet s.image).warnings s.imageRead

/-- R177: the hand-over brings every block's values, then warnings, then the overflow mode. -/
theorem handOverSet_warns (c : ConfigSet) (s : State) :
    ∃ u, Warned (installSet c s) u
      ∧ handOverSet c s = { u with log := { u.log with events := { u.log.events with mode := c.overflowMode } } } :=
  ⟨_, ((warned_warnAll 2 _ _).trans (warned_warnAll 3 _ _)).trans (warned_warnAll 4 _ _), rfl⟩

/-- R175: an accepted image is handed over. -/
theorem judgeImage_accepted (h : imageAccepted s.image = true) :
    judgeImage s = handOverSet (readConfigSet s.image).value s.clamped := by
  rw [State.image] at h
  rw [judgeImage, if_pos h, State.clamped, State.imageRead, State.image]

/-- R175: a refused image fails start-up. -/
theorem judgeImage_refused (h : imageAccepted s.image = false) :
    judgeImage s = failStart .configBad s.imageRead := by
  rw [State.image] at h
  rw [judgeImage, if_neg (by simp [h]), State.imageRead, State.image]

/-- R175: the end of the read of the image at stage IMAGE. -/
theorem exec_imageReadEnd (hs : s.startup.stage = some .image) :
    exec .imageReadEnd s = .next (releaseConfig (judgeImage s)) := by
  change Host.Outcome.next (if s.startup.stage = some .image then releaseConfig (judgeImage s) else s) = _
  rw [if_pos hs]

/-- R176, R177: an accepted image's hand-over: the installed values, the warnings and the events posted. -/
theorem judgeImage_installs {c : ConfigSet} (hc : (readConfigSet s.image).value = c)
    (h : imageAccepted s.image = true) :
    ∃ (n : Option Nat) (g : LogSystem), g.rest = s.log.rest ∧ g.events.mode = c.overflowMode
      ∧ judgeImage s = { installSet c s.imageRead with
          log := g
          startup := { s.imageRead.startup with stage := some .selfTest, warnings := n } } := by
  obtain ⟨n, g, hrest, hclamped⟩ := (warned_warnAll 1 (readConfigSet s.image).warnings s.imageRead).elim
  obtain ⟨u, hu, hset⟩ := handOverSet_warns c s.clamped
  obtain ⟨n', g', hrest', rfl⟩ := hu.elim
  rw [judgeImage_accepted h, hc, hset, State.clamped, hclamped]
  exact ⟨n', { g' with events := { g'.events with mode := c.overflowMode } },
    by rw [rest_events, hrest', State.clamped, hclamped]; exact hrest, by rfl, by rfl⟩

/-- R188: no configuration command is held for the loader. -/
theorem releaseConfig_idle (h : s.service.port = .idle) : releaseConfig s = s := by
  unfold releaseConfig
  rw [h]

/-- R188: a configuration command held for the loader makes its request. -/
theorem releaseConfig_held {c : Byte} {params : List Byte} (h : s.service.port = .executing c params .imageRead) :
    releaseConfig s = requestConfig c params s := by
  unfold releaseConfig
  rw [h]

/-! ## The tables (R31, R97) -/

/-- R31: every entry of the watch list names an origin, and no entry names the own station as its velocity source. -/
theorem buildWatch_entries {station i : Nat} {ws : List WatchConfig} {placed : List (Nat × WatchEntry)}
    (h : ∀ e ∈ placed, 1 ≤ e.2.origin ∧ e.2.source ≠ station ∨ 1 ≤ e.2.origin ∧ e.2.source = 0) :
    ∀ e ∈ (buildWatch station i ws placed).1,
      1 ≤ e.2.origin ∧ e.2.source ≠ station ∨ 1 ≤ e.2.origin ∧ e.2.source = 0 := by
  induction ws generalizing i placed with
  | nil => exact h
  | cons w ws ih =>
    unfold buildWatch
    split
    · exact ih h
    · split
      · exact ih h
      · split
        · exact ih h
        · rename_i horigin _ _ _
          refine ih fun e he => ?_
          obtain he | he := List.mem_append.1 he
          · exact h e he
          · obtain rfl := List.mem_singleton.1 he
            have hw : 1 ≤ (watchEntry station w).origin := Nat.one_le_iff_ne_zero.2 horigin
            by_cases hsource : w.source = station
            · exact .inr ⟨hw, if_pos hsource⟩
            · exact .inl ⟨hw, by simp [watchEntry, hsource]⟩

/-- R97: the zone table keeps what is placed first. -/
theorem buildZones_head {i z : Nat} {zs placed : List Nat} (h : placed.head? = some z) :
    (buildZones i zs placed).1.head? = some z := by
  induction zs generalizing i placed with
  | nil => exact h
  | cons n zs ih =>
    unfold buildZones
    split
    · exact ih h
    · split
      · exact ih h
      · exact ih (by simp [h])

/-- R97: the zone table holds no more than is placed and tracked. -/
theorem buildZones_length {i : Nat} {zs placed : List Nat} :
    (buildZones i zs placed).1.length ≤ placed.length + zs.length := by
  induction zs generalizing i placed with
  | nil => exact le_refl _
  | cons n zs ih =>
    unfold buildZones
    split
    · exact ih.trans (by simp)
    · split
      · exact ih.trans (by simp)
      · exact ih.trans (by simp; omega)

/-- R97: the zone table begins with the home zone. -/
theorem installSet_head (c : ConfigSet) (s : State) :
    (installSet c s).zones.zones.head?.map Zone.zone = some c.homeZone := by
  have hhead := buildZones_head (i := 0) (zs := c.tracked) (placed := [c.homeZone]) rfl
  change ((buildZones 0 c.tracked [c.homeZone]).1.map startZone).head?.map Zone.zone = some c.homeZone
  rw [List.head?_map, hhead]
  rfl

/-- R97: the zone table holds the home zone and no more than the tracked zones besides. -/
theorem installSet_zones_length (c : ConfigSet) (s : State) :
    (installSet c s).zones.zones.length ≤ 1 + c.tracked.length := by
  change ((buildZones 0 c.tracked [c.homeZone]).1.map startZone).length ≤ _
  rw [List.length_map]
  exact buildZones_length

/-- R21: a channel at the hand-over. -/
theorem startChannel_state (k : ChannelConfig) :
    (startChannel k).state = (if k.enabled = true then .settling else .off) ∧ (startChannel k).baseline = none := by
  unfold startChannel
  split <;> exact ⟨rfl, rfl⟩

/-- R175, R188: the memory does not answer a READ_CONFIG. -/
theorem configUnanswered_read {params : List Byte} (h : s.service.port = .executing 0x0A params .configMemory) :
    configUnanswered s = { s with
      startup := { s.startup with memoryDeadline := none }
      service := { s.service with reply := 2 :: List.replicate 21 0, status := statusOk, port := .idle } } := by
  unfold configUnanswered
  rw [h]
  rfl

end

/-- Settles O19: the RESET event joins the queue, and start-up goes on to the image or fails. -/
theorem resettingEndReadsTheSwitches : Obligations.ResettingEndReadsTheSwitches := by
  refine ⟨fun station rate s hs hscan hroom hzones hstation => ?_, fun rate s hs hscan hroom hzones => ?_⟩
  · have hn : station.toNat ≠ 0 := fun h => hstation (BitVec.eq_of_toNat_eq h)
    refine congrArg Host.Outcome.next ((if_pos hs).trans ?_)
    have hposted := post_reset hscan hroom hzones station.toNat rate.toNat
    rw [State.switchesRead] at hposted
    rw [beginStart, hposted, if_neg hn]
    rfl
  · refine congrArg Host.Outcome.next ((if_pos hs).trans ?_)
    have hposted := post_reset hscan hroom hzones 0 rate.toNat
    rw [State.switchesRead, Nat.add_zero] at hposted
    change beginStart 0 rate.toNat s = _
    rw [beginStart, Nat.add_zero, hposted, if_pos rfl]
    rfl

/-- Settles O20: every block's values are those of the set read from the image; a refused image and a silent memory fail
start-up. -/
theorem imageIsJudgedAndHandedOver : Obligations.ImageIsJudgedAndHandedOver := by
  refine ⟨fun s hs hport hbad => ?_, fun s hs hport hgood => ?_, fun s hs hport hdue => ?_,
    fun s params hs hport hdue => ?_⟩
  · rw [exec_imageReadEnd hs, judgeImage_refused hbad, releaseConfig_idle (by exact hport), State.imageRead,
      imageByte_image_zero]
    rfl
  · obtain ⟨c, hc⟩ : ∃ c, (readConfigSet s.image).value = c := ⟨_, rfl⟩
    obtain ⟨n, g, hrest, hmode, hjudged⟩ := judgeImage_installs hc hgood
    have htracked : c.tracked.length = 7 := hc ▸ (readConfigSet_tracked s.image).1
    have hversion : imageByte s.image 0 = 1 := by
      simp only [State.image, imageAccepted, Bool.and_eq_true, decide_eq_true_eq] at hgood ⊢
      exact hgood.1.2
    rw [exec_imageReadEnd hs, hjudged, releaseConfig_idle (by exact hport)]
    refine ⟨_, rfl, congrArg some hc.symm, rfl, rfl, congrArg some hversion, rfl, rfl, fun ch => ?_, fun ch => ?_,
      fun v => ?_, rfl, ?_, fun z hz => ?_, ?_, fun e he => ?_, hmode, ?_⟩
    · fin_cases ch <;> exact (startChannel_state _).1
    · fin_cases ch <;> exact (startChannel_state _).2
    · fin_cases v <;> exact ⟨rfl, rfl, rfl⟩
    · exact installSet_head c s
    · obtain ⟨n, -, rfl⟩ := List.mem_map.1 hz
      exact ⟨rfl, rfl⟩
    · have := installSet_zones_length c s
      rw [htracked] at this
      exact this
    · obtain ⟨e', he', rfl⟩ := List.mem_map.1 he
      exact buildWatch_entries (placed := []) (fun _ he => absurd he List.not_mem_nil) e' he'
    · exact eq_withLogOf (by exact hrest) rfl
  · refine congrArg Host.Outcome.next ((if_pos hdue).trans ((if_pos hs).trans ?_))
    rw [releaseConfig_idle (by exact hport)]
    rfl
  · exact congrArg Host.Outcome.next ((if_pos hdue).trans ((if_neg hs).trans (configUnanswered_read hport)))

end Sys2Proof.Machine
end

section
/-! PROOF. The configuration commands (R188): the settlement of O60. -/
namespace Sys2Proof.Machine

section
variable {s : State}

/-! ## Parameters (A.5) -/

/-- A number of two bytes. -/
theorem number2_bytes2 {n : Nat} (h : n < 65536) : number2 (BitVec.ofNat 8 (n / 256)) (BitVec.ofNat 8 n) = n := by
  simp only [number2, BitVec.toNat_ofNat]
  omega

/-- A.5: the offset parameter of a configuration command. -/
theorem paramOffset_bytes2 (o : Half) (rest : List Byte) : paramOffset (bytes2 o.toNat ++ rest) = o.toNat :=
  number2_bytes2 o.isLt

/-- A 32-bit number as its four bytes. -/
theorem bytes4_injective {a b : BitVec 32} : bytes4 a.toNat = bytes4 b.toNat ↔ a = b := by
  refine ⟨fun h => BitVec.eq_of_toNat_eq ?_, fun h => by rw [h]⟩
  simp only [bytes4, List.cons.injEq, ← BitVec.toNat_inj, BitVec.toNat_ofNat, and_true] at h
  omega

/-- A.5: the data parameter of WRITE_CONFIG. -/
theorem configData_bytes (o : Half) (d : BitVec 32) :
    configData (bytes2 o.toNat ++ bytes4 d.toNat ++ [0, 0]) = bytes4 d.toNat := rfl

/-! ## The request (R188) -/

/-- R188: a request once the loader has read the image. -/
theorem requestConfig_asks (hs : s.startup.stage ≠ some .image) (c : Byte) (params : List Byte) :
    requestConfig c params s = holdCommand c params .configMemory
      { s with startup := { s.startup with memoryDeadline := some (later s.time 50) } } :=
  if_neg hs

/-- R188: what a request changes. -/
theorem requestConfig_fields (hs : s.startup.stage ≠ some .image) (c : Byte) (params : List Byte) :
    (requestConfig c params s).service = { s.service with port := .executing c params .configMemory }
      ∧ (requestConfig c params s).startup.memoryDeadline = some (later s.time 50)
      ∧ (requestConfig c params s).configMemory = s.configMemory := by
  rw [requestConfig_asks hs]
  exact ⟨rfl, rfl, rfl⟩

/-- R188: a request while the loader reads the image. -/
theorem requestConfig_held (hs : s.startup.stage = some .image) (c : Byte) (params : List Byte) :
    requestConfig c params s = holdCommand c params .imageRead s :=
  if_pos hs

/-- R188: the parameter test of READ_CONFIG. -/
theorem paramsGood_readConfig (o : Half) (s : State) :
    paramsGood 0x0A (padParams (bytes2 o.toNat)) s = decide (o.toNat ≤ 496) :=
  congrArg (fun n => decide (n ≤ 496)) (paramOffset_bytes2 o _)

/-- R188: the parameter test of WRITE_CONFIG. -/
theorem paramsGood_writeConfig (o : Half) (d : BitVec 32) (s : State) :
    paramsGood 0x0B (padParams (bytes2 o.toNat ++ bytes4 d.toNat)) s
      = (decide (o.toNat ≤ 508) && decide (o.toNat % 4 = 0)) :=
  congrArg (fun n => decide (n ≤ 508) && decide (n % 4 = 0)) (paramOffset_bytes2 o _)

/-- R188: READ_CONFIG in range makes its request. -/
theorem exec_readConfig (h : s.portReady) {o : Half} (ho : o.toNat ≤ 496) :
    exec (.readConfig o) s
      = .next (requestConfig 0x0A (bytes2 o.toNat ++ [0, 0, 0, 0, 0, 0]) (s.taken (bytes2 o.toNat))) :=
  congrArg Host.Outcome.next (giveCommand_good h (by decide) rfl (fun h => absurd h (by decide))
    ((paramsGood_readConfig o s).trans (decide_eq_true ho)))

/-- R188: WRITE_CONFIG in range with K1 makes its request. -/
theorem exec_writeConfig (h : s.portReady) (hkey : s.portKey = true) {o : Half} {d : BitVec 32} (ho : o.toNat ≤ 508)
    (hfour : o.toNat % 4 = 0) :
    exec (.writeConfig o d) s
      = .next (requestConfig 0x0B (bytes2 o.toNat ++ bytes4 d.toNat ++ [0, 0])
          (s.taken (bytes2 o.toNat ++ bytes4 d.toNat))) :=
  congrArg Host.Outcome.next (giveCommand_good h (by decide) rfl (fun _ => hkey)
    ((paramsGood_writeConfig o d s).trans (by simp [ho, hfour])))

/-! ## The memory's answer (R175, R188) -/

/-- R188: an answer within the 50 ms. -/
theorem exec_configMemoryAnswer_inTime (h : s.answerLate = false) (back : BitVec 32) :
    exec (.configMemoryAnswer back) s = .next (acceptAnswer back s) :=
  congrArg Host.Outcome.next (if_neg (by simp [h]))

/-- R188: an answer after the 50 ms is none. -/
theorem exec_configMemoryAnswer_late {d : Instant} (hd : s.startup.memoryDeadline = some d)
    (hlate : before d s.time = true) (back : BitVec 32) :
    exec (.configMemoryAnswer back) s = .next (configUnanswered s) :=
  congrArg Host.Outcome.next (if_pos (by simp [State.answerLate, hd, hlate]))

/-- R188: the memory answers a READ_CONFIG. -/
theorem acceptAnswer_read {params : List Byte} (h : s.service.port = .executing 0x0A params .configMemory)
    (back : BitVec 32) :
    acceptAnswer back s = complete statusOk (0 :: Memory.readBytes s.configMemory (paramOffset params) 16)
      { s with startup := { s.startup with memoryDeadline := none } } := by
  unfold acceptAnswer
  rw [h]
  rfl

/-- R188: the memory answers a WRITE_CONFIG. -/
theorem acceptAnswer_write {params : List Byte} (h : s.service.port = .executing 0x0B params .configMemory)
    (back : BitVec 32) :
    acceptAnswer back s = complete statusOk [if bytes4 back.toNat = configData params then 1 else 2]
      { s with
        startup := { s.startup with memoryDeadline := none }
        configMemory := Memory.writeBytes (paramOffset params) (bytes4 back.toNat) s.configMemory } := by
  unfold acceptAnswer
  rw [h]
  rfl

/-- R188: the memory does not answer a WRITE_CONFIG, of which free values say what it has left. -/
theorem configUnanswered_write {params : List Byte} (h : s.service.port = .executing 0x0B params .configMemory) :
    configUnanswered s = complete statusOk [2]
      { s with
        startup := { s.startup with memoryDeadline := none }
        configMemory := Memory.writeBytes (paramOffset params)
          ([0, 1, 2, 3].map (Config.unansweredConfigByte s.freeCount)) s.configMemory
        freeCount := s.freeCount + 1 } := by
  unfold configUnanswered
  rw [h]
  rfl

/-- R188: a WRITE_CONFIG that is never answered leaves every byte but its own four. -/
theorem configUnanswered_write_frame {o : Half} {d : BitVec 32}
    (h : s.service.port = .executing 0x0B (bytes2 o.toNat ++ bytes4 d.toNat ++ [0, 0]) .configMemory) :
    (∀ a : Nat, (a < o.toNat ∨ o.toNat + 4 ≤ a) →
        Memory.read (configUnanswered s).configMemory a = Memory.read s.configMemory a)
      ∧ configUnanswered s
        = { s with
            startup := { s.startup with memoryDeadline := none }
            service := { s.service with status := statusOk, port := .idle, reply := 2 :: List.replicate 21 0 }
            configMemory := (configUnanswered s).configMemory, freeCount := s.freeCount + 1 } := by
  have hoffset : paramOffset (bytes2 o.toNat ++ bytes4 d.toNat ++ [0, 0]) = o.toNat := paramOffset_bytes2 o _
  rw [configUnanswered_write h, hoffset]
  exact ⟨fun a ha => Memory.read_writeBytes_other ha, rfl⟩

/-- Bytes written to a memory in canonical form read back. -/
theorem readBytes_writeBytes {a n : Nat} {bs : List Byte} {m : Memory} (h : Memory.wf m) (hn : n = bs.length) :
    Memory.readBytes (Memory.writeBytes a bs m) a n = bs := by
  subst hn
  refine List.ext_getElem (by simp [Memory.readBytes]) fun i hi _ => ?_
  simp only [Memory.readBytes, List.getElem_map, List.getElem_range]
  exact Memory.read_writeBytes_same h _

/-- R188: what the port waits for stands through the hand-over and through a failure of start-up. -/
theorem judgeImage_leaves (s : State) :
    (judgeImage s).service = s.service ∧ (judgeImage s).configMemory = s.configMemory
    ∧ (judgeImage s).time = s.time ∧ (judgeImage s).startup.stage ≠ some .image := by
  cases h : imageAccepted s.image with
  | true =>
    obtain ⟨n, g, -, -, hjudged⟩ := judgeImage_installs rfl h
    rw [hjudged]
    exact ⟨rfl, rfl, rfl, by simp⟩
  | false =>
    rw [judgeImage_refused h]
    exact ⟨rfl, rfl, rfl, nofun⟩

/-- R188: at the end of the loader's read a configuration command held for it makes its request. -/
theorem exec_imageReadEnd_held {c : Byte} {params : List Byte} (hs : s.startup.stage = some .image)
    (hport : s.service.port = .executing c params .imageRead) :
    ∃ t, exec .imageReadEnd s = .next t ∧ t.service = { s.service with port := .executing c params .configMemory }
      ∧ t.startup.memoryDeadline = some (later s.time 50) ∧ t.configMemory = s.configMemory := by
  obtain ⟨hservice, hmemory, htime, hstage⟩ := judgeImage_leaves s
  obtain ⟨hservice', htime', hmemory'⟩ := requestConfig_fields hstage c params
  refine ⟨_, (exec_imageReadEnd hs).trans (congrArg _ (releaseConfig_held (by rw [hservice]; exact hport))), ?_⟩
  rw [hservice', hmemory', htime', hservice, hmemory, htime]
  exact ⟨rfl, rfl, rfl⟩

/-- R188, log 7: the memory's silence is taken before all else that is due. -/
theorem dueCommand_memory {c : Byte} {params : List Byte} {d : Instant}
    (hport : s.service.port = .executing c params .configMemory) (hd : s.startup.memoryDeadline = some d)
    (hdue : before s.time d = false) : dueCommand s = some .memoryAnswerTimeout := by
  have hmemory : memoryDue s = true := by
    simp [memoryDue, hport, hd, due, hdue]
  rw [dueCommand, List.find?_cons_of_pos (by exact hmemory)]
  rfl

/-- Log 7: on an empty queue the memory's silence is taken by itself. -/
theorem step_memoryTimeout (hp : s.pending = []) (hd : dueCommand s = some .memoryAnswerTimeout) :
    step s = exec .memoryAnswerTimeout s := by
  rw [step_idle hp, idle, hd]

end

/-- Settles O60: each configuration command is judged by offset and key and makes its request, which the memory's answer
or silence completes. -/
theorem configurationCommandsAskTheMemory : Obligations.ConfigurationCommandsAskTheMemory := by
  refine ⟨fun o s h ho hs => ?_, fun o s h ho hs => ?_, fun o s h ho => ?_, fun o d s h hkey ho hfour hs => ?_,
    fun o d s h hkey => ?_, fun o d s h hkey ho => ?_, fun o back s hport hlate => ?_,
    fun o d back s hwf hport hlate => ?_, fun o back s d hport hd hlate => ?_, fun o d s h hkey ho hfour hs => ?_,
    fun o d back s e hport he hlate => ?_, fun o d s hport hs hdue => ?_, fun c params s hs hport => ?_,
    fun c params s hs hport hdue => ?_, fun s c params d hpending hport hd hdue => ?_⟩
  · rw [exec_readConfig h ho, requestConfig_asks (by exact hs)]
    rfl
  · rw [exec_readConfig h ho, requestConfig_held (by exact hs)]
    rfl
  · exact congrArg Host.Outcome.next (reading_bad h (by decide) rfl rfl
      ((paramsGood_readConfig o s).trans (decide_eq_false (Nat.not_le.2 ho))))
  · rw [exec_writeConfig h hkey ho hfour, requestConfig_asks (by exact hs)]
    rfl
  · exact congrArg Host.Outcome.next (giveCommand_keyRequired h (by decide) rfl rfl hkey _)
  · refine congrArg Host.Outcome.next (giveCommand_badParam h (by decide) rfl (fun _ => hkey)
      ((paramsGood_writeConfig o d s).trans ?_))
    rw [Bool.and_eq_false_iff, decide_eq_false_iff_not, decide_eq_false_iff_not, Nat.not_le]
    exact ho
  · rw [exec_configMemoryAnswer_inTime hlate, acceptAnswer_read hport, paramOffset_bytes2]
    rfl
  · refine ⟨_, exec_configMemoryAnswer_inTime hlate back, ?_⟩
    have hoffset : paramOffset (bytes2 o.toNat ++ bytes4 d.toNat ++ [0, 0]) = o.toNat := paramOffset_bytes2 o _
    rw [acceptAnswer_write hport, hoffset, configData_bytes]
    refine ⟨?_, readBytes_writeBytes hwf.1 rfl, fun a ha => Memory.read_writeBytes_other ha, rfl⟩
    simp only [bytes4_injective]
    rfl
  · rw [exec_configMemoryAnswer_late hd hlate, configUnanswered_read hport]
  · rw [exec_writeConfig h hkey ho hfour, requestConfig_held (by exact hs)]
    rfl
  · exact ⟨_, exec_configMemoryAnswer_late he hlate back, configUnanswered_write_frame hport⟩
  · exact ⟨_, congrArg Host.Outcome.next ((if_pos hdue).trans (if_neg hs)), configUnanswered_write_frame hport⟩
  · exact exec_imageReadEnd_held hs hport
  · refine congrArg Host.Outcome.next ((if_pos hdue).trans ((if_pos hs).trans ?_))
    rw [releaseConfig_held (by exact hport), requestConfig_asks (by simp [failStart])]
    rfl
  · exact step_memoryTimeout hpending (dueCommand_memory hport hd hdue)

end Sys2Proof.Machine
end

section
/-! SUPPORT. The log store's operations (R162 to R169): what they leave of array, headers, table and buffer. -/
namespace Sys2Proof.Machine

section
variable {s t u : State} {g k : LogSystem}

/-! ## States by their parts -/

/-- States with the same parts. -/
theorem state_ext (htime : s.time = t.time) (hstartup : s.startup = t.startup) (hconfig : s.config = t.config)
    (hinputs : s.inputs = t.inputs) (hchannels : s.channels = t.channels) (hflow : s.flow = t.flow)
    (hwatch : s.watch = t.watch) (hvalves : s.valves = t.valves) (hline : s.line = t.line) (hpeers : s.peers = t.peers)
    (hzones : s.zones = t.zones) (hsequencer : s.sequencer = t.sequencer) (hdoors : s.doors = t.doors)
    (hsirens : s.sirens = t.sirens) (hlog : s.log = t.log) (hservice : s.service = t.service)
    (hmemory : s.configMemory = t.configMemory) (hfree : s.freeCount = t.freeCount) (hpending : s.pending = t.pending) :
    s = t := by
  cases s
  cases t
  simp_all

/-- Siren units with the same sirens differ in summary and relay. -/
theorem sirens_eq {x y : SirenUnit} (h : x.sirens = y.sirens) :
    x = { y with summary := x.summary, relay := x.relay } := by
  rw [← h]

/-! ## Equal but for what posting changes -/

/-- Logs that agree but for what posting changes: table, marks and array. -/
theorem rest_elim (h : g.rest = k.rest) : g.store.table = k.store.table ∧ g.store.position = k.store.position
    ∧ g.store.programmed = k.store.programmed ∧ g.store.nextSequence = k.store.nextSequence ∧ g.array = k.array
    ∧ ∀ b : Fin 16, g.headers[b].marks = k.headers[b].marks := by
  simp only [LogSystem.rest, LogStore.rest, LogSystem.mk.injEq, LogStore.mk.injEq, true_and, and_true] at h
  obtain ⟨⟨htable, hposition, hprogrammed, hnext⟩, hheaders, harray⟩ := h
  refine ⟨htable, hposition, hprogrammed, hnext, harray, fun b => ?_⟩
  have hb := congrArg (·[b]) hheaders
  simpa using hb

/-- Headers that agree but for their program counts. -/
theorem marks_elim {x y : BlockHeader} (h : x.marks = y.marks) :
    x.sequence = y.sequence ∧ x.isProtected = y.isProtected ∧ x.retired = y.retired := by
  simpa [BlockHeader.marks] using h

/-- R162, R163: a return to IDLE changes what posting changes. -/
@[simp] theorem rest_returnToIdle (stamp : Record) (whole : Bool) (g : LogSystem) :
    (returnToIdle stamp whole g).rest = g.rest := by
  have htaken : (takeWaiting stamp 32 { g with store := { g.store with state := .idle } }).rest = g.rest :=
    rest_takeWaiting _ _ _
  unfold returnToIdle
  dsimp only
  split
  · rw [rest_startProgram]
    exact htaken
  · exact htaken

/-- R162: nothing is taken from an empty queue. -/
theorem takeWaiting_empty (stamp : Record) (n : Nat) (h : g.events.queue = []) : takeWaiting stamp n g = g := by
  cases n with
  | zero => rfl
  | succ n => exact if_neg fun hc => hc.2 h

/-- R162, R163: a return to IDLE with nothing waiting and nothing to program. -/
theorem returnToIdle_quiet (stamp : Record) (whole : Bool) (hq : g.events.queue = []) (hu : g.store.unprogrammed = []) :
    returnToIdle stamp whole g = { g with store := { g.store with state := .idle, flushPending := false } } := by
  have htaken := takeWaiting_empty stamp 32 (g := { g with store := { g.store with state := .idle } }) hq
  unfold returnToIdle
  rw [htaken]
  exact if_neg fun h => h.1 hu

/-- R164: a program starts at the write position. -/
theorem state_startProgram {b p : Fin 16} (h : g.store.position = some (b, p)) :
    (startProgram g).store = { g.store with state := .programming } := by
  unfold startProgram
  rw [h]

/-- R164: a program that starts raises its page's program count. -/
theorem counts_startProgram {b p : Fin 16} (h : g.store.position = some (b, p)) :
    (startProgram g).headers[b].counts[p] = g.headers[b].counts[p] + 1 := by
  unfold startProgram
  rw [h]
  simp

/-- R166: after an erase the buffered records are programmed again. -/
theorem state_returnToIdle_whole {stamp : Record} {b p : Fin 16} (hp : g.store.position = some (b, p))
    (hu : g.store.unprogrammed ≠ []) : (returnToIdle stamp true g).store.state = .programming := by
  have hgrows := takeWaiting_grows stamp 32 { g with store := { g.store with state := .idle } }
  obtain ⟨-, hposition, hprogrammed, -⟩ := rest_elim
    (rest_takeWaiting stamp 32 { g with store := { g.store with state := .idle } })
  have hstill : (takeWaiting stamp 32 { g with store := { g.store with state := .idle } }).store.unprogrammed ≠ [] := by
    obtain ⟨more, hmore⟩ := hgrows
    simp only [LogStore.unprogrammed, ne_eq, List.drop_eq_nil_iff, Nat.not_le] at hu ⊢
    rw [hprogrammed, ← hmore, List.length_append]
    exact Nat.lt_of_lt_of_le hu (Nat.le_add_right _ _)
  unfold returnToIdle
  dsimp only
  rw [if_pos ⟨hstill, .inr (.inl rfl)⟩, state_startProgram (b := b) (p := p) (by exact hposition.trans hp)]

/-! ## Reports while the log store is not IDLE -/

/-- What events posted and faults reported change while the log store is not IDLE. -/
def ReportsOnly (s t : State) : Prop :=
  t = { s with
    log := { s.log with events := t.log.events }
    sirens := { s.sirens with summary := t.sirens.summary, relay := t.sirens.relay } }

/-- Reports after reports. -/
theorem ReportsOnly.trans (h : ReportsOnly s t) (h' : ReportsOnly t u) : ReportsOnly s u := by
  rw [ReportsOnly] at h h' ⊢
  rw [h', h]

/-- An event posted while the log store is not IDLE. -/
theorem reportsOnly_post (h : s.log.store.state ≠ .idle) (kind : EventKind) (subject value1 value2 flags : Nat) :
    ReportsOnly s (post kind subject value1 value2 flags s) := by
  have hlog := log_post_of_not_idle kind subject value1 value2 flags h
  have hpost : post kind subject value1 value2 flags s
      = { s with log := (post kind subject value1 value2 flags s).log } := rfl
  rw [ReportsOnly, hpost, hlog]

/-- The summary and the relay replaced. -/
theorem reportsOnly_faults (s : State) (f : FaultSummary) (r : Bool) :
    ReportsOnly s { s with sirens := { s.sirens with summary := f, relay := r } } := rfl

/-- A fault reported while the log store is not IDLE. -/
theorem reportsOnly_reportFault (h : s.log.store.state ≠ .idle) (m : FaultMember) (b : Bool) :
    ReportsOnly s (reportFault m b s) := by
  unfold reportFault
  dsimp only
  split
  · exact ReportsOnly.trans (reportsOnly_faults s _ _) (reportsOnly_post (by exact h) _ _ _ _ _)
  · rfl

/-! ## The search (R165, R166, R169) -/

/-- R165: the block found is usable. -/
theorem usable_of_nextUsable {l : LogStore} {b k : Fin 16} (h : nextUsable l b = some k) :
    l.table[k].usable = true := by
  unfold nextUsable at h
  split at h
  · exact List.find?_some (p := fun k : Fin 16 => l.table[k].usable) h
  · exact absurd h nofun

/-- R165: a usable block is found, at the latest the present one. -/
theorem nextUsable_isSome {l : LogStore} {b : Fin 16} (hn : l.nextSequence ≤ 4294967294)
    (hb : l.table[b].usable = true) : (nextUsable l b).isSome = true := by
  rw [nextUsable, if_pos hn, List.find?_isSome]
  exact ⟨b, List.mem_map.2 ⟨0, by decide, by simp⟩, hb⟩

/-- R165, R166, R169: what a search leads to: an erase of a usable block, or FULL. -/
theorem searchFrom_cases (b : Fin 16) (s : State) :
    (∃ k, nextUsable s.log.store b = some k ∧ ReportsOnly { s with log := startErase k s.log } (searchFrom b s))
      ∨ nextUsable s.log.store b = none ∧ ReportsOnly { s with log := enterFull s.log } (searchFrom b s) := by
  unfold searchFrom
  split
  case h_1 k hk => exact .inl ⟨k, hk, reportsOnly_reportFault (by simp [startErase]) _ _⟩
  case h_2 hnone => exact .inr ⟨hnone, reportsOnly_reportFault (by simp [enterFull]) _ _⟩

/-- R165, R169: a search leaves table, buffer, mark and array, and the header of every block that is not usable; the log
store is ERASING or FULL. -/
theorem searchFrom_leaves (b : Fin 16) (s : State) :
    (searchFrom b s).log.store.table = s.log.store.table ∧ (searchFrom b s).log.store.buffer = s.log.store.buffer
      ∧ (searchFrom b s).log.store.programmed = s.log.store.programmed ∧ (searchFrom b s).log.array = s.log.array
      ∧ ((searchFrom b s).log.store.state = .erasing ∨ (searchFrom b s).log.store.state = .full)
      ∧ (searchFrom b s).sirens.sirens = s.sirens.sirens
      ∧ ∀ k : Fin 16, s.log.store.table[k].usable = false → (searchFrom b s).log.headers[k] = s.log.headers[k] := by
  obtain ⟨k, hk, hreports⟩ | ⟨-, hreports⟩ := searchFrom_cases b s
  · rw [hreports]
    refine ⟨rfl, rfl, rfl, rfl, .inl rfl, rfl, fun i hi => ?_⟩
    have hne : k ≠ i := fun heq => by
      rw [← heq] at hi
      exact Bool.false_ne_true (hi.symm.trans (usable_of_nextUsable hk))
    exact Vector.getElem_set_ne k.isLt i.isLt (fun heq => hne (Fin.ext heq))
  · rw [hreports]
    exact ⟨rfl, rfl, rfl, rfl, .inr rfl, rfl, fun _ _ => rfl⟩

/-- R168: the retirement of a block while the log store is not IDLE. -/
theorem reportsOnly_retire (h : s.log.store.state ≠ .idle) (b : Fin 16) (cause : Nat) :
    ReportsOnly { s with log := retireBlock b s.log } (retire b cause s) := by
  have hpost := reportsOnly_post (s := { s with log := retireBlock b s.log }) h .logRetire b.val cause
    (retireBlock b s.log).store.retiredCount 0
  unfold retire
  dsimp only
  split
  · exact hpost.trans (reportsOnly_reportFault (by rw [hpost]; exact h) _ _)
  · exact hpost

end

end Sys2Proof.Machine
end

section
/-! PROOF. The completions of page programs and erases (R164 to R168): the settlement of O55 and O56. -/
namespace Sys2Proof.Machine

section
variable {s : State}

/-! ## Bytes (R164, R166) -/

/-- Bytes cleared read as the blank byte. -/
theorem read_clearSome_same {a n x : Nat} {m : Memory} (hlow : a ≤ x) (hhigh : x < a + n) :
    Memory.read (Memory.clearSome (fun _ => true) a n m) x = blankByte := by
  induction m with
  | nil => rfl
  | cons c t ih =>
    obtain ⟨k, v⟩ := c
    simp only [Memory.clearSome, List.filter_cons] at ih ⊢
    split
    case isTrue hk =>
      have hne : k ≠ x := fun heq => by simp [heq, hlow, hhigh] at hk
      rw [Memory.read, if_neg hne]
      exact ih
    case isFalse => exact ih

/-! ## A page program done (R164, R165) -/

/-- R164: the node once the program's records are committed and a held READ_LOG is served. -/
def committed (b p : Fin 16) (s : State) : State := serveHeldLog { s with log := (commitProgram b p s.log).1 }

/-- R164: what the commit changes of the node. -/
theorem committed_frame (b p : Fin 16) (s : State) :
    committed b p s = { s with log := (commitProgram b p s.log).1, service := (committed b p s).service } := by
  unfold committed serveHeldLog
  split <;> rfl

/-- R164: the log once the program's records are committed. -/
theorem log_committed (b p : Fin 16) (s : State) : (committed b p s).log = (commitProgram b p s.log).1 := by
  rw [committed_frame]

/-- R164: a page program done: the page closes or stays open. -/
theorem programDone_eq (b p : Fin 16) (s : State) :
    programDone b p s
      = if pageCloses b p (commitProgram b p s.log).2 (commitProgram b p s.log).1 = true then
          advance b p { committed b p s with log := emptyBuffer (commitProgram b p s.log).1 }
        else idleLog false (committed b p s) := by
  rw [← log_committed]
  rfl

/-- R164: every record of the buffer is programmed once its program is committed. -/
theorem unprogrammed_commitProgram (b p : Fin 16) (g : LogSystem) :
    (commitProgram b p g).1.store.unprogrammed = [] := by
  simp [commitProgram, LogStore.unprogrammed]

/-- R164: the block table and the headers stand where no record has context FIRE. -/
theorem commitProgram_noFire {b p : Fin 16} {g : LogSystem}
    (h : g.store.unprogrammed.any (fun r => decide (r.context = .fire)) = false) :
    (commitProgram b p g).2 = false ∧ (commitProgram b p g).1.headers = g.headers
      ∧ (commitProgram b p g).1.store = { g.store with programmed := g.store.buffer.length } := by
  simp [commitProgram, h]

/-- R164: a record of context FIRE protects the block. -/
theorem commitProgram_fire {b p : Fin 16} {g : LogSystem}
    (h : g.store.unprogrammed.any (fun r => decide (r.context = .fire)) = true) :
    (commitProgram b p g).1.store.table[b].isProtected = true ∧ (commitProgram b p g).1.headers[b].isProtected
      = true := by
  simp [commitProgram, h]

/-- R165: the advance of the write position leaves table, array and the header of a block that is not usable, and
changes no more than log and fault reports. -/
theorem advance_leaves (b p : Fin 16) (s : State) :
    (advance b p s).log.store.table = s.log.store.table ∧ (advance b p s).log.array = s.log.array
      ∧ (s.log.store.table[b].usable = false → (advance b p s).log.headers[b].isProtected
        = s.log.headers[b].isProtected)
      ∧ (advance b p s).sirens.sirens = s.sirens.sirens := by
  unfold advance
  split
  case isTrue =>
    obtain ⟨htable, -, -, -, harray, hmarks⟩ := rest_elim (rest_returnToIdle s.stamp false
      { s.log with store := { s.log.store with position := some (b, p + 1) } })
    exact ⟨htable, harray, fun _ => (marks_elim (hmarks b)).2.1, rfl⟩
  case isFalse =>
    obtain ⟨htable, -, -, harray, -, hsirens, hheaders⟩ := searchFrom_leaves b s
    exact ⟨htable, harray, fun h => by rw [hheaders b h], hsirens⟩

/-- R164: what a page program done leaves of the committed table, array and mark. -/
theorem programDone_leaves (b p : Fin 16) (s : State) :
    (programDone b p s).log.store.table = (commitProgram b p s.log).1.store.table
      ∧ (programDone b p s).log.array = (commitProgram b p s.log).1.array
      ∧ ((commitProgram b p s.log).1.store.table[b].usable = false →
        (programDone b p s).log.headers[b].isProtected = (commitProgram b p s.log).1.headers[b].isProtected)
      ∧ (programDone b p s).sirens.sirens = s.sirens.sirens := by
  have hsirens : (committed b p s).sirens = s.sirens := by rw [committed_frame]
  rw [programDone_eq]
  split
  case isTrue =>
    obtain ⟨htable, harray, hheader, hkept⟩ := advance_leaves b p
      { committed b p s with log := emptyBuffer (commitProgram b p s.log).1 }
    exact ⟨htable, harray, hheader, by rw [hkept, hsirens]⟩
  case isFalse =>
    obtain ⟨htable, -, -, -, harray, hmarks⟩ := rest_elim (rest_returnToIdle (committed b p s).stamp false
      (committed b p s).log)
    have hlog := log_committed b p s
    refine ⟨htable.trans (by rw [hlog]), harray.trans (by rw [hlog]), fun _ => ?_, congrArg SirenUnit.sirens hsirens⟩
    exact (marks_elim (hmarks b)).2.1.trans (by rw [hlog])

/-- R164: what a page program done changes of the node. -/
theorem programDone_eq_frame (b p : Fin 16) (s : State) :
    programDone b p s = { s with
      log := (programDone b p s).log, service := (programDone b p s).service
      sirens := { s.sirens with
        summary := (programDone b p s).sirens.summary, relay := (programDone b p s).sirens.relay } } := by
  obtain ⟨-, -, -, hsirens⟩ := programDone_leaves b p s
  refine state_ext ?_ ?_ ?_ ?_ ?_ ?_ ?_ ?_ ?_ ?_ ?_ ?_ ?_ (sirens_eq hsirens) rfl rfl ?_ ?_ ?_ <;> simp

/-! ## A page program failed (R167, R168) -/

/-- R168: the retirement of a block while the log store is not IDLE leaves array, buffer and headers but its own
mark. -/
theorem retire_leaves {b : Fin 16} {cause : Nat} (h : s.log.store.state ≠ .idle) :
    (retire b cause s).log.store = (retireBlock b s.log).store ∧ (retire b cause s).log.headers
      = (retireBlock b s.log).headers
      ∧ (retire b cause s).log.array = s.log.array ∧ (retire b cause s).sirens.sirens = s.sirens.sirens := by
  rw [reportsOnly_retire h b cause]
  exact ⟨rfl, rfl, rfl, rfl⟩

/-- R168: the marks of a block that has been retired. -/
theorem retireBlock_marks (b : Fin 16) (g : LogSystem) :
    (retireBlock b g).store.table[b].retired = true ∧ (retireBlock b g).headers[b].retired = true := by
  simp [retireBlock]

/-- R167, R168: a search from a block that has been retired, after a held READ_LOG is served: the block stays retired,
and buffer, mark and array stand. -/
theorem searchFrom_retired {b : Fin 16} (htable : s.log.store.table[b].retired = true)
    (hheader : s.log.headers[b].retired = true) :
    (searchFrom b (serveHeldLog s)).log.store.table[b].retired = true
      ∧ (searchFrom b (serveHeldLog s)).log.headers[b].retired = true
      ∧ (searchFrom b (serveHeldLog s)).log.store.buffer = s.log.store.buffer
      ∧ (searchFrom b (serveHeldLog s)).log.store.programmed = s.log.store.programmed
      ∧ (searchFrom b (serveHeldLog s)).log.array = s.log.array
      ∧ ((searchFrom b (serveHeldLog s)).log.store.state = .erasing
        ∨ (searchFrom b (serveHeldLog s)).log.store.state = .full)
      ∧ (searchFrom b (serveHeldLog s)).sirens.sirens = s.sirens.sirens := by
  have hlog : (serveHeldLog s).log = s.log := by simp
  have hsirens : (serveHeldLog s).sirens = s.sirens := by simp
  obtain ⟨htable', hbuffer, hprogrammed, harray, hstate, hkept, hheaders⟩ := searchFrom_leaves b (serveHeldLog s)
  rw [hlog] at htable' hbuffer hprogrammed harray hheaders
  have hunusable : s.log.store.table[b].usable = false := by
    rw [BlockEntry.usable, htable, Bool.not_true, Bool.and_false]
  refine ⟨by rw [htable']; exact htable, ?_, hbuffer, hprogrammed, harray, hstate, by rw [hkept, hsirens]⟩
  rw [hheaders b hunusable]
  exact hheader

/-- R167: a failed page program retires its block, leaves buffer and the bytes outside its records, and searches on. -/
theorem programFailed_leaves (b p : Fin 16) (h : s.log.store.state = .programming) :
    (programFailed b p s).log.store.table[b].retired = true ∧ (programFailed b p s).log.headers[b].retired = true
      ∧ (programFailed b p s).log.store.buffer = s.log.store.buffer ∧ (programFailed b p s).log.store.programmed = 0
      ∧ (programFailed b p s).log.array = (leaveProgram (Config.failedProgramByte s.freeCount)
          (Config.cutProgramMark s.freeCount) b p s.log).array
      ∧ ((programFailed b p s).log.store.state = .erasing ∨ (programFailed b p s).log.store.state = .full)
      ∧ (programFailed b p s).sirens.sirens = s.sirens.sirens
      ∧ (programFailed b p s).freeCount = s.freeCount + 1 := by
  obtain ⟨left, hleft⟩ : ∃ left, { s with
      log := leaveProgram (Config.failedProgramByte s.freeCount) (Config.cutProgramMark s.freeCount) b p s.log
      freeCount := s.freeCount + 1 } = left := ⟨_, rfl⟩
  have hstate : left.log.store.state ≠ .idle := by simp [← hleft, leaveProgram, h]
  obtain ⟨hstore, hheaders, harray, hsirens⟩ := retire_leaves (s := left) (b := b) (cause := 0) hstate
  obtain ⟨hretired, hmark⟩ := retireBlock_marks b left.log
  have hfailed : programFailed b p s = searchFrom b (serveHeldLog { retire b 0 left with
      log := { (retire b 0 left).log with store := { (retire b 0 left).log.store with programmed := 0 } } }) := by
    rw [← hleft]
    rfl
  have hsearched := searchFrom_retired (b := b) (s := { retire b 0 left with
      log := { (retire b 0 left).log with store := { (retire b 0 left).log.store with programmed := 0 } } })
    (by rw [← hstore] at hretired; exact hretired) (by rw [← hheaders] at hmark; exact hmark)
  rw [← hfailed] at hsearched
  obtain ⟨htable', hheader', hbuffer', hprogrammed', harray', hstate', hsirens'⟩ := hsearched
  refine ⟨htable', hheader', hbuffer'.trans ?_, hprogrammed', harray'.trans (harray.trans ?_), hstate',
    hsirens'.trans (hsirens.trans ?_), ?_⟩
  · exact (congrArg LogStore.buffer hstore).trans (by rw [← hleft]; rfl)
  · rw [← hleft]
  · rw [← hleft]
  · rw [hfailed]
    simp [← hleft]

/-- R167: what a failed page program changes of the node. -/
theorem programFailed_eq_frame (b p : Fin 16) (h : s.log.store.state = .programming) :
    programFailed b p s = { s with
      log := (programFailed b p s).log, service := (programFailed b p s).service, freeCount := s.freeCount + 1
      sirens := { s.sirens with
        summary := (programFailed b p s).sirens.summary, relay := (programFailed b p s).sirens.relay } } := by
  obtain ⟨-, -, -, -, -, -, hsirens, hfree⟩ := programFailed_leaves b p h
  refine state_ext ?_ ?_ ?_ ?_ ?_ ?_ ?_ ?_ ?_ ?_ ?_ ?_ ?_ (sirens_eq hsirens) rfl rfl ?_ hfree ?_ <;> simp

/-- R164, R167: the completion of a page program. -/
theorem exec_pageProgramComplete {b p : Fin 16} (h : s.log.store.state = .programming)
    (hp : s.log.store.position = some (b, p)) (success : Bool) :
    exec (.pageProgramComplete success) s
      = .next (if success = true then programDone b p s else programFailed b p s) := by
  change Host.Outcome.next (match s.log.store.state, s.log.store.position with
    | .programming, some (b, p) => if success then programDone b p s else programFailed b p s
    | _, _ => s) = _
  rw [h, hp]

/-! ## Erases (R166, R168) -/

/-- R166, R168: the completion of an erase. -/
theorem exec_eraseComplete {b p : Fin 16} (h : s.log.store.state = .erasing)
    (hp : s.log.store.position = some (b, p)) (success : Bool) :
    exec (.eraseComplete success) s = .next (if success = true then eraseDone b s else eraseFailed b s) := by
  change Host.Outcome.next (match s.log.store.state, s.log.store.position with
    | .erasing, some (b, _) => if success then eraseDone b s else eraseFailed b s
    | _, _ => s) = _
  rw [h, hp]

/-- R166: the log after an erase that has succeeded. -/
theorem log_eraseDone (b : Fin 16) (s : State) :
    (eraseDone b s).log = returnToIdle (serveHeldLog { s with log := commitErase b s.log }).stamp
      (decide (s.log.store.unprogrammed ≠ [])) (commitErase b s.log) := by
  have hlog : (serveHeldLog { s with log := commitErase b s.log }).log = commitErase b s.log := by simp
  change returnToIdle _ _ (serveHeldLog { s with log := commitErase b s.log }).log = _
  rw [hlog]

/-- R166: the block's sequence number and marks after an erase that has succeeded. -/
theorem commitErase_block (b : Fin 16) (g : LogSystem) :
    (commitErase b g).headers[b].sequence = some g.store.nextSequence
      ∧ (commitErase b g).store.table[b] = ⟨some g.store.nextSequence, false, false⟩ := by
  simp [commitErase, clearBlock]

/-- R166: a failed erase retires its block, leaves buffer and the bytes of the other blocks, and searches on. -/
theorem eraseFailed_leaves (b : Fin 16) (h : s.log.store.state = .erasing) :
    (eraseFailed b s).log.store.table[b].retired = true ∧ (eraseFailed b s).log.headers[b].retired = true
      ∧ (eraseFailed b s).log.store.buffer = s.log.store.buffer
      ∧ (eraseFailed b s).log.array = (leaveErase (Config.cutEraseByte s.freeCount)
          (Config.cutEraseCount s.freeCount) b s.log).array
      ∧ ((eraseFailed b s).log.store.state = .erasing ∨ (eraseFailed b s).log.store.state = .full)
      ∧ (eraseFailed b s).sirens.sirens = s.sirens.sirens ∧ (eraseFailed b s).freeCount = s.freeCount + 1 := by
  obtain ⟨left, hleft⟩ : ∃ left, { s with
      log := leaveErase (Config.cutEraseByte s.freeCount) (Config.cutEraseCount s.freeCount) b s.log
      freeCount := s.freeCount + 1 } = left := ⟨_, rfl⟩
  have hstate : left.log.store.state ≠ .idle := by simp [← hleft, leaveErase, h]
  obtain ⟨hstore, hheaders, harray, hsirens⟩ := retire_leaves (s := left) (b := b) (cause := 1) hstate
  obtain ⟨hretired, hmark⟩ := retireBlock_marks b left.log
  have hfailed : eraseFailed b s = searchFrom b (serveHeldLog (retire b 1 left)) := by
    rw [← hleft]
    rfl
  have hsearched := searchFrom_retired (b := b) (s := retire b 1 left) (by rw [hstore]; exact hretired)
    (by rw [hheaders]; exact hmark)
  rw [← hfailed] at hsearched
  obtain ⟨htable', hheader', hbuffer', -, harray', hstate', hsirens'⟩ := hsearched
  refine ⟨htable', hheader', hbuffer'.trans ?_, harray'.trans (harray.trans ?_), hstate',
    hsirens'.trans (hsirens.trans ?_), ?_⟩
  · exact (congrArg LogStore.buffer hstore).trans (by rw [← hleft]; rfl)
  · rw [← hleft]
  · rw [← hleft]
  · rw [hfailed]
    simp [← hleft]

/-- R166: what a failed erase changes of the node. -/
theorem eraseFailed_eq_frame (b : Fin 16) (h : s.log.store.state = .erasing) :
    eraseFailed b s = { s with
      log := (eraseFailed b s).log, service := (eraseFailed b s).service, freeCount := s.freeCount + 1
      sirens := { s.sirens with
        summary := (eraseFailed b s).sirens.summary, relay := (eraseFailed b s).sirens.relay } } := by
  obtain ⟨-, -, -, -, -, hsirens, hfree⟩ := eraseFailed_leaves b h
  refine state_ext ?_ ?_ ?_ ?_ ?_ ?_ ?_ ?_ ?_ ?_ ?_ ?_ ?_ (sirens_eq hsirens) rfl rfl ?_ hfree ?_ <;> simp

end

/-- Settles O55: a completed program commits its records, and the page stays, closes or is searched from; a failed one
retires its block. -/
theorem pageProgramsComplete : Obligations.PageProgramsComplete := by
  refine ⟨fun b p s hwf h hp => ⟨_, exec_pageProgramComplete h hp true, ?_⟩, fun b p s h hp hcount hroom hfire hq
    hflush =>
    ⟨_, exec_pageProgramComplete h hp true, ?_⟩, fun b p s h hp hcount hlast hprotected hretired hfire hq =>
    ⟨_, exec_pageProgramComplete h hp true, ?_⟩, fun b p s h hp => ⟨_, exec_pageProgramComplete h hp false, ?_⟩⟩
  · obtain ⟨htable, harray, hheader, -⟩ := programDone_leaves b p s
    refine ⟨?_, fun a ha => ?_, fun hfire => ?_, programDone_eq_frame b p s⟩
    · rw [if_pos rfl, harray]
      exact readBytes_writeBytes hwf.2 (length_flatten_recordBytes _).symm
    · rw [if_pos rfl, harray]
      exact Memory.read_writeBytes_other (by rwa [length_flatten_recordBytes])
    · obtain ⟨hentry, hmark⟩ := commitProgram_fire (b := b) (p := p) hfire
      rw [if_pos rfl, htable, hheader (by rw [BlockEntry.usable, hentry]; rfl)]
      exact ⟨hentry, hmark⟩
  · obtain ⟨hnot, hheaders, hstore⟩ := commitProgram_noFire (b := b) (p := p) hfire
    have hopen : pageCloses b p (commitProgram b p s.log).2 (commitProgram b p s.log).1 = false := by
      simp [pageCloses, hnot, hheaders, hstore] at hcount ⊢
      omega
    have hquiet := returnToIdle_quiet (committed b p s).stamp false (g := (commitProgram b p s.log).1)
      (by exact hq) (unprogrammed_commitProgram b p s.log)
    rw [if_pos rfl, programDone_eq, if_neg (by simp [hopen]), idleLog, log_committed, hquiet, hstore]
    simp [hflush]
  · obtain ⟨-, hheaders, hstore⟩ := commitProgram_noFire (b := b) (p := p) hfire
    have hcloses : pageCloses b p (commitProgram b p s.log).2 (commitProgram b p s.log).1 = true := by
      rw [pageCloses, hheaders, hcount]
      rfl
    have husable : (commitProgram b p s.log).1.store.table[b].usable = true := by
      rw [hstore, BlockEntry.usable, hprotected, hretired]
      rfl
    rw [if_pos rfl, programDone_eq, if_pos hcloses, advance, if_pos ⟨husable, hlast⟩, idleLog,
      returnToIdle_quiet _ _ (by exact hq) (by exact List.drop_nil)]
    exact ⟨rfl, rfl, rfl, rfl⟩
  · obtain ⟨htable, hheader, hbuffer, hprogrammed, harray, hstate, -⟩ := programFailed_leaves b p h
    refine ⟨htable, hheader, hbuffer, hprogrammed, fun a ha => ?_, hstate, programFailed_eq_frame b p h⟩
    rw [if_neg Bool.false_ne_true, harray]
    exact Memory.read_writeSome_other (by rwa [length_flatten_recordBytes])

/-- Settles O56: a completed erase clears its block and gives it the next sequence number; a failed one retires it. -/
theorem erasesComplete : Obligations.ErasesComplete := by
  refine ⟨fun b p s h hp => ⟨_, exec_eraseComplete h hp true, ?_⟩, fun b p s h hp =>
    ⟨_, exec_eraseComplete h hp false, ?_⟩⟩
  · obtain ⟨htable, -, -, hnext, harray, hmarks⟩ := rest_elim (rest_returnToIdle
      (serveHeldLog { s with log := commitErase b s.log }).stamp (decide (s.log.store.unprogrammed ≠ []))
      (commitErase b s.log))
    obtain ⟨hsequence, hentry⟩ := commitErase_block b s.log
    have hframe : eraseDone b s = { s with log := (eraseDone b s).log, service := (eraseDone b s).service } := by
      refine state_ext ?_ ?_ ?_ ?_ ?_ ?_ ?_ ?_ ?_ ?_ ?_ ?_ ?_ ?_ rfl rfl ?_ ?_ ?_ <;> simp
    have hcleared : (commitErase b s.log).array
        = Memory.clearSome (fun _ => true) (pageAddress b 0) 8192 s.log.array := rfl
    rw [← log_eraseDone] at htable hnext harray hmarks
    refine ⟨(marks_elim (hmarks b)).1.trans hsequence, by rw [if_pos rfl, htable]; exact hentry, hnext,
      fun a hlow hhigh => ?_, fun a ha => ?_, fun hu => ?_, fun hb hq => ?_, hframe⟩
    · rw [if_pos rfl, harray, hcleared, read_clearSome_same hlow hhigh]
    · rw [if_pos rfl, harray, hcleared, Memory.read_clearSome_other ha]
    · rw [if_pos rfl, log_eraseDone, decide_eq_true hu]
      exact state_returnToIdle_whole (b := b) (p := p) hp hu
    · rw [if_pos rfl, log_eraseDone, returnToIdle_quiet _ _ (by exact hq) (by
        change List.drop _ s.log.store.buffer = []
        rw [hb, List.drop_nil])]
      exact ⟨rfl, rfl⟩
  · obtain ⟨htable, hheader, hbuffer, harray, hstate, -⟩ := eraseFailed_leaves b h
    refine ⟨htable, hheader, hbuffer, fun a ha => ?_, hstate, eraseFailed_eq_frame b h⟩
    rw [if_neg Bool.false_ne_true, harray]
    exact Memory.read_clearSome_other ha

end Sys2Proof.Machine
end

section
/-! PROOF. READ_LOG, FLUSH_LOG and CLEAR_PROTECTION (R163, R169, R171, R187): the settlement of O59. -/
namespace Sys2Proof.Machine

section
variable {s : State}

/-! ## READ_LOG (R171, R187) -/

/-- A block or page number as a parameter. -/
@[simp] theorem fin16_ofNat (b : Fin 16) : fin16 (BitVec.ofNat 8 b.val) = b := by
  refine Fin.ext ?_
  simp only [fin16, BitVec.toNat_ofNat]
  omega

/-- A number below 256 as a byte. -/
theorem toNat_ofNat_of_lt {n : Nat} (h : n < 256) : (BitVec.ofNat 8 n).toNat = n := by
  rw [BitVec.toNat_ofNat, Nat.mod_eq_of_lt h]

/-- R171: whether the array is busy. -/
theorem busy_iff {l : LogStore} : l.busy = true ↔ l.state = .programming ∨ l.state = .erasing := by
  simp [LogStore.busy]

/-- R187: the parameter test of READ_LOG. -/
theorem paramsGood_readLog (b p n : Byte) (s : State) :
    paramsGood 0x07 (padParams [b, p, n]) s
      = (decide (b.toNat ≤ 15) && decide (p.toNat ≤ 15) && decide (n.toNat ≤ 31)) := rfl

/-- R187: a READ_LOG in range is served. -/
theorem exec_readLog (h : s.portReady) (b p : Fin 16) {n : Byte} (hn : n.toNat ≤ 31) :
    exec (.readLog (BitVec.ofNat 8 b.val) (BitVec.ofNat 8 p.val) n) s
      = .next (serveLog [BitVec.ofNat 8 b.val, BitVec.ofNat 8 p.val, n, 0, 0, 0, 0, 0]
          (s.taken [BitVec.ofNat 8 b.val, BitVec.ofNat 8 p.val, n])) := by
  have hb : (BitVec.ofNat 8 b.val).toNat ≤ 15 := by rw [toNat_ofNat_of_lt (by omega)]; omega
  have hp : (BitVec.ofNat 8 p.val).toNat ≤ 15 := by rw [toNat_ofNat_of_lt (by omega)]; omega
  exact congrArg Host.Outcome.next (giveCommand_good h (by decide) rfl (fun h => absurd h (by decide))
    ((paramsGood_readLog _ _ _ s).trans (by
      rw [decide_eq_true hb, decide_eq_true hp, decide_eq_true hn]
      rfl)))

/-- R171: READ_LOG by the position of its page. -/
theorem serveLog_eq (b p : Fin 16) (n : Byte) (rest : List Byte) (s : State) :
    serveLog (BitVec.ofNat 8 b.val :: BitVec.ofNat 8 p.val :: n :: rest) s
      = if s.log.store.position = some (b, p) then complete statusOk (bufferReply b p n.toNat s.log) s
        else if s.log.store.busy then
          holdCommand 0x07 (BitVec.ofNat 8 b.val :: BitVec.ofNat 8 p.val :: n :: rest) .logOperation s
        else complete statusOk (arrayReply b p n.toNat s.log) s := by
  have hb := fin16_ofNat b
  have hp := fin16_ofNat p
  simp only [serveLog, paramByte, List.getD_cons_zero, List.getD_cons_succ, hb, hp]

/-- R171, R193: the reply from the array begins with the record's sixteen bytes. -/
theorem take_arrayReply (b p : Fin 16) (r : Nat) (g : LogSystem) :
    (padReply (arrayReply b p r g)).take 16 = Memory.readBytes g.array (pageAddress b p + 16 * r) 16 := by
  have hlength : (Memory.readBytes g.array (pageAddress b p + 16 * r) 16).length = 16 := by
    simp [Memory.readBytes]
  rw [take_padReply (by simp [arrayReply, replyRecord, hlength]) (by decide)]
  simp only [arrayReply, replyRecord, List.append_assoc]
  rw [List.take_append_of_le_length (by rw [hlength]), List.take_of_length_le (by rw [hlength])]

/-- R171: a held READ_LOG is answered from the array. -/
theorem serveHeldLog_held {c d : Fin 16} {n : Fin 32} {code : Byte} {rest : List Byte}
    (h : s.service.port = .executing code
      (BitVec.ofNat 8 c.val :: BitVec.ofNat 8 d.val :: BitVec.ofNat 8 n.val :: rest) .logOperation) :
    serveHeldLog s = complete statusOk (arrayReply c d n.val s.log) s := by
  have hc := fin16_ofNat c
  have hd := fin16_ofNat d
  have hn : (BitVec.ofNat 8 n.val).toNat = n.val := toNat_ofNat_of_lt (by omega)
  unfold serveHeldLog
  rw [h]
  simp only [paramByte, List.getD_cons_zero, List.getD_cons_succ, hc, hd, hn]

/-- R164: a page program done leaves the exchange area as the commit has left it. -/
theorem service_programDone (b p : Fin 16) (s : State) : (programDone b p s).service = (committed b p s).service := by
  rw [programDone_eq]
  split <;> simp

/-! ## FLUSH_LOG (R163, R187) -/

/-- R163: an evidence flush in IDLE with records to program. -/
theorem requestFlush_starts {g : LogSystem} (h : g.store.state = .idle) (hu : g.store.unprogrammed ≠ []) :
    requestFlush g = (startProgram g, 0) := by
  rw [requestFlush, if_pos h, if_pos hu]

/-- R163: an evidence flush in IDLE with nothing to program. -/
theorem requestFlush_nothing {g : LogSystem} (h : g.store.state = .idle) (hu : g.store.unprogrammed = []) :
    requestFlush g = (g, 3) := by
  rw [requestFlush, if_pos h, if_neg (by simp [hu])]

/-- R163: an evidence flush while the log store is not IDLE waits. -/
theorem requestFlush_waits {g : LogSystem} (h : g.store.state ≠ .idle) :
    requestFlush g = ({ g with store := { g.store with flushPending := true } },
      if g.store.flushPending = true then 2 else 1) := by
  rw [requestFlush, if_neg h]
  split
  case isTrue hpending =>
    rw [← hpending]
  case isFalse => rfl

/-- R187: FLUSH_LOG at a ready port. -/
theorem exec_flushLog (h : s.portReady) :
    exec .flushLog s = .next { s with
      log := (requestFlush s.log).1
      service := s.service.completed [0, 0, 0, 0, 0, 0, 0, 0] statusOk [BitVec.ofNat 8 (requestFlush s.log).2] } :=
  congrArg Host.Outcome.next (giveCommand_good h (by decide) rfl (fun h => absurd h (by decide)) rfl)

/-! ## CLEAR_PROTECTION (R169, R187) -/

/-- R187: CLEAR_PROTECTION of a block, with K1. -/
theorem exec_clearProtection (h : s.portReady) (hkey : s.portKey = true) (b : Fin 16) :
    exec (.clearProtection (BitVec.ofNat 8 b.val)) s
      = .next (clearProtection b (s.taken [BitVec.ofNat 8 b.val])) := by
  have hb : (BitVec.ofNat 8 b.val).toNat ≤ 15 := by rw [toNat_ofNat_of_lt (by omega)]; omega
  have hgood : paramsGood 0x09 (padParams [BitVec.ofNat 8 b.val]) s = true := decide_eq_true hb
  refine congrArg Host.Outcome.next ((giveCommand_good h (by decide) rfl (fun _ => hkey) hgood).trans ?_)
  change clearProtection (fin16 (BitVec.ofNat 8 b.val)) _ = _
  rw [fin16_ofNat]

/-- R169: the log with a block's protected mark cleared in the block table. -/
def unprotect (b : Fin 16) (g : LogSystem) : LogSystem :=
  { g with store := { g.store with table := g.store.table.set b { g.store.table[b] with isProtected := false } } }

/-- R169: the node with a block's protected mark cleared and the event posted. -/
def State.unprotected (s : State) (b : Fin 16) : State :=
  post .protectCleared b.val (s.log.store.table[b].sequence.getD 65535 % 65536) 0 0 { s with log := unprotect b s.log }

/-- R169: a protected block that is not retired loses its mark. -/
theorem clearProtection_clears {b : Fin 16} (hp : s.log.store.table[b].isProtected = true)
    (hr : s.log.store.table[b].retired = false) :
    clearProtection b s = complete statusOk [0]
      (if (s.unprotected b).log.store.state = .full then searchFrom b (s.unprotected b) else s.unprotected b) := by
  exact (if_neg (by rw [hr]; decide)).trans (if_neg (by rw [hp]; decide))

/-- R187: a block that is retired or not protected keeps its marks. -/
theorem clearProtection_finds {b : Fin 16}
    (h : s.log.store.table[b].isProtected = false ∨ s.log.store.table[b].retired = true) :
    clearProtection b s = complete statusOk [if s.log.store.table[b].retired = true then 1 else 2] s := by
  cases hr : s.log.store.table[b].retired with
  | true => exact if_pos hr
  | false =>
    have hp : s.log.store.table[b].isProtected = false := h.resolve_right (by rw [hr]; decide)
    exact (if_neg (by rw [hr]; decide)).trans (if_pos (by rw [hp]; decide))

/-- R162: the taking of records leaves the log store's state. -/
theorem state_takeWaiting (stamp : Record) (n : Nat) (g : LogSystem) :
    (takeWaiting stamp n g).store.state = g.store.state := by
  induction n generalizing g with
  | zero => rfl
  | succ n ih =>
    unfold takeWaiting
    split
    · rw [ih]
      unfold takeOne
      split <;> rfl
    · rfl

/-- R158, R162: no event posted takes the log store to FULL. -/
theorem state_post_ne_full {kind : EventKind} {subject value1 value2 flags : Nat} (h : s.log.store.state ≠ .full) :
    (post kind subject value1 value2 flags s).log.store.state ≠ .full := by
  have htaken := state_takeWaiting (s.record kind subject value1 value2 flags) 32
    { s.log with events := enqueue (s.record kind subject value1 value2 flags) s.log.events }
  unfold post takeInIdle startProgram
  dsimp only
  (repeat' split) <;> simp_all

/-- R155: a fault reported in operation stands as reported. -/
theorem has_reportFault (ho : s.operating = true) (m : FaultMember) (b : Bool) :
    (reportFault m b s).sirens.summary.has m = b := by
  unfold reportFault
  split
  case isTrue => exact FaultSummary.has_put_same _ _ _
  case isFalse h => simpa [ho] using h

/-- R169: the block table once a mark is cleared. -/
theorem unprotect_table (b : Fin 16) (g : LogSystem) :
    (unprotect b g).store.table[b] = { g.store.table[b] with isProtected := false } := by
  simp [unprotect]

/-- R169: where the log store is FULL, the event waits. -/
theorem unprotected_full (b : Fin 16) (h : s.log.store.state = .full) :
    (s.unprotected b).log.store = (unprotect b s.log).store := by
  have hlog := log_post_of_not_idle .protectCleared b.val (s.log.store.table[b].sequence.getD 65535 % 65536) 0 0
    (s := { s with log := unprotect b s.log }) (by simp [unprotect, h])
  rw [State.unprotected, hlog]

/-- R165, R169: a search that finds a block erases it and withdraws LOG_FULL. -/
theorem searchFrom_finds {b : Fin 16} (hn : s.log.store.nextSequence ≤ 4294967294)
    (hb : s.log.store.table[b].usable = true) :
    (searchFrom b s).log.store.state = .erasing
      ∧ (s.operating = true → (searchFrom b s).sirens.summary.logFull = false) := by
  obtain ⟨k, hk⟩ := Option.isSome_iff_exists.1 (nextUsable_isSome hn hb)
  have hsearch : searchFrom b s = reportFault .logFull false { s with log := startErase k s.log } := by
    rw [searchFrom, hk]
  refine ⟨?_, fun ho => ?_⟩
  · rw [hsearch, reportsOnly_reportFault (by simp [startErase])]
    rfl
  · rw [hsearch]
    exact has_reportFault (s := { s with log := startErase k s.log }) ho .logFull false

end

/-- Settles O59: each of the three commands is judged by its parameters and answers what the log store gives. -/
theorem logCommandsAnswer : Obligations.LogCommandsAnswer := by
  refine ⟨fun b p n s h hn => ?_, fun b p n s h hbad => ?_, fun b p c d n s hs hp hport => ?_,
    fun b p s h hidle hp hu => ?_, fun s h hidle hu => ?_, fun s h hidle => ?_,
    fun b s h hkey hp hr hfull => ?_, fun b s h hkey hp hr hfull hn => ?_, fun b s h hkey hmarks => ?_,
    fun b s h hkey => ?_⟩
  · rw [exec_readLog h b p hn, serveLog_eq]
    change Host.Outcome.next (if s.log.store.position = some (b, p) then _ else if s.log.store.busy
      = true then _ else _) = _
    simp only [busy_iff]
    (repeat' split) <;> rfl
  · refine congrArg Host.Outcome.next (reading_bad h (by decide) rfl rfl ((paramsGood_readLog b p n s).trans ?_))
    simp only [Bool.and_eq_false_iff, decide_eq_false_iff_not, Nat.not_le]
    rw [or_assoc]
    exact hbad
  · refine ⟨_, exec_pageProgramComplete hs hp true, ?_⟩
    have hheld : committed b p s = complete statusOk (arrayReply c d n.val (commitProgram b p s.log).1)
        { s with log := (commitProgram b p s.log).1 } :=
      serveHeldLog_held (s := { s with log := (commitProgram b p s.log).1 }) hport
    obtain ⟨-, harray, -⟩ := programDone_leaves b p s
    rw [if_pos rfl, service_programDone, hheld, harray]
    exact ⟨rfl, rfl, take_arrayReply c d n.val _⟩
  · refine ⟨_, exec_flushLog h, ?_⟩
    rw [requestFlush_starts hidle hu]
    exact ⟨state_startProgram hp, counts_startProgram hp, rfl, eq_withLogOf (rest_startProgram s.log) rfl⟩
  · rw [exec_flushLog h, requestFlush_nothing hidle hu]
    rfl
  · rw [exec_flushLog h, requestFlush_waits hidle]
    split <;> rfl
  · have hstate : ((s.taken [BitVec.ofNat 8 b.val]).unprotected b).log.store.state ≠ .full := state_post_ne_full hfull
    have happended := appends_post .protectCleared b.val (s.log.store.table[b].sequence.getD 65535 % 65536) 0 0
      { s.taken [BitVec.ofNat 8 b.val] with log := unprotect b s.log }
    refine ⟨_, exec_clearProtection h hkey b, ?_⟩
    rw [clearProtection_clears (s := s.taken _) hp hr, if_neg hstate]
    exact ⟨happended.posts, eq_withLogOf (logRest_post _ _ _ _ _ _) rfl⟩
  · have hstore := unprotected_full (s := s.taken [BitVec.ofNat 8 b.val]) b hfull
    have hentry := unprotect_table b s.log
    obtain ⟨hstate, hsummary⟩ := searchFrom_finds (s := (s.taken [BitVec.ofNat 8 b.val]).unprotected b) (b := b)
      (by rw [hstore]; exact hn) (by
        rw [hstore, BlockEntry.usable]
        change (!(unprotect b s.log).store.table[b].isProtected && !(unprotect b s.log).store.table[b].retired) = true
        rw [hentry, hr]
        rfl)
    obtain ⟨htable, -⟩ := searchFrom_leaves b ((s.taken [BitVec.ofNat 8 b.val]).unprotected b)
    refine ⟨_, exec_clearProtection h hkey b, ?_⟩
    rw [clearProtection_clears (s := s.taken _) hp hr, if_pos (by rw [hstore]; exact hfull)]
    refine ⟨hstate, ?_, hsummary, ?_⟩
    · change (searchFrom b _).log.store.table[b].isProtected = false
      rw [htable, hstore]
      exact congrArg BlockEntry.isProtected hentry
    · have hservice : (searchFrom b ((s.taken [BitVec.ofNat 8 b.val]).unprotected b)).service
          = (s.taken [BitVec.ofNat 8 b.val]).service := by simp [State.unprotected]
      rw [complete, hservice]
      rfl
  · rw [exec_clearProtection h hkey b, clearProtection_finds (by exact hmarks)]
    rfl
  · exact congrArg Host.Outcome.next (giveCommand_keyRequired h (by decide) rfl rfl hkey [b])

end Sys2Proof.Machine
end

section
/-! SUPPORT. What a report of conditions and of a fault member leaves standing (R59, R93, R155). -/
namespace Sys2Proof.Machine

section
variable {s : State}

/-! ## Conditions (R93) -/

/-- R93: before OPERATING nothing is reported. -/
theorem reportConditions_off (h : s.operating = false) (c : Conditions) : reportConditions c s = s :=
  if_neg (by simp [h])

/-- R93: where the conditions stand as reported, nothing changes. -/
theorem reportConditions_self (s : State) : reportConditions s.zones.conditions s = s :=
  if_neg (by simp)

/-- R93: a report that changes the conditions in operation is a change of them and a cascade. -/
theorem reportConditions_cascade (ho : s.operating = true) (c : Conditions) :
    Leads .cascade { s with zones := { s.zones with conditions := c } } (reportConditions c s) := by
  unfold reportConditions
  split
  case isTrue => exact leads_recountOwn .refl (operating_iff.1 ho)
  case isFalse hc =>
    have hsame : c = s.zones.conditions := by simpa [ho] using hc
    rw [hsame]

/-- R93: in operation the conditions stand as reported. -/
theorem conditions_reportConditions (ho : s.operating = true) (c : Conditions) :
    (reportConditions c s).zones.conditions = c :=
  (reportConditions_cascade ho c).keepsReports.1

/-- R93: a report of conditions leaves the degraded state and the ring. -/
theorem degraded_reportConditions (c : Conditions) (s : State) :
    (reportConditions c s).zones.degraded = s.zones.degraded ∧ (reportConditions c s).zones.ring = s.zones.ring := by
  cases ho : s.operating with
  | true => exact (reportConditions_cascade ho c).keepsReports.2
  | false => rw [reportConditions_off ho]; exact ⟨rfl, rfl⟩

/-- R93, R155: a report of conditions leaves the fault members but those of the plant. -/
theorem has_reportConditions (c : Conditions) (s : State) {m : FaultMember} (hstep : m ≠ .stepFault)
    (hdoor : m ≠ .doorJammed) : (reportConditions c s).sirens.summary.has m = s.sirens.summary.has m := by
  cases ho : s.operating with
  | true => exact (reportConditions_cascade ho c).keepsOthers m hstep hdoor
  | false => rw [reportConditions_off ho]

/-- R93: a report of conditions leaves whether the node operates. -/
@[simp] theorem operating_reportConditions (c : Conditions) (s : State) :
    (reportConditions c s).operating = s.operating := by
  simp [State.operating]

/-! ## Fault members (R155) -/

/-- R155: before OPERATING no fault is reported. -/
theorem reportFault_off (h : s.operating = false) (m : FaultMember) (b : Bool) : reportFault m b s = s :=
  if_neg (by simp [h])

/-- R155: a fault report leaves the other members. -/
theorem has_reportFault_other (s : State) {m n : FaultMember} (b : Bool) (h : n ≠ m) :
    (reportFault m b s).sirens.summary.has n = s.sirens.summary.has n := by
  unfold reportFault
  split
  · exact FaultSummary.has_put_other _ _ h
  · rfl

/-- R155: a fault report leaves whether the node operates. -/
@[simp] theorem operating_reportFault (m : FaultMember) (b : Bool) (s : State) :
    (reportFault m b s).operating = s.operating := by
  simp [State.operating]

/-- R158: a posted event leaves whether the node operates. -/
@[simp] theorem operating_post (kind : EventKind) (subject value1 value2 flags : Nat) (s : State) :
    (post kind subject value1 value2 flags s).operating = s.operating := rfl

/-! ## The valve sequencer's report (R59) -/

/-- R59: before OPERATING the valve sequencer reports nothing. -/
theorem reportValves_off (h : s.operating = false) : reportValves s = s := by
  rw [reportValves, reportConditions_off h, reportFault_off h, reportFault_off h]

/-- R59: in operation the conditions of the valves and their fault members stand as they are. -/
theorem reportValves_stands (ho : s.operating = true) :
    (reportValves s).zones.conditions = s.valveConditions
      ∧ (reportValves s).sirens.summary.noFlow = s.valves.valves.any Valve.noFlow
      ∧ (reportValves s).sirens.summary.leak = s.valves.valves.any Valve.leak := by
  have hvalves : (reportConditions s.valveConditions s).valves = s.valves := by simp
  refine ⟨?_, ?_, ?_⟩
  · simp only [reportValves, reportFault_frame]
    exact conditions_reportConditions ho _
  · have hnoFlow := has_reportFault (s := reportConditions s.valveConditions s) (by simpa using ho) .noFlow
      (s.valves.valves.any Valve.noFlow)
    rw [reportValves, hvalves]
    exact (has_reportFault_other _ (m := .leak) (n := .noFlow) _ nofun).trans hnoFlow
  · rw [reportValves, hvalves]
    exact has_reportFault (by simpa using ho) .leak _

/-- R59: what the valve sequencer's report reaches. -/
theorem reportValves_beyondZones (s : State) : (reportValves s).beyondZones = s.beyondZones := by
  obtain ⟨hline, hlog⟩ := reportValves_rest s
  simp only [State.beyondZones, reportValves_frame, hline, hlog]

/-- An event posted changes what posting changes. -/
theorem post_beyondZones (kind : EventKind) (subject value1 value2 flags : Nat) (s : State) :
    (post kind subject value1 value2 flags s).beyondZones = s.beyondZones := by
  simp only [State.beyondZones, post_frame, logRest_post]

end

end Sys2Proof.Machine
end

section
/-! PROOF. The deadlines, the flow switches and the comparator of the valve sequencer (R52 to R60): the settlement of
O36, O37 and O38. -/
namespace Sys2Proof.Machine

section
variable {s t u : State}

/-- R60: what an event posted and the valve sequencer's report reach. -/
theorem reported_eq_withZonesOf (kind : EventKind) (subject value1 value2 flags : Nat) (s : State) :
    reportValves (post kind subject value1 value2 flags s)
      = s.withZonesOf (reportValves (post kind subject value1 value2 flags s)) :=
  eq_withZonesOf ((reportValves_beyondZones _).trans (post_beyondZones _ _ _ _ _ _))

/-- R60: an event that is posted before the valve sequencer's report is the first posted. -/
theorem reported_postsFirst (kind : EventKind) (subject value1 value2 flags : Nat) (s : State) :
    PostsFirst (s.record kind subject value1 value2 flags) s
      (reportValves (post kind subject value1 value2 flags s)) :=
  Leads.postsFirst (w := .arrival false) (by simp) (leads_reportValves .refl)

/-- R60: the record of a change at a valve. -/
def State.valveRecord (s : State) (v : Fin 2) (code : Nat) : Record :=
  ⟨s.time, .valve, v.val, s.homeView, s.station, 0, code, if s.level (fsInput v) = true then 1 else 0⟩

/-- R59, R60: a change at a valve that is posted and reported. -/
theorem valveChange_reports (v : Fin 2) (code : Nat) (x : Valve) (s : State) :
    PostsFirst (s.valveRecord v code) s (reportValves (postValve v code (setValve v x s)))
      ∧ reportValves (postValve v code (setValve v x s))
        = (setValve v x s).withZonesOf (reportValves (postValve v code (setValve v x s))) := by
  refine ⟨?_, reported_eq_withZonesOf .valve v.val code _ 0 (setValve v x s)⟩
  have hfirst := reported_postsFirst .valve v.val code (if s.level (fsInput v) then 1 else 0) 0 (setValve v x s)
  exact hfirst

/-- R59: in operation a change at a valve stands in the conditions and in the fault summary. -/
theorem valveChange_stands (v : Fin 2) (code : Nat) (x : Valve) (ho : s.operating = true) :
    (reportValves (postValve v code (setValve v x s))).zones.conditions.noFlow
        = (s.valves.valves.set v x).any Valve.noFlow
      ∧ (reportValves (postValve v code (setValve v x s))).sirens.summary.noFlow
        = (s.valves.valves.set v x).any Valve.noFlow
      ∧ (reportValves (postValve v code (setValve v x s))).zones.conditions.leak
        = (s.valves.valves.set v x).any Valve.leak
      ∧ (reportValves (postValve v code (setValve v x s))).sirens.summary.leak
        = (s.valves.valves.set v x).any Valve.leak := by
  obtain ⟨hconditions, hnoFlow, hleak⟩ := reportValves_stands (s := postValve v code (setValve v x s)) ho
  rw [hconditions]
  exact ⟨rfl, hnoFlow, rfl, hleak⟩

/-! ## Miss holds (R52) -/

/-- R52: whether a miss hold runs once one has been discarded. -/
theorem any_missHold_set (p : Pair Valve) (v : Fin 2) :
    (p.set v { p.get v with missHold := none }).any (fun x => x.missHold.isSome)
      = (p.get (other v)).missHold.isSome := by
  fin_cases v <;> simp [Pair.any, Pair.set, Pair.get, other]

/-- Some member of a pair has what the one just set has. -/
theorem any_set_of_get {α : Type} {p : Pair α} {f : α → Bool} {v : Fin 2} {x : α} (h : f x = true) :
    (p.set v x).any f = true := by
  fin_cases v <;> simp [Pair.any, Pair.set, h]

/-- R52: a miss hold that expires. -/
theorem exec_missHoldExpiry {v : Fin 2} (h : due s.time (s.valves.valves.get v).missHold = true) :
    exec (.missHoldExpiry v) s
      = .next (reportValves (setValve v { s.valves.valves.get v with missHold := none } s)) :=
  congrArg Host.Outcome.next (if_pos h)

/-! ## Flow confirmation and leaks (R54, R57) -/

/-- R54: a flow-confirm deadline that expires. -/
theorem exec_flowConfirmExpiry {v : Fin 2} (h : due s.time (s.valves.valves.get v).flowConfirm = true) :
    exec (.flowConfirmExpiry v) s = .next (expireFlowConfirm v s) :=
  congrArg Host.Outcome.next (if_pos h)

/-- R54: an open valve without flow raises NO_FLOW. -/
theorem expireFlowConfirm_raises {v : Fin 2} (hopen : (s.valves.valves.get v).opened = true)
    (hclear : (s.valves.valves.get v).noFlow = false) :
    expireFlowConfirm v s
      = reportValves (postValve v 0 (setValve v { s.valves.valves.get v with flowConfirm := none, noFlow := true }
        s)) := by
  simp [expireFlowConfirm, hopen, hclear]

/-- R54: a valve that is closed, or has NO_FLOW already, raises nothing. -/
theorem expireFlowConfirm_discards {v : Fin 2}
    (h : (s.valves.valves.get v).opened = false ∨ (s.valves.valves.get v).noFlow = true) :
    expireFlowConfirm v s = setValve v { s.valves.valves.get v with flowConfirm := none } s := by
  have hstands :
      ((s.valves.valves.get v).opened || (s.valves.valves.get v).noFlow) = (s.valves.valves.get v).noFlow := by
    obtain h | h := h <;> simp [h]
  have hnot : ((s.valves.valves.get v).opened && !(s.valves.valves.get v).noFlow) = false := by
    obtain h | h := h <;> simp [h]
  rw [expireFlowConfirm, hstands, hnot]
  rfl

/-- R57: a leak deadline that expires. -/
theorem exec_leakDeadlineExpiry {v : Fin 2} (h : due s.time (s.valves.valves.get v).leakDeadline = true)
    (hclear : (s.valves.valves.get v).leak = false) :
    exec (.leakDeadlineExpiry v) s
      = .next (reportValves (postValve v 2 (setValve v
        { s.valves.valves.get v with leakDeadline := none, leak := true } s))) := by
  refine congrArg Host.Outcome.next ((if_pos h).trans ?_)
  simp [expireLeak, hclear]

/-! ## Debounced levels (R2) -/

/-- R2: a change of level arrives at the block that reads it. -/
theorem takeContact_read {i : Input} {active : Bool} (hover : s.handedOver = true) (hlevel : s.level i = !active)
    (hread : s.operating = true ∨ readBeforeOperating i = true) :
    takeContact i active s = contactAction i active (setLevel i active s) := by
  have hchange : (s.handedOver && (s.level i != active)) = true := by cases active <;> simp [hover, hlevel]
  have hreads : ((setLevel i active s).operating || readBeforeOperating i) = true := by
    obtain h | h := hread
    · rw [show (setLevel i active s).operating = true from h, Bool.true_or]
    · rw [h, Bool.or_true]
  rw [takeContact, if_pos hchange, contactChange, if_pos hreads]

/-! ## Flow switches (R53, R55 to R57) -/

/-- R53: a flow switch is read from the hand-over. -/
theorem exec_fsChange {v : Fin 2} {active : Bool} (hover : s.handedOver = true)
    (hlevel : s.level (fsInput v) = !active) :
    exec (.fsChange v active) s = .next (flowSwitch v active (setLevel (fsInput v) active s)) := by
  refine congrArg Host.Outcome.next ((takeContact_read hover hlevel (.inr ?_)).trans ?_)
  · fin_cases v <;> rfl
  · fin_cases v <;> rfl

/-- R55, R56: the valve once its flow switch has become active. -/
def flowSeenValve (v : Fin 2) (s : State) : Valve :=
  { s.valves.valves.get v with
    flowConfirm := none, noFlow := false
    leakDeadline :=
      if (s.valves.valves.get v).opened = false ∧ (s.valves.valves.get v).leak = false then
        some (later s.time (s.cfg.valves.get v).flowConfirm)
      else (s.valves.valves.get v).leakDeadline }

/-- R53, R55, R56: FS active. -/
theorem flowSeen_eq (v : Fin 2) (s : State) :
    flowSeen v s = if (s.valves.valves.get v).noFlow = true then
        reportValves (postValve v 1 (setValve v (flowSeenValve v s) s))
      else setValve v (flowSeenValve v s) s := by
  simp [flowSeen, flowSeenValve, leakStart]

/-- R57: FS inactive. -/
theorem flowGone_eq (v : Fin 2) (s : State) :
    flowGone v s = if (s.valves.valves.get v).leak = true then
        reportValves (postValve v 3 (setValve v { s.valves.valves.get v with leakDeadline := none, leak := false } s))
      else setValve v { s.valves.valves.get v with leakDeadline := none, leak := false } s := rfl

/-- A changed valve, perhaps posted and reported, reaches no more than that. -/
theorem valveChange_frame (v : Fin 2) (code : Nat) (x : Valve) (c : Prop) [Decidable c] (s : State) :
    (if c then reportValves (postValve v code (setValve v x s)) else setValve v x s)
      = (setValve v x s).withZonesOf
          (if c then reportValves (postValve v code (setValve v x s)) else setValve v x s) := by
  split
  · exact (valveChange_reports v code x s).2
  · exact eq_withZonesOf rfl

/-! ## The comparator (R58) -/

/-- R58: a water sample from the hand-over. -/
theorem exec_waterSample (hover : s.handedOver = true) (p : BitVec 10) :
    exec (.waterSample p) s = .next (takeWater p.toNat s) :=
  congrArg Host.Outcome.next (if_pos hover)

/-- R58: a sample that takes the comparator from one state to another. -/
theorem takeWater_changes {c d : Comparator} {p : Nat} (hc : s.valves.comparator = some c)
    (hd : compareWater s.cfg.waterTrip s.cfg.waterHysteresis p c = d) (hne : d ≠ c) :
    takeWater p s = reportValves (post .water 0 (comparatorCode d) p 0
      { s with valves := { s.valves with comparator := some d, lastWater := some p } }) := by
  rw [takeWater, hc]
  dsimp only
  rw [hd, if_neg hne]

/-- R58: a sample that leaves the comparator. -/
theorem takeWater_stands {c : Comparator} {p : Nat} (hc : s.valves.comparator = some c)
    (hd : compareWater s.cfg.waterTrip s.cfg.waterHysteresis p c = c) :
    takeWater p s = { s with valves := { s.valves with lastWater := some p } } := by
  rw [takeWater, hc]
  dsimp only
  rw [hd, if_pos rfl, hc]

/-- R58, R60: the record of a change of the comparator. -/
def State.waterRecord (s : State) (d : Comparator) (p : Nat) : Record :=
  ⟨s.time, .water, 0, s.homeView, s.station, 0, comparatorCode d, p⟩

/-- R58, R59: a change of the comparator that is posted and reported. -/
theorem waterChange_reports (d : Comparator) (p : Nat) (s : State) :
    let u := { s with valves := { s.valves with comparator := some d, lastWater := some p } }
    PostsFirst (s.waterRecord d p) s (reportValves (post .water 0 (comparatorCode d) p 0 u))
      ∧ (s.operating = false → Posts [s.waterRecord d p] s (reportValves (post .water 0 (comparatorCode d) p 0 u)))
      ∧ (s.operating = true →
        (reportValves (post .water 0 (comparatorCode d) p 0 u)).zones.conditions.waterLow = u.waterGrade)
      ∧ reportValves (post .water 0 (comparatorCode d) p 0 u)
        = u.withZonesOf (reportValves (post .water 0 (comparatorCode d) p 0 u)) := by
  intro u
  have hfirst := reported_postsFirst .water 0 (comparatorCode d) p 0 u
  have hposts := (appends_post .water 0 (comparatorCode d) p 0 u).posts
  refine ⟨hfirst, fun ho => ?_, fun ho => ?_, reported_eq_withZonesOf .water 0 (comparatorCode d) p 0 u⟩
  · rw [reportValves_off (by exact ho)]
    exact hposts
  · rw [(reportValves_stands (by exact ho)).1]
    rfl

end

/-- Settles O36: each deadline discards itself; what it raises is posted, reported to the zone unit and to the fault
summary. -/
theorem valveDeadlinesExpire : Obligations.ValveDeadlinesExpire := by
  refine ⟨fun v s hdue => ⟨_, exec_missHoldExpiry hdue, fun ho => ?_, ?_⟩, fun v s hdue hopen hclear => ?_,
    fun v s hdue hopen hset => ?_, fun v s hdue hclosed => ?_, fun v s hdue hclear =>
    ⟨_, exec_leakDeadlineExpiry hdue hclear, ?_, fun ho => ?_, ?_⟩⟩
  · rw [(reportValves_stands (by exact ho)).1]
    exact any_missHold_set _ v
  · exact eq_withZonesOf (reportValves_beyondZones _)
  · refine ⟨_, exec_flowConfirmExpiry hdue, ?_⟩
    rw [expireFlowConfirm_raises hopen hclear]
    obtain ⟨hfirst, hframe⟩ := valveChange_reports v 0
      { s.valves.valves.get v with flowConfirm := none, noFlow := true } s
    refine ⟨hfirst, fun ho => ?_, hframe⟩
    obtain ⟨hcondition, hmember, -⟩ := valveChange_stands v 0
      { s.valves.valves.get v with flowConfirm := none, noFlow := true } ho
    rw [hcondition, hmember, any_set_of_get rfl]
    exact ⟨rfl, rfl⟩
  · rw [exec_flowConfirmExpiry hdue, expireFlowConfirm_discards (.inr hset)]
  · rw [exec_flowConfirmExpiry hdue, expireFlowConfirm_discards (.inl hclosed)]
  · exact (valveChange_reports v 2 { s.valves.valves.get v with leakDeadline := none, leak := true } s).1
  · obtain ⟨-, -, hcondition, hmember⟩ := valveChange_stands v 2
      { s.valves.valves.get v with leakDeadline := none, leak := true } ho
    rw [hcondition, hmember, any_set_of_get rfl]
    exact ⟨rfl, rfl⟩
  · exact (valveChange_reports v 2 { s.valves.valves.get v with leakDeadline := none, leak := true } s).2

/-- Settles O37: the change arrives at the valve, which posts and reports what it clears. -/
theorem flowSwitchChangesAreJudged : Obligations.FlowSwitchChangesAreJudged := by
  refine ⟨fun v s hover hlevel => ⟨_, exec_fsChange hover hlevel, fun hset => ?_, ?_⟩,
    fun v s hover hlevel => ⟨_, exec_fsChange hover hlevel, fun hset => ?_, ?_⟩⟩
  · obtain ⟨hfirst, -⟩ := valveChange_reports v 1 (flowSeenValve v (setLevel (fsInput v) true s))
      (setLevel (fsInput v) true s)
    rw [State.valveRecord, level_setLevel_same] at hfirst
    rw [flowSwitch, if_pos rfl, flowSeen_eq, if_pos (by exact hset)]
    exact hfirst
  · rw [flowSwitch, if_pos rfl, flowSeen_eq]
    exact valveChange_frame v 1 (flowSeenValve v (setLevel (fsInput v) true s)) _ (setLevel (fsInput v) true s)
  · obtain ⟨hfirst, -⟩ := valveChange_reports v 3
      { s.valves.valves.get v with leakDeadline := none, leak := false } (setLevel (fsInput v) false s)
    rw [State.valveRecord, level_setLevel_same] at hfirst
    rw [flowSwitch, if_neg Bool.false_ne_true, flowGone_eq, if_pos (by exact hset)]
    exact hfirst
  · rw [flowSwitch, if_neg Bool.false_ne_true, flowGone_eq]
    exact valveChange_frame v 3 { s.valves.valves.get v with leakDeadline := none, leak := false } _
      (setLevel (fsInput v) false s)

/-- Settles O38: the comparator moves at its two limits, and each move is posted and reported. -/
theorem waterSamplesMoveTheComparator : Obligations.WaterSamplesMoveTheComparator := by
  refine ⟨fun p s hover hc hp => ⟨_, exec_waterSample hover p, ?_⟩, fun p s hover hc hp =>
    ⟨_, exec_waterSample hover p, ?_⟩, fun p s hover h => ?_⟩
  · rw [takeWater_changes (d := .low) hc (if_pos hp) (by decide)]
    exact waterChange_reports .low p.toNat s
  · rw [takeWater_changes (d := .normal) hc (if_pos hp) (by decide)]
    exact waterChange_reports .normal p.toNat s
  · rw [exec_waterSample hover p]
    obtain ⟨hc, hp⟩ | ⟨hc, hp⟩ := h
    · rw [takeWater_stands hc (if_neg (Nat.not_lt.2 hp))]
    · rw [takeWater_stands hc (if_neg (Nat.not_le.2 hp))]

end Sys2Proof.Machine
end

section
/-! PROOF. Reports that a deadline brings (R26, R82) and the debounce of contact inputs (R2): the settlement of O24, O32
and O40. -/
namespace Sys2Proof.Machine

section
variable {s : State}

/-! ## The flow unit's report (R29) -/

/-- R29: in operation the lost flow stands in the conditions and in the fault summary as it is. -/
theorem reportFlow_stands (ho : s.operating = true) :
    (reportFlow s).zones.conditions.flowLost = decide (s.flow.status = .lost)
      ∧ (reportFlow s).sirens.summary.flowLost = decide (s.flow.status = .lost) := by
  let lost := decide (s.flow.status = .lost)
  let t := reportConditions { s.zones.conditions with flowLost := lost } s
  let u := reportFault .flowLost lost t
  have hou : u.operating = true := by simp [u, t, ho]
  have hzones : u.zones = t.zones := by simp [u]
  have hflow : Leads .cascade u (reportFlow s) := by
    have hconfirm : Leads .cascade u (reportingHalt confirmByFlow u) :=
      leads_reportingHalt (leads_confirmByFlow .refl (operating_iff.1 hou)) (by simpa using operating_iff.1 hou)
    have heq : reportFlow s = reportingHalt confirmByFlow u := if_pos hou
    rwa [heq]
  constructor
  · rw [hflow.keepsReports.1, hzones, conditions_reportConditions ho]
  · exact (hflow.keepsOthers .flowLost nofun nofun).trans (has_reportFault (by simp [t, ho]) .flowLost lost)

/-- R26: a change of status is reported. -/
theorem setFlow_changes {f : Flow} (h : f.status ≠ s.flow.status) : setFlow f s = reportFlow { s with flow := f } :=
  if_neg h

/-- R26: a hold deadline that expires. -/
theorem exec_holdDeadlineExpiry (hdue : due s.time s.flow.holdDeadline = true) (hhold : s.flow.status = .hold) :
    exec .holdDeadlineExpiry s = .next (setFlow { s.flow with status := .lost, holdDeadline := none } s) :=
  congrArg Host.Outcome.next (if_pos (by simp [holdDue, hdue, hhold]))

/-! ## DEGRADED (R82) -/

/-- R82: the report of the degraded state changes the fault summary and the conditions, and is a cascade behind. -/
theorem reportDegraded_stands (b : Bool) (ho : s.operating = true) :
    (reportDegraded b s).zones.conditions.lineDegraded = b ∧ (reportDegraded b s).zones.degraded = b
      ∧ (reportDegraded b s).sirens.summary.degraded = b := by
  let c := { s.zones.conditions with lineDegraded := b }
  let t := reportFault .degraded b (reportConditions c s)
  let u := { t with zones := { t.zones with degraded := b } }
  have hot : t.operating = true := by simp [t, ho]
  have hzones : t.zones = (reportConditions c s).zones := by simp [t]
  have hcascade : Leads .cascade u (reportDegraded b s) := by
    have heq : reportDegraded b s = recountAllZones u := if_pos hot
    rw [heq]
    exact leads_recountAllZones .refl (operating_iff.1 hot)
  obtain ⟨hconditions, hdegraded, -⟩ := hcascade.keepsReports
  refine ⟨?_, hdegraded, ?_⟩
  · have hu : u.zones.conditions = t.zones.conditions := rfl
    rw [hconditions, hu, hzones, conditions_reportConditions ho]
  · exact (hcascade.keepsOthers .degraded nofun nofun).trans
      (has_reportFault (s := reportConditions c s) (by simp [ho]) .degraded b)

/-- R93, R155: what the report of the degraded state reaches. -/
theorem reportDegraded_beyondZones (b : Bool) (s : State) : (reportDegraded b s).beyondZones = s.beyondZones := by
  let t := reportFault .degraded b (reportConditions { s.zones.conditions with lineDegraded := b } s)
  have ht : t.beyondZones = s.beyondZones := by
    simp only [t, State.beyondZones, reportFault_frame, reportConditions_frame, logRest_reportFault,
      reportConditions_rest]
  change (if t.operating = true then recountAllZones { t with zones := { t.zones with degraded := b } }
    else t).beyondZones = _
  split
  case isTrue ho => exact (leads_recountAllZones .refl (by exact operating_iff.1 ho)).beyondZones.trans ht
  case isFalse => exact ht

/-- R82: a degraded deadline that expires. -/
theorem exec_degradedDeadlineExpiry (hdue : due s.time s.line.degradedDeadline = true) :
    exec .degradedDeadlineExpiry s = .next (expireDegraded s) :=
  congrArg Host.Outcome.next (if_pos hdue)

/-- R82: DEGRADED ends with a LINE event, and is reported. -/
theorem expireDegraded_ends (h : s.line.degraded = true) :
    expireDegraded s = reportDegraded false (postLine 5 s.line.errors.length
      { s with line := { s.line with degradedDeadline := none, degraded := false } }) :=
  if_pos h

/-! ## Debouncing (R2) -/

/-- R2: a change of a raw level. -/
theorem exec_rawInputChange {i : Input} {active : Bool} (h : s.rawLevel i ≠ active) :
    exec (.rawInputChange i active) s = .next (rawChange i active s) :=
  congrArg Host.Outcome.next (if_neg h)

/-- R2: before the hand-over the raw level alone changes. -/
theorem rawChange_before (h : s.handedOver = false) (i : Input) (active : Bool) :
    rawChange i active s = setRaw i active s :=
  if_pos (congrArg not h)

/-- R2: a raw level leaves whether the node has been handed its configuration. -/
theorem handedOver_setRaw (i : Input) (active : Bool) (s : State) : (setRaw i active s).handedOver = s.handedOver := rfl

/-- R2: after the hand-over a changed raw level is debounced. -/
theorem rawChange_debounced (h : s.handedOver = true) (hd : s.cfg.debounce ≠ 0) (i : Input) (active : Bool) :
    rawChange i active s = startDebounce i active (setRaw i active s) :=
  (if_neg (by rw [handedOver_setRaw, h]; nofun)).trans (if_neg hd)

/-- R2: a raw level that has changed is the one given. -/
theorem rawLevel_setRaw (i : Input) (active : Bool) (s : State) : (setRaw i active s).rawLevel i = active := by
  simp [State.rawLevel, setRaw]

/-- R2: a change of level that arrives leaves the inputs as the level sets them. -/
theorem inputs_contactChange (i : Input) (active : Bool) (s : State) :
    (contactChange i active s).inputs = (setLevel i active s).inputs := by
  unfold contactChange
  dsimp only
  split
  · exact (contactAction_frame i active (setLevel i active s)).2.2.2.1
  · rfl

/-- R2: once a changed raw level has been taken, both levels of the input stand at it. -/
theorem levels_takeContact {i : Input} {active : Bool} (hover : s.handedOver = true) (hraw : s.rawLevel i = active) :
    (takeContact i active s).rawLevel i = active ∧ (takeContact i active s).level i = active := by
  unfold takeContact
  split
  case isTrue =>
    have hinputs := inputs_contactChange i active s
    constructor
    · rw [State.rawLevel, hinputs]
      exact rawLevel_setLevel_same i active s
    · rw [State.level, hinputs]
      exact level_setLevel_same i active s
  case isFalse h =>
    have hsame : s.level i = active := by simpa [hover] using h
    exact ⟨hraw, hsame⟩

/-- R2: with debounce time 0 the level follows at once. -/
theorem rawChange_undebounced (h : s.handedOver = true) (hd : s.cfg.debounce = 0) (i : Input) (active : Bool) :
    rawChange i active s = takeContact i active (setRaw i active s) :=
  (if_neg (by rw [handedOver_setRaw, h]; nofun)).trans (if_pos hd)

end

/-- Settles O24: the three branches of a raw change. -/
theorem rawChangesAreDebounced : Obligations.RawChangesAreDebounced := by
  refine ⟨fun i active s hraw hover => ⟨_, exec_rawInputChange hraw, ?_⟩, fun i active s hraw hover hdebounce =>
    ⟨_, exec_rawInputChange hraw, ?_⟩, fun i active s hraw hover hdebounce => ⟨_, exec_rawInputChange hraw, ?_⟩⟩
  · rw [rawChange_before hover]
    rfl
  · rw [rawChange_debounced hover hdebounce]
    rfl
  · rw [rawChange_undebounced hover hdebounce]
    exact levels_takeContact (by exact hover) (rawLevel_setRaw i active s)

/-- Settles O32: the status changes to LOST, which the flow unit reports. -/
theorem holdExpiryLosesTheFlow : Obligations.HoldExpiryLosesTheFlow := by
  intro s hdue hhold
  refine ⟨_, exec_holdDeadlineExpiry hdue hhold, fun ho => ?_, setFlow_eq_withZonesOf _ s⟩
  rw [setFlow_changes (by simp [hhold])]
  exact reportFlow_stands (by exact ho)

/-- Settles O40: DEGRADED ends with its event and its reports. -/
theorem degradedExpires : Obligations.DegradedExpires := by
  refine ⟨fun s hdue hset => ⟨_, exec_degradedDeadlineExpiry hdue, ?_⟩, fun s hdue hclear => ?_⟩
  · let t := { s with line := { s.line with degradedDeadline := none, degraded := false } }
    rw [expireDegraded_ends hset]
    refine ⟨?_, fun ho => reportDegraded_stands false (by exact ho), ?_⟩
    · have hfirst : PostsFirst (t.record .line 0 5 s.line.errors.length 0) t
          (reportDegraded false (postLine 5 s.line.errors.length t)) :=
        Leads.postsFirst (w := .arrival false) nofun (leads_reportDegraded .refl)
      exact hfirst
    · exact eq_withZonesOf ((reportDegraded_beyondZones false _).trans (post_beyondZones _ _ _ _ _ t))
  · rw [exec_degradedDeadlineExpiry hdue]
    exact congrArg Host.Outcome.next (if_neg (by simp [hclear]))

end Sys2Proof.Machine
end

section
/-! PROOF. The node's own frames: how they are placed (R73), held (R74), driven (R75), counted (R76) and, in a failed
start-up, cut off (R85, log 43): the settlement of O22, O41 and O44. -/
namespace Sys2Proof.Machine

section
variable {s : State}

/-! ## Frames handed over (R73) -/

/-- R73: a frame that replaces the queued one of its slot stands in the queue. -/
theorem mem_handOver_self (f : OutFrame) (q : List OutFrame) : f ∈ handOver f (fun _ => f) q := by
  unfold handOver
  split
  case isTrue h =>
    obtain ⟨g, hg, hsame⟩ := List.any_eq_true.1 h
    exact List.mem_map.2 ⟨g, hg, if_pos hsame⟩
  case isFalse => exact (insertFrame_perm f q).mem_iff.2 (.head _)

/-- R74: the judgement of the head frame changes queue and holding stage alone. -/
theorem judgeGap_frame (station : Nat) (l : Line) :
    judgeGap station l = { l with queue := (judgeGap station l).queue, holding := (judgeGap station l).holding } := by
  unfold judgeGap
  split
  · unfold holdHead
    split <;> rfl
  · rfl

/-- R73: a PRESENCE placed waits. -/
theorem waits_placePresence (s : State) : (placePresence s).line.waits (.presence (presenceBody s)) = true :=
  waits_judgeGap (waits_iff.2 (.inl (mem_handOver_self _ _)))

/-- R73: a PRESENCE placed changes the queue and the holding stage alone. -/
theorem placePresence_places (s : State) :
    placePresence s = { s with line := { s.line with
      queue := (placePresence s).line.queue, holding := (placePresence s).line.holding } } := by
  have hline := judgeGap_frame s.station { s.line with
    queue := handOver (.presence (presenceBody s)) (fun _ => .presence (presenceBody s)) s.line.queue }
  exact congrArg (fun l => { s with line := l }) hline

/-- R73: a presence deadline that expires. -/
theorem exec_presenceDeadlineExpiry {d : Instant} (h : s.line.presenceDeadline = some d)
    (hdue : before s.time d = false) : exec .presenceDeadlineExpiry s = .next (expirePresence d s) := by
  have hexpires : due s.time (some d) = true := by simp [due, hdue]
  refine congrArg Host.Outcome.next ?_
  rw [h]
  exact if_pos hexpires

/-! ## Frames held (R74) -/

/-- An arrival with no byte on the line finds the node as it is. -/
theorem afterByte_still (h : s.line.activity = .mark ∨ s.line.activity = .busy) (f : State → State) :
    afterByte f s = f s := by
  have hend : endByte s = s := by
    unfold endByte
    obtain h | h := h <;> rw [h]
  have hown : s.line.activity ≠ .own := by
    obtain h | h := h <;> rw [h] <;> nofun
  rw [afterByte, hend, if_neg hown]

/-- R74: the gap of the head frame has passed on a line that listens and takes no frame: the frame is held. -/
theorem expireGap_holds {f : OutFrame} {rest : List OutFrame} (hq : s.line.queue = f :: rest)
    (hstate : s.line.state = .listening) (hholding : s.line.holding = none) (hshift : s.line.shift = none)
    (hreceiver : s.line.receiver = .hunting) :
    expireGap s = { s with line :=
      { setQuiet (max s.line.quiet (frameGap s.station f)) s.line with queue := rest, holding := some f } } := by
  have hself : reachQuiet (s.line.countAt (frameGap s.station f)) s = s :=
    reachQuiet_eq_self (.inr hreceiver) (.inr (by simp [hstate]))
  have hmay : mayHold s.line = true := by simp [mayHold, hq, hstate, hholding, hshift, hreceiver]
  rw [expireGap, hq]
  dsimp only
  rw [hself, if_pos hmay]
  have hqueue : (setQuiet (max s.line.quiet (frameGap s.station f)) s.line).queue = f :: rest := hq
  rw [holdHead, hqueue]

/-- R74: the gap of each class. -/
theorem frameGap_eq (station : Nat) (f : OutFrame) :
    frameGap station f = (match f with
      | .detect _ _ _ _ _ => 12
      | .vote _ _ => 76
      | .restart _ => 76
      | .presence _ => 140) + 2 * station := by
  cases f <;> rfl

/-! ## Frames driven (R75) -/

/-- R75, A.1: the bytes of each kind of frame. -/
theorem length_frameBytes (station : Nat) (drive : Instant) (f : OutFrame) :
    (frameBytes station drive f).length = frameTotal f.kind := by
  cases f <;> rfl

/-- A.1: the kind byte of a frame tells its kind. -/
theorem kindOfByte_kindByte (k : FrameKind) : kindOfByte (BitVec.ofNat 8 (kindByte k)) = some k := by
  cases k <;> rfl

/-- R75: the held frame is driven. -/
theorem driveHeld_eq {f : OutFrame} (h : s.line.holding = some f) :
    driveHeld s = { s with line :=
      { seeStartBit s.time s.rate s.line.quiet .own s.line with
        holding := none
        shift := some ⟨f, s.time, frameBytes s.station s.time f⟩
        receiver := receiveStart s.time (max s.line.quiet 12) s.line.receiver } } := by
  rw [driveHeld, h]

/-- R79: the stuck watch at a start bit. -/
theorem stuckWatch_seeStartBit (now : Instant) (rate quiet : Nat) (a : Activity) (l : Line) :
    ((l.stuckWatch = none ∨ 142 ≤ quiet) →
        (seeStartBit now rate quiet a l).stuckWatch = some (later now (520 * bitTime rate / 1000)))
      ∧ (l.stuckWatch ≠ none → quiet < 142 → (seeStartBit now rate quiet a l).stuckWatch = l.stuckWatch) := by
  constructor
  · intro h
    have hnone : watchAt quiet l.stuckWatch = none := by
      obtain h | h := h
      · simp [watchAt, h]
      · exact if_pos h
    simp [seeStartBit, hnone]
  · intro hwatch hquiet
    obtain ⟨d, hd⟩ := Option.ne_none_iff_exists'.1 hwatch
    simp [seeStartBit, watchAt, hd, Nat.not_le.2 hquiet]

/-! ## Frames sent (R76) -/

/-- R76: the own frame has been read back, and no line-echo test runs. -/
theorem takeEcho_counts {d : DrivenFrame} (h : s.line.shift = some d) (hecho : s.startup.echoDeadline = none) :
    takeEcho s = { s with line :=
      { endValidFrame s.line with shift := none, sentTally := min (s.line.sentTally + 1) 65535 } } := by
  rw [takeEcho, h]
  exact if_neg (by simp [hecho])

/-- R179: the own frame read back passes a line-echo test. -/
theorem takeEcho_passes {d : DrivenFrame} (h : s.line.shift = some d) (hecho : s.startup.echoDeadline ≠ none) :
    takeEcho s = passEcho { s with line :=
      { endValidFrame s.line with shift := none, sentTally := min (s.line.sentTally + 1) 65535 } } := by
  rw [takeEcho, h]
  exact if_pos (Option.isSome_iff_ne_none.2 hecho)

/-! ## The self-test (R178, R179) -/

/-- R178: a clean readback begins the line-echo test. -/
theorem exec_outputReadback_clean (hstage : s.startup.stage = some .selfTest) (hecho : s.startup.echoDeadline = none) :
    exec (.outputReadback true 0) s = .next (beginEcho s) :=
  congrArg Host.Outcome.next ((if_pos ⟨hstage, hecho⟩).trans (if_pos ⟨rfl, rfl⟩))

/-- R178: a readback with a fault fails start-up. -/
theorem exec_outputReadback_faulty (hstage : s.startup.stage = some .selfTest) (hecho : s.startup.echoDeadline = none)
    {good : Bool} {sense : BitVec 11} (h : good = false ∨ sense ≠ 0) :
    exec (.outputReadback good sense) s = .next { s with
      startup := { s.startup with state := .failed, stage := none, failure := some .selfTest, frameHeard := none }
      line := { s.line with queue := [], holding := none } } := by
  have hnot : ¬ (good = true ∧ sense = 0) := fun ⟨hgood, hsense⟩ => h.elim (by simp [hgood]) (· hsense)
  have hfail : failStart .selfTest s = { s with
      startup := { s.startup with state := .failed, stage := none, failure := some .selfTest, frameHeard := none }
      line := { s.line with queue := [], holding := none } } := by
    simp [failStart, hecho]
  rw [← hfail]
  exact congrArg Host.Outcome.next ((if_pos ⟨hstage, hecho⟩).trans (if_neg hnot))

/-- R179: an echo deadline that expires. -/
theorem exec_echoDeadlineExpiry (hdue : due s.time s.startup.echoDeadline = true) :
    exec .echoDeadlineExpiry s = .next (expireEcho s) :=
  congrArg Host.Outcome.next (if_pos hdue)

/-! ## The shift stage of a failed start-up (R85, log 43) -/

/-- R85: in a failed start-up the byte that the node drives is the last of its frame. -/
theorem step_cutFrame (hp : s.pending = []) (hd : dueCommand s = none) (hfailed : s.startup.state = .failed)
    (hown : s.line.activity = .own) : step s = .next (endCutFrame s) := by
  have hlast : s.lastOwnByte = true := by simp [State.lastOwnByte, hfailed]
  have hends : s.byteEnds = true := by simp only [State.byteEnds, hown, hlast]
  rw [step_endByte hp hd hends]
  simp only [endByte, hown, hlast, if_true]

/-- R85: with an empty shift stage the byte ends. -/
theorem endCutFrame_empty (h : s.line.shift = none) : endCutFrame s = { s with line := byteOver true s.line } := by
  rw [endCutFrame, h]

/-- R85: a byte of a stopped frame ends while the receiver hunts. -/
theorem endCutFrame_hunting {d : DrivenFrame} (hown : s.line.activity = .own) (h : s.line.shift = some d)
    (hreceiver : s.line.receiver = .hunting) :
    endCutFrame s = { s with line := { byteOver true s.line with shift := none } } := by
  have hread : s.line.receiver.readFirst (d.readBack s.time s.rate) d.bytes = s.line.receiver := by
    rw [hreceiver]
    rfl
  rw [endCutFrame, h]
  dsimp only
  rw [readOwn_own hown h, hread]
  simp only [endOwnByte, hreceiver]
  rw [← hreceiver]

/-- R85: a byte of a stopped frame ends while the receiver takes it: the byte joins those read back. -/
theorem endCutFrame_taking {d : DrivenFrame} {start : Instant} {bytes : List Byte} (hown : s.line.activity = .own)
    (h : s.line.shift = some d) (hreceiver : s.line.receiver = .taking start bytes) (hbytes : d.bytes ≠ []) :
    let r := Receiver.taking start (d.bytes.take (d.readBack s.time s.rate))
    let t := endFrameByte (fun _ _ => takeEcho) start (d.bytes.take (d.readBack s.time s.rate + 1)) .mark
      { s with line := { s.line with receiver := r } }
    endCutFrame s = { t with line := { t.line with shift := none } } := by
  have hlt : d.readBack s.time s.rate < d.bytes.length := by
    have hpos : 0 < d.bytes.length := List.length_pos_iff.2 hbytes
    exact lt_of_le_of_lt (Nat.min_le_left _ _) (by omega)
  have hjoin : d.bytes.take (d.readBack s.time s.rate) ++ [d.present s.time s.rate]
      = d.bytes.take (d.readBack s.time s.rate + 1) := by
    rw [DrivenFrame.present, List.getD_eq_getElem _ _ hlt, List.take_append_getElem]
  rw [endCutFrame, h]
  dsimp only
  rw [readOwn_own hown h, hreceiver]
  simp only [endOwnByte, Receiver.readFirst, hjoin]

/-- R66: a frame of a kind with its bytes complete is taken whole. -/
theorem endFrameByte_frameBytes (whole : FrameKind → List Byte → State → State) (start : Instant) (station : Nat)
    (drive : Instant) (f : OutFrame) (s : State) :
    endFrameByte whole start (frameBytes station drive f) .mark s = whole f.kind (frameBytes station drive f) s := by
  have hcons : frameBytes station drive f
      = 0x5B :: BitVec.ofNat 8 (kindByte f.kind) :: (frameBytes station drive f).drop 2 := rfl
  have hlength : frameTotal f.kind ≤ (frameBytes station drive f).length := (length_frameBytes station drive f).ge
  unfold endFrameByte
  rw [if_pos (by rfl), hcons]
  dsimp only
  rw [kindOfByte_kindByte, ← hcons]
  exact if_pos hlength

end

/-- Settles O44: the deadline is set on, and the PRESENCE placed waits. -/
theorem presencesArePlaced : Obligations.PresencesArePlaced := by
  intro s d hdeadline hdue
  let t := { s with line := { s.line with presenceDeadline := some (later d s.cfg.presencePeriod) } }
  exact ⟨_, exec_presenceDeadlineExpiry hdeadline hdue, waits_placePresence t, placePresence_places t⟩

/-- Settles O41: the head frame at its gap, at its first start bit and at its echo. -/
theorem framesAreHeldDrivenAndSent : Obligations.FramesAreHeldDrivenAndSent := by
  refine ⟨fun s f rest hq hstate hholding hshift hreceiver hactivity => ?_, fun s f hholding => ?_,
    fun s d hshift hecho => ?_, fun s d hshift hecho => ?_⟩
  · refine ⟨expireGap s, congrArg Host.Outcome.next (afterByte_still hactivity _), ?_⟩
    rw [expireGap_holds hq hstate hholding hshift hreceiver]
    refine ⟨?_, ?_⟩
    · exact (frameGap_eq s.station f).ge.trans (Nat.le_max_right _ _)
    · simp only [setQuiet, lt_max_iff, lt_self_iff_false, false_or]
  · refine ⟨_, congrArg Host.Outcome.next (driveHeld_eq hholding), rfl, ?_,
    ⟨frameBody s.time f, rfl, ?_, ?_, ?_⟩, ?_, ?_, rfl⟩
    · cases f <;> rfl
    · rintro z v rfl; rfl
    · rintro z rfl; rfl
    · rintro c n first last p rfl; rfl
    · exact (stuckWatch_seeStartBit s.time s.rate s.line.quiet .own s.line).1
    · exact (stuckWatch_seeStartBit s.time s.rate s.line.quiet .own s.line).2
  · exact congrArg Host.Outcome.next (takeEcho_counts hshift hecho)
  · exact congrArg Host.Outcome.next (takeEcho_passes hshift hecho)

/-- Settles O22: the readback, the echo deadline, and the byte that a failed start-up leaves on the line. -/
theorem selfTestPassesOrFails : Obligations.SelfTestPassesOrFails := by
  refine ⟨fun s hstage hecho => ⟨_, exec_outputReadback_clean hstage hecho, ?_, ?_⟩,
    fun good sense s hstage hecho hfault => exec_outputReadback_faulty hstage hecho hfault,
    fun s hdue hheard => ?_, fun s hdue hheard => ?_, fun s hp hd hfailed hown hempty => ?_,
    fun s d start bytes hp hd hfailed hown hshift hreceiver hunfinished => ?_,
    fun s f drive start bytes hp hd hfailed hecho hown hshift hreceiver hlast => ?_,
    fun s d hfailed hecho hshift => ⟨_, congrArg Host.Outcome.next (takeEcho_counts hshift hecho), rfl, rfl, rfl, rfl⟩⟩
  · exact waits_placePresence _
  · exact placePresence_places _
  · rw [exec_echoDeadlineExpiry hdue, expireEcho, if_pos hheard]
    rfl
  · rw [exec_echoDeadlineExpiry hdue, expireEcho, if_neg hheard]
    rfl
  · rw [step_cutFrame hp hd hfailed hown]
    cases hshift : s.line.shift with
    | none =>
      rw [endCutFrame_empty hshift, ← hshift]
      rfl
    | some d =>
      have hhunting : s.line.receiver = .hunting := hempty.resolve_right (by simp [hshift])
      rw [endCutFrame_hunting hown hshift hhunting]
      rfl
  · have hbytes : d.bytes ≠ [] := by
      rintro hnil
      simp [hnil, Unfinished] at hunfinished
    rw [step_cutFrame hp hd hfailed hown, endCutFrame_taking hown hshift hreceiver hbytes,
      endFrameByte_unfinished hunfinished rfl]
    rfl
  · have hback : (⟨f, drive, frameBytes s.station drive f⟩ : DrivenFrame).readBack s.time s.rate + 1
        = (frameBytes s.station drive f).length := by
      have hpos : 0 < (frameBytes s.station drive f).length := by
        rw [length_frameBytes]
        cases f <;> exact Nat.succ_pos _
      simp only [DrivenFrame.readBack]
      omega
    rw [step_cutFrame hp hd hfailed hown, endCutFrame_taking hown hshift hreceiver (by simp [frameBytes])]
    dsimp only
    rw [hback, List.take_length, endFrameByte_frameBytes, takeEcho_counts (by exact hshift) (by exact hecho)]
    simp [endValidFrame, endReception, byteOver, Line.rests, hown]

end Sys2Proof.Machine
end

section
/-! PROOF. The siren unit (R148 to R152): the settlement of O53. -/
namespace Sys2Proof.Machine

section
variable {s t u : State} {i : Fin 2}

/-- A change of one siren changes no more than the siren. -/
theorem get_sirens_setSiren_same (i : Fin 2) (x : Siren) (s : State) : (setSiren i x s).sirens.sirens.get i = x := by
  simp [setSiren]

/-- R2: a change of level at which its block does nothing. -/
theorem takeContact_ignored {i : Input} {active : Bool} (hover : s.handedOver = true) (hlevel : s.level i = !active)
    (hidle : contactAction i active (setLevel i active s) = setLevel i active s) :
    takeContact i active s = setLevel i active s := by
  have hchange : (s.handedOver && (s.level i != active)) = true := by cases active <;> simp [hover, hlevel]
  rw [takeContact, if_pos hchange, contactChange, hidle, ite_self]

/-! ## Silence (R150) -/

/-- R147: QUIET is granted below HALT. -/
theorem granted_quiet_iff (x : Siren) : x.granted = .quiet ↔ Level.le .halt (highestView x.views) = false := by
  unfold Siren.granted
  cases highestView x.views <;> decide

/-- R150: the siren as SIL leaves it. -/
def hushedSiren (i : Fin 2) (s : State) : Siren :=
  if Level.le .halt (highestView (s.sirens.sirens.get i).views) = true then
    { s.sirens.sirens.get i with
      sounding := .quiet, output := false, phase := none, phaseDeadline := none
      cycleDeadline := none, cycles := none, pendingRise := false
      silenced := some (highestView (s.sirens.sirens.get i).views)
      resoundDeadline := if s.cfg.resound = 0 then none else some (later s.time (s.cfg.resound * 60000)) }
  else s.sirens.sirens.get i

/-- R150: the record of a silence that begins, where one does. -/
def hushedRecord (i : Fin 2) (s : State) : Option Record :=
  if Level.le .halt (highestView (s.sirens.sirens.get i).views) = true then
    some ⟨s.time, .siren, i.val, s.homeView, s.station, 0, 3, levelCode (highestView (s.sirens.sirens.get i).views)⟩
  else none

/-- R150: SIL at a siren: the siren as silenced, its record, and nothing else but the log. -/
theorem silence_effect (i : Fin 2) (s : State) :
    Appends (hushedRecord i s).toList s (silence i s) ∧ (silence i s).log.rest = s.log.rest
      ∧ silence i s = { setSiren i (hushedSiren i s) s with log := (silence i s).log } := by
  by_cases hloud : Level.le .halt (highestView (s.sirens.sirens.get i).views) = true
  · have hgranted : (s.sirens.sirens.get i).granted ≠ .quiet := by simp [granted_quiet_iff, hloud]
    have hsilence : silence i s = post .siren i.val 3 (levelCode (highestView (s.sirens.sirens.get i).views)) 0
        (setSiren i (hushedSiren i s) s) := by
      rw [silence, if_neg hgranted, hushedSiren, if_pos hloud]
      rfl
    have hrecord : hushedRecord i s = some ((setSiren i (hushedSiren i s) s).record .siren i.val 3
        (levelCode (highestView (s.sirens.sirens.get i).views)) 0) := if_pos hloud
    rw [hsilence, hrecord]
    exact ⟨appends_post .siren i.val 3 _ 0 (setSiren i (hushedSiren i s) s),
      logRest_post .siren i.val 3 _ 0 (setSiren i (hushedSiren i s) s), rfl⟩
  · have hgranted : (s.sirens.sirens.get i).granted = .quiet := by simpa [granted_quiet_iff] using hloud
    have hself : setSiren i (hushedSiren i s) s = s := by
      rw [hushedSiren, if_neg hloud, setSiren, Pair.set_get_self]
    have hrecord : hushedRecord i s = none := if_neg hloud
    rw [silence, if_pos hgranted, hself, hrecord]
    exact ⟨.of_log_eq rfl, rfl, rfl⟩

/-- R150: SIL at both sirens. -/
theorem silenceAll_effect (s : State) :
    Appends ((hushedRecord 0 s).toList ++ (hushedRecord 1 s).toList) s (silenceAll s)
      ∧ (silenceAll s).log.rest = s.log.rest
      ∧ silenceAll s = { setSiren 1 (hushedSiren 1 s) (setSiren 0 (hushedSiren 0 s) s) with
          log := (silenceAll s).log } := by
  obtain ⟨hfirst, hrest, hframe⟩ := silence_effect 0 s
  obtain ⟨hsecond, hrest', hframe'⟩ := silence_effect 1 (silence 0 s)
  have hother : (silence 0 s).sirens.sirens.get 1 = s.sirens.sirens.get 1 := by
    rw [hframe]
    exact Pair.get_set_other _ _ (by decide)
  have hstands : ∀ r : State, r = { setSiren 0 (hushedSiren 0 s) s with log := r.log } →
      r.sirens.sirens.get 1 = s.sirens.sirens.get 1 →
      hushedRecord 1 r = hushedRecord 1 s ∧ hushedSiren 1 r = hushedSiren 1 s := by
    intro r hr hsiren
    have htime : r.time = s.time ∧ r.cfg = s.cfg ∧ r.homeView = s.homeView ∧ r.station = s.station := by
      rw [hr]
      exact ⟨rfl, rfl, rfl, rfl⟩
    obtain ⟨htime, hcfg, hview, hstation⟩ := htime
    exact ⟨by simp only [hushedRecord, hsiren, htime, hview, hstation],
      by simp only [hushedSiren, hsiren, htime, hcfg]⟩
  obtain ⟨hrecord, hsiren⟩ := hstands _ hframe hother
  rw [hrecord] at hsecond
  rw [hsiren] at hframe'
  refine ⟨hfirst.trans hsecond, hrest'.trans hrest, ?_⟩
  have hset : setSiren 1 (hushedSiren 1 s) (silence 0 s)
      = { setSiren 1 (hushedSiren 1 s) (setSiren 0 (hushedSiren 0 s) s) with log := (silence 0 s).log } := by
    rw [hframe]
    rfl
  rw [hset] at hframe'
  exact hframe'

/-! ## Deadlines (R148, R149, R152) -/

/-- R148: a phase deadline that expires. -/
theorem exec_phaseDeadlineExpiry (ho : s.operating = true)
    (hdue : due s.time (s.sirens.sirens.get i).phaseDeadline = true) :
    exec (.phaseDeadlineExpiry i) s = .next (expirePhase i s) :=
  congrArg Host.Outcome.next (if_pos (by simp [ho, hdue]))

/-- R148: a cycle deadline that expires. -/
theorem exec_cycleDeadlineExpiry (ho : s.operating = true)
    (hdue : due s.time (s.sirens.sirens.get i).cycleDeadline = true) :
    exec (.cycleDeadlineExpiry i) s = .next (expireCycle i s) :=
  congrArg Host.Outcome.next (if_pos (by simp [ho, hdue]))

/-- R152: a resound deadline that expires. -/
theorem exec_resoundDeadlineExpiry (ho : s.operating = true)
    (hdue : due s.time (s.sirens.sirens.get i).resoundDeadline = true) :
    exec (.resoundDeadlineExpiry i) s = .next (resoundSiren i s) :=
  congrArg Host.Outcome.next (if_pos (by simp [ho, hdue]))

/-- R148: the next cycle of the same pattern begins. -/
theorem expireCycle_continues {n : Nat} (hrise : (s.sirens.sirens.get i).pendingRise = false)
    (hcycles : (s.sirens.sirens.get i).cycles = some n) :
    expireCycle i s = setSiren i (beginCycle s.time (s.sirens.sirens.get i).sounding
      { s.sirens.sirens.get i with cycles := some (min (n + 1) 65535) }) s := by
  simp [expireCycle, hrise, hcycles]

/-- R149: a pending rise is taken at the end of a cycle. -/
theorem expireCycle_rises {n : Nat} (hrise : (s.sirens.sirens.get i).pendingRise = true)
    (hcycles : (s.sirens.sirens.get i).cycles = some n) :
    expireCycle i s = sound i .steady
      (setSiren i { s.sirens.sirens.get i with cycles := some (min (n + 1) 65535), pendingRise := false } s) := by
  simp [expireCycle, hrise, hcycles]

/-- A siren changed twice stands as changed last. -/
theorem setSiren_setSiren (i : Fin 2) (x y : Siren) (s : State) : setSiren i x (setSiren i y s) = setSiren i x s := by
  simp only [setSiren, Pair.set_set]

/-- R148: the next cycle of PULSE. -/
theorem beginCycle_pulse {x : Siren} (h : x.sounding = .pulse) (now : Instant) :
    beginCycle now x.sounding x = { x with
      output := true, phase := some .on, phaseDeadline := some (later now 1000)
      cycleDeadline := some (later now 2000) } := by
  rw [h, beginCycle, ← h]

/-- R148: the next cycle of STEADY. -/
theorem beginCycle_steady {x : Siren} (h : x.sounding = .steady) (now : Instant) :
    beginCycle now x.sounding x = { x with
      output := true, phase := none, phaseDeadline := none, cycleDeadline := some (later now 1000) } := by
  rw [h, beginCycle, ← h]

/-- R148, R154: a pattern sounds: the siren, its record, and nothing else but the log. -/
theorem sound_effect (i : Fin 2) (p : Pattern) (s : State) :
    Appends [⟨s.time, .siren, i.val, s.homeView, s.station, 0, patternCode p,
        (s.sirens.sirens.get i).cycles.getD 0⟩] s (sound i p s)
      ∧ (sound i p s).log.rest = s.log.rest
      ∧ sound i p s
        = { setSiren i (changePattern s.time p (s.sirens.sirens.get i)) s with log := (sound i p s).log } :=
  ⟨appends_post .siren i.val (patternCode p) ((s.sirens.sirens.get i).cycles.getD 0) 0
      (setSiren i (changePattern s.time p (s.sirens.sirens.get i)) s),
    logRest_post .siren i.val (patternCode p) ((s.sirens.sirens.get i).cycles.getD 0) 0
      (setSiren i (changePattern s.time p (s.sirens.sirens.get i)) s), rfl⟩

/-- R152: the siren once its silence has ended. -/
def resoundedSiren (i : Fin 2) (s : State) : Siren :=
  changePattern s.time (s.sirens.sirens.get i).granted
    { s.sirens.sirens.get i with silenced := none, resoundDeadline := none }

/-- R152: a silence ends by resound: the siren, the two records, and nothing else but the log. -/
theorem resoundSiren_effect (i : Fin 2) (s : State) :
    Appends [⟨s.time, .siren, i.val, s.homeView, s.station, 0, 4, 2⟩,
        ⟨s.time, .siren, i.val, s.homeView, s.station, 0, patternCode (s.sirens.sirens.get i).granted,
          (s.sirens.sirens.get i).cycles.getD 0⟩] s (resoundSiren i s)
      ∧ (resoundSiren i s).log.rest = s.log.rest
      ∧ resoundSiren i s = { setSiren i (resoundedSiren i s) s with log := (resoundSiren i s).log } := by
  let x := { s.sirens.sirens.get i with silenced := none, resoundDeadline := none }
  let t := endSilence i 2 s
  have hended : Appends [⟨s.time, .siren, i.val, s.homeView, s.station, 0, 4, 2⟩] s t :=
    appends_post .siren i.val 4 2 0 (setSiren i x s)
  have hget : t.sirens.sirens.get i = x := get_sirens_setSiren_same i x s
  have hset : ∀ y, setSiren i y t = { setSiren i y s with log := t.log } := fun y =>
    congrArg (fun r : State => { r with log := t.log }) (setSiren_setSiren i y x s)
  obtain ⟨hsounded, hrest, hframe⟩ := sound_effect i (s.sirens.sirens.get i).granted t
  rw [hget] at hsounded hframe
  rw [hset] at hframe
  exact ⟨hended.trans hsounded, hrest.trans (logRest_post .siren i.val 4 2 0 (setSiren i x s)), hframe⟩

/-- R148: what a pattern gives the output. -/
theorem changePattern_sounds (now : Instant) (p : Pattern) (x : Siren) :
    (changePattern now p x).sounding = p ∧ ((changePattern now p x).output = true ↔ p ≠ .quiet)
      ∧ (changePattern now p x).silenced = x.silenced
      ∧ (changePattern now p x).resoundDeadline = x.resoundDeadline := by
  cases p <;> simp [changePattern, beginCycle]

end

/-- Settles O53: SIL at both sirens, and the three deadlines of one. -/
theorem sirensCycleAndFallSilent : Obligations.SirensCycleAndFallSilent := by
  refine ⟨fun s hover ho hlevel => ?_, fun s hover hlevel => ?_, fun i s ho hdue => exec_phaseDeadlineExpiry ho hdue,
    fun i s n ho hdue hrise hsounding hcycles => ?_, fun i s n ho hdue hrise hsounding hcycles => ?_,
    fun i s n ho hdue hrise hcycles => ?_, fun i s ho hdue => ?_⟩
  · let t := setLevel .sil true s
    have hexec : exec (.silChange true) s = .next (silenceAll t) :=
      congrArg Host.Outcome.next (takeContact_read hover hlevel (.inl ho))
    obtain ⟨hposts, hrest, hframe⟩ := silenceAll_effect t
    refine ⟨_, hexec, fun i => ?_, ?_, eq_withLogOf hrest ?_⟩
    · rw [hframe]
      fin_cases i <;> rfl
    · have hrecords : (hushedRecord 0 t).toList ++ (hushedRecord 1 t).toList
          = ([0, 1] : List (Fin 2)).filterMap fun i => hushedRecord i t := by
        simp only [List.filterMap_cons, List.filterMap_nil]
        cases hushedRecord 0 t <;> cases hushedRecord 1 t <;> rfl
      rw [hrecords] at hposts
      exact (hposts.of_log_eq_left rfl).posts
    · rw [hframe]
      rfl
  · exact congrArg Host.Outcome.next (takeContact_ignored hover hlevel rfl)
  · rw [exec_cycleDeadlineExpiry ho hdue, expireCycle_continues hrise hcycles]
    exact congrArg (fun x => Host.Outcome.next (setSiren i x s))
      (beginCycle_pulse (x := {s.sirens.sirens.get i with cycles := some (min (n + 1) 65535)}) hsounding s.time)
  · rw [exec_cycleDeadlineExpiry ho hdue, expireCycle_continues hrise hcycles]
    exact congrArg (fun x => Host.Outcome.next (setSiren i x s))
      (beginCycle_steady (x := {s.sirens.sirens.get i with cycles := some (min (n + 1) 65535)}) hsounding s.time)
  · let x := { s.sirens.sirens.get i with cycles := some (min (n + 1) 65535), pendingRise := false }
    obtain ⟨hposts, hrest, hframe⟩ := sound_effect i .steady (setSiren i x s)
    rw [get_sirens_setSiren_same] at hposts hframe
    rw [setSiren_setSiren] at hframe
    refine ⟨_, exec_cycleDeadlineExpiry ho hdue, ?_⟩
    rw [expireCycle_rises hrise hcycles]
    exact ⟨(hposts.of_log_eq_left rfl).posts, eq_withLogOf hrest hframe⟩
  · obtain ⟨hposts, hrest, hframe⟩ := resoundSiren_effect i s
    have hsiren : (resoundSiren i s).sirens.sirens.get i = resoundedSiren i s := by
      rw [hframe]
      exact get_sirens_setSiren_same i _ s
    obtain ⟨hsounding, houtput, hsilenced, hdeadline⟩ := changePattern_sounds s.time (s.sirens.sirens.get i).granted
      { s.sirens.sirens.get i with silenced := none, resoundDeadline := none }
    refine ⟨_, exec_resoundDeadlineExpiry ho hdue, ?_⟩
    rw [hsiren]
    exact ⟨hsilenced, hdeadline, hsounding, houtput, hposts.posts, eq_withLogOf hrest hframe⟩

end Sys2Proof.Machine
end

section
/-! SUPPORT. The key state of the sequencer and its step-fault flag, with the member of the fault summary that follows
the flag (R120, R121): what a recount leaves of them, and how a restart begins (R124). -/
namespace Sys2Proof.Machine

/-- R120, R121: the key state, the unlock deadline, the step-fault flag and its member of the fault summary. -/
def State.keyAndFlag (s : State) : KeyState × Option Instant × Bool × Bool :=
  (s.sequencer.key, s.sequencer.unlockDeadline, s.sequencer.stepFault, s.sirens.summary.stepFault)

section
variable {s : State}

/-! ## Steps of the sequencer -/

/-- The reading stands where the sequencer and the fault member stand. -/
theorem keyAndFlag_of_sequencer_eq {t : State} (h : t.sequencer = s.sequencer)
    (hfault : t.sirens.summary.stepFault = s.sirens.summary.stepFault) : t.keyAndFlag = s.keyAndFlag := by
  rw [State.keyAndFlag, h, hfault, State.keyAndFlag]

/-- R111: a change of sequencer state. -/
@[simp] theorem keyAndFlag_setSequencer (st : SeqState) (s : State) :
    (setSequencer st s).keyAndFlag = s.keyAndFlag := rfl

/-- R158: a posted event. -/
@[simp] theorem keyAndFlag_post (kind : EventKind) (subject value1 value2 flags : Nat) (s : State) :
    (post kind subject value1 value2 flags s).keyAndFlag = s.keyAndFlag := rfl

/-- R130: a STEP event. -/
@[simp] theorem keyAndFlag_postStep (subject code value2 : Nat) (s : State) :
    (postStep subject code value2 s).keyAndFlag = s.keyAndFlag := rfl

/-- A step timer that ends or begins. -/
@[simp] theorem keyAndFlag_stepTimer (s : State) (d : Option Instant) :
    ({ s with sequencer := { s.sequencer with stepTimer := d } } : State).keyAndFlag = s.keyAndFlag := rfl

/-- R118: the entry to HALTED. -/
@[simp] theorem keyAndFlag_enterHalted (cause : HaltedCause) (s : State) :
    (enterHalted cause s).keyAndFlag = s.keyAndFlag := rfl

/-- R128: the entry to RUNNING. -/
@[simp] theorem keyAndFlag_enterRunning (s : State) : (enterRunning s).keyAndFlag = s.keyAndFlag := rfl

/-- R110, R113: the entry to a step. -/
theorem keyAndFlag_enterStep {st : SeqState} {inRole : Bool} {limit : Nat} {confirmed : Bool} {next : State → State}
    (h : ∀ s, (next s).keyAndFlag = s.keyAndFlag) (s : State) :
    (enterStep st inRole limit confirmed next s).keyAndFlag = s.keyAndFlag := by
  unfold enterStep
  dsimp only
  (repeat' split)
  · exact h _
  · exact h _
  · rfl

/-- The entry to DAMPER_CLOSING. -/
@[simp] theorem keyAndFlag_enterDamperClosing (s : State) : (enterDamperClosing s).keyAndFlag = s.keyAndFlag :=
  keyAndFlag_enterStep (keyAndFlag_enterHalted .shutdown) s

/-- The entry to FAN_STOPPING. -/
@[simp] theorem keyAndFlag_enterFanStopping (s : State) : (enterFanStopping s).keyAndFlag = s.keyAndFlag :=
  keyAndFlag_enterStep keyAndFlag_enterDamperClosing s

/-- The entry to RUN_ON. -/
@[simp] theorem keyAndFlag_enterRunOn (s : State) : (enterRunOn s).keyAndFlag = s.keyAndFlag :=
  keyAndFlag_enterStep keyAndFlag_enterFanStopping s

/-- The entry to VENTING. -/
@[simp] theorem keyAndFlag_enterVenting (s : State) : (enterVenting s).keyAndFlag = s.keyAndFlag :=
  keyAndFlag_enterStep keyAndFlag_enterRunOn s

/-- The entry to FEED_STOPPING. -/
@[simp] theorem keyAndFlag_enterFeedStopping (s : State) : (enterFeedStopping s).keyAndFlag = s.keyAndFlag :=
  keyAndFlag_enterStep keyAndFlag_enterVenting s

/-- The entry to FEED_WAIT. -/
@[simp] theorem keyAndFlag_enterFeedWait (s : State) : (enterFeedWait s).keyAndFlag = s.keyAndFlag := by
  unfold enterFeedWait
  dsimp only
  (repeat' split) <;> simp

/-- The entry to GATE_RETURNING. -/
@[simp] theorem keyAndFlag_enterGateReturning (s : State) : (enterGateReturning s).keyAndFlag = s.keyAndFlag :=
  keyAndFlag_enterStep keyAndFlag_enterFeedWait s

/-- The entry to FAN_STARTING. -/
@[simp] theorem keyAndFlag_enterFanStarting (s : State) : (enterFanStarting s).keyAndFlag = s.keyAndFlag :=
  keyAndFlag_enterStep keyAndFlag_enterGateReturning s

/-- The entry to DAMPER_OPENING. -/
@[simp] theorem keyAndFlag_enterDamperOpening (s : State) : (enterDamperOpening s).keyAndFlag = s.keyAndFlag :=
  keyAndFlag_enterStep keyAndFlag_enterFanStarting s

/-- The step that follows a step. -/
@[simp] theorem keyAndFlag_nextStep (st : SeqState) (s : State) : (nextStep st s).keyAndFlag = s.keyAndFlag := by
  cases st <;> simp [nextStep]

/-- R113, R116: the completion of a step. -/
@[simp] theorem keyAndFlag_completeStep (code : Nat) (s : State) : (completeStep code s).keyAndFlag = s.keyAndFlag := by
  simp [completeStep]

/-- R127: the reversal of a restart. -/
@[simp] theorem keyAndFlag_reversalStep (st : SeqState) (s : State) :
    (reversalStep st s).keyAndFlag = s.keyAndFlag := by
  cases st <;> simp [reversalStep]

/-- R112: FEED_HOLD at the start of a shutdown. -/
@[simp] theorem keyAndFlag_feedHold (s : State) (b : Bool) :
    ({ s with sequencer := { s.sequencer with feedHold := b } } : State).keyAndFlag = s.keyAndFlag := rfl

/-- R112, R116, R119, R127: a notice of the home view. -/
@[simp] theorem keyAndFlag_sequencerNotice (view : Level) (s : State) :
    (sequencerNotice view s).keyAndFlag = s.keyAndFlag := by
  unfold sequencerNotice
  (repeat' split) <;> simp

/-! ## Demands, doors and views -/

/-- R129: demands. -/
@[simp] theorem keyAndFlag_demands (s : State) (p : Pair Bool) :
    ({ s with sequencer := { s.sequencer with demands := p } } : State).keyAndFlag = s.keyAndFlag := rfl

/-- R129: the FEED_HOLD flag. -/
@[simp] theorem keyAndFlag_setFeedHold (b : Bool) (s : State) : (setFeedHold b s).keyAndFlag = s.keyAndFlag := rfl

/-- A change of the doors. -/
@[simp] theorem keyAndFlag_doors (s : State) (p : Pair Door) :
    ({ s with doors := p } : State).keyAndFlag = s.keyAndFlag := rfl

/-- R129: a demand placed. -/
@[simp] theorem keyAndFlag_placeDemand (d : Fin 2) (s : State) : (placeDemand d s).keyAndFlag = s.keyAndFlag := by
  unfold placeDemand
  dsimp only
  split <;> simp

/-- R128, R129: a demand withdrawn. -/
@[simp] theorem keyAndFlag_withdrawDemand (d : Fin 2) (s : State) : (withdrawDemand d s).keyAndFlag = s.keyAndFlag := by
  unfold withdrawDemand
  dsimp only
  (repeat' split) <;> simp

/-- R143: a demand that follows its door. -/
@[simp] theorem keyAndFlag_syncDemand (d : Fin 2) (s : State) : (syncDemand d s).keyAndFlag = s.keyAndFlag := by
  unfold syncDemand
  dsimp only
  (repeat' split) <;> simp

/-- R155: a report of another fault member. -/
theorem keyAndFlag_reportFault {m : FaultMember} (h : .stepFault ≠ m) (b : Bool) (s : State) :
    (reportFault m b s).keyAndFlag = s.keyAndFlag :=
  keyAndFlag_of_sequencer_eq (by simp) (has_reportFault_other s b h)

/-- R133: the entry to a door state. -/
@[simp] theorem keyAndFlag_setDoor (d : Fin 2) (st : DoorState) (cause : Nat) (s : State) :
    (setDoor d st cause s).keyAndFlag = s.keyAndFlag := by
  simp [setDoor, keyAndFlag_reportFault]

/-- R139: the closing of a door. -/
@[simp] theorem keyAndFlag_closeDoor (d : Fin 2) (s : State) : (closeDoor d s).keyAndFlag = s.keyAndFlag := by
  unfold closeDoor
  dsimp only
  split <;> simp

/-- R138: the release of a door. -/
@[simp] theorem keyAndFlag_releaseDoor (d : Fin 2) (cause : Nat) (s : State) :
    (releaseDoor d cause s).keyAndFlag = s.keyAndFlag := by
  unfold releaseDoor
  dsimp only
  split <;> simp

/-- R136: the clearing of a door. -/
@[simp] theorem keyAndFlag_clearDoor (d : Fin 2) (s : State) : (clearDoor d s).keyAndFlag = s.keyAndFlag := by
  unfold clearDoor
  dsimp only
  (repeat' split) <;> simp

/-- R134: a notice of a view at a door. -/
@[simp] theorem keyAndFlag_doorNotice (z : Nat) (view : Level) (d : Fin 2) (s : State) :
    (doorNotice z view d s).keyAndFlag = s.keyAndFlag := by
  unfold doorNotice
  dsimp only
  (repeat' split) <;> simp

/-- A change of the sirens that leaves the fault summary. -/
@[simp] theorem keyAndFlag_sirens (s : State) (p : Pair Siren) :
    ({ s with sirens := { s.sirens with sirens := p } } : State).keyAndFlag = s.keyAndFlag := rfl

/-- R148: a pattern that sounds. -/
@[simp] theorem keyAndFlag_sound (i : Fin 2) (p : Pattern) (s : State) : (sound i p s).keyAndFlag = s.keyAndFlag := rfl

/-- R151: a silence that ends. -/
@[simp] theorem keyAndFlag_endSilence (i : Fin 2) (cause : Nat) (s : State) :
    (endSilence i cause s).keyAndFlag = s.keyAndFlag := rfl

/-- R149: a change of grant. -/
@[simp] theorem keyAndFlag_takeGrant (i : Fin 2) (old new : Pattern) (s : State) :
    (takeGrant i old new s).keyAndFlag = s.keyAndFlag := by
  unfold takeGrant
  dsimp only
  (repeat' split) <;> simp

/-- R151: a silence judged. -/
@[simp] theorem keyAndFlag_judgeSilence (i : Fin 2) (level : Level) (s : State) :
    (judgeSilence i level s).keyAndFlag = s.keyAndFlag := by
  unfold judgeSilence
  dsimp only
  (repeat' split) <;> simp

/-- R147: a notice of a view at a siren. -/
@[simp] theorem keyAndFlag_sirenNotice (z : Nat) (view : Level) (i : Fin 2) (s : State) :
    (sirenNotice z view i s).keyAndFlag = s.keyAndFlag := by
  unfold sirenNotice
  dsimp only
  (repeat' split) <;> simp

/-- A change of the log. -/
@[simp] theorem keyAndFlag_log (s : State) (g : LogSystem) :
    ({ s with log := g } : State).keyAndFlag = s.keyAndFlag := rfl

/-- R103: a changed view at its four readers. -/
@[simp] theorem keyAndFlag_notifyView (z : Nat) (old new : Level) (s : State) :
    (notifyView z old new s).keyAndFlag = s.keyAndFlag := by
  unfold notifyView
  dsimp only
  (repeat' split) <;> simp

/-- No recount of the zone unit changes the key state or the step-fault flag. -/
theorem steady_keyAndFlag : Steady State.keyAndFlag :=
  ⟨by simp, by simp, fun _ _ => rfl, fun _ _ => keyAndFlag_of_sequencer_eq (by simp) (by simp)⟩

/-! ## Steps that lead from HALTED (R124) -/

/-- R124 to R128: RUNNING and the four restart steps. -/
def SeqState.restarted (st : SeqState) : Prop := st.restarting = true ∨ st = .running

/-- R128: the entry to RUNNING. -/
theorem enterRunning_restarted (s : State) : (enterRunning s).sequencer.state.restarted := .inr rfl

/-- R110, R113: a step of the restart that leads on within it. -/
theorem enterStep_restarted {st : SeqState} {inRole : Bool} {limit : Nat} {confirmed : Bool} {next : State → State}
    (hst : st.restarted) (h : ∀ s, (next s).sequencer.state.restarted) (s : State) :
    (enterStep st inRole limit confirmed next s).sequencer.state.restarted := by
  unfold enterStep
  dsimp only
  (repeat' split)
  · exact h _
  · exact h _
  · exact hst

/-- R128: the entry to FEED_WAIT. -/
theorem enterFeedWait_restarted (s : State) : (enterFeedWait s).sequencer.state.restarted := by
  unfold enterFeedWait
  dsimp only
  (repeat' split)
  · exact enterRunning_restarted _
  · exact enterRunning_restarted _
  · exact .inl rfl

/-- R125: the entry to GATE_RETURNING. -/
theorem enterGateReturning_restarted (s : State) : (enterGateReturning s).sequencer.state.restarted :=
  enterStep_restarted (.inl rfl) enterFeedWait_restarted s

/-- R126: the entry to FAN_STARTING. -/
theorem enterFanStarting_restarted (s : State) : (enterFanStarting s).sequencer.state.restarted :=
  enterStep_restarted (.inl rfl) enterGateReturning_restarted s

/-- R125: the entry to DAMPER_OPENING. -/
theorem enterDamperOpening_restarted (s : State) : (enterDamperOpening s).sequencer.state.restarted :=
  enterStep_restarted (.inl rfl) enterFanStarting_restarted s

/-- R124: what has restarted is not HALTED. -/
theorem SeqState.restarted.ne_halted {st : SeqState} (h : st.restarted) : st ≠ .halted := by
  rintro rfl
  exact absurd h (by simp [SeqState.restarted, SeqState.restarting])

/-- R120: the step-fault flag as set, with the key state as it was, and its fault member in operation. -/
theorem keyAndFlag_setStepFault (b : Bool) (s : State) :
    (setStepFault b s).keyAndFlag = (s.sequencer.key, s.sequencer.unlockDeadline, b,
      if s.operating = true then b else s.sirens.summary.stepFault) := by
  let t := { s with sequencer := { s.sequencer with stepFault := b } }
  have hsequencer :
      (setStepFault b s).sequencer = t.sequencer := (reportFault_frame .stepFault b t).2.2.2.2.2.2.2.2.2.2.2.1
  have hmember : (setStepFault b s).sirens.summary.stepFault
      = if s.operating = true then b else s.sirens.summary.stepFault := by
    split
    case isTrue ho => exact has_reportFault (s := t) ho .stepFault b
    case isFalse ho =>
      have hoff : setStepFault b s = t := reportFault_off (s := t) (Bool.eq_false_iff.2 ho) .stepFault b
      rw [hoff]
  rw [State.keyAndFlag, hsequencer, hmember]

/-- R124: a restart that begins in HALTED clears the step-fault flag, leaves HALTED, and keeps the key state. -/
theorem beginRestart_leaves (hs : s.sequencer.state = .halted) (localRestart : Bool) :
    (beginRestart localRestart s).sequencer.state.restarted
      ∧ (beginRestart localRestart s).sequencer.stepFault = false
      ∧ (beginRestart localRestart s).sequencer.key = s.sequencer.key := by
  let t := setStepFault false s
  let u := { t with zones := { t.zones with haltedAt := none, aged := false } }
  have hbegins : beginRestart localRestart s
      = enterDamperOpening (postStep 0 7 (if localRestart then 1 else 0) (recountOwn u)) := if_pos hs
  have hkept : (beginRestart localRestart s).keyAndFlag = (setStepFault false s).keyAndFlag := by
    rw [hbegins, keyAndFlag_enterDamperOpening, keyAndFlag_postStep, recountOwn_keeps steady_keyAndFlag]
    rfl
  rw [keyAndFlag_setStepFault] at hkept
  simp only [State.keyAndFlag, Prod.mk.injEq] at hkept
  obtain ⟨hkey, -, hfault, -⟩ := hkept
  refine ⟨?_, hfault, hkey⟩
  rw [hbegins]
  exact enterDamperOpening_restarted _

end

end Sys2Proof.Machine
end

section
/-! PROOF. Restarts of the home zone (R104, R123, R124) and the key sequence (R121): the settlement of O51. -/
namespace Sys2Proof.Machine

section
variable {s t : State}

/-- What no cascade reaches of a state. -/
theorem parts_of_beyondZones (h : t.beyondZones = s.beyondZones) :
    t.time = s.time ∧ t.startup = s.startup ∧ t.config = s.config ∧ t.inputs = s.inputs ∧ t.peers = s.peers := by
  simp only [State.beyondZones, State.mk.injEq] at h
  obtain ⟨htime, hstartup, hconfig, hinputs, -, -, -, -, -, hpeers, -⟩ := h
  exact ⟨htime, hstartup, hconfig, hinputs, hpeers⟩

/-! ## What a restart reaches (R104, R124) -/

/-- R104: the state in which the latch and the stored votes of the home zone have been cleared and the own vote has been
recounted. -/
def restartCleared (s : State) : State :=
  let a := updateZone s.cfg.homeZone (fun r => { r with latched := .clear }) s
  let b := clearStoredVotes s.cfg.homeZone { a with zones := { a.zones with latched := none } }
  { b with zones := recountVotes b }

/-- R104: the cleared votes change the presence table and what a cascade reaches. -/
theorem restartCleared_beyondZones (s : State) :
    (restartCleared s).beyondZones = { s.beyondZones with peers := (restartCleared s).peers } := rfl

/-- R104: the home zone is recounted with the cleared votes, and the VOTE is handed over. -/
def restartRecounted (s : State) : State :=
  let c := restartCleared s
  let d := handVote c.zones.own c
  recountZone s.cfg.homeZone (if c.zones.own = s.zones.own then d else postVote d)

/-- R104: an accepted restart by its parts. -/
theorem acceptRestart_eq (source : Nat) (s : State) :
    acceptRestart source s
      = beginRestart false (post .restartAccept s.cfg.homeZone source 0 0 (restartRecounted s)) := rfl

/-- R104: with the votes cleared, an accepted restart is a cascade. -/
theorem restartRecounted_cascade (ho : s.operating = true) :
    Leads .cascade (restartCleared s) (restartRecounted s) := by
  have hoc : (restartCleared s).startup.state = .operating := operating_iff.1 ho
  refine leads_recountZone (leads_ite (leads_handVote .refl hoc) (leads_post (leads_handVote .refl hoc))) ?_
  split <;> simpa using hoc

/-- R104, R124: an accepted restart is a cascade from the cleared votes. -/
theorem acceptRestart_cascade (ho : s.operating = true) (source : Nat) :
    Leads .cascade (restartCleared s) (acceptRestart source s) := by
  have hcascade := restartRecounted_cascade ho
  refine leads_beginRestart (leads_post hcascade) ?_
  obtain ⟨-, hstartup, -⟩ := parts_of_beyondZones hcascade.beyondZones
  exact (congrArg Startup.state hstartup).trans (operating_iff.1 ho)

/-- R104: a restart accepted in HALTED finds HALTED once its zone has been recounted, with the key state as it was. -/
theorem restartRecounted_stands (hs : s.sequencer.state = .halted) :
    (restartRecounted s).sequencer.state = .halted ∧ (restartRecounted s).keyAndFlag = s.keyAndFlag := by
  have hc : (restartCleared s).sequencer = s.sequencer := rfl
  have hsirens : (restartCleared s).sirens = s.sirens := rfl
  constructor
  · refine state_recountZoneWith_halted (fun t ht => state_reportHalted_halted ht) ?_ _
    split
    · simpa [hc] using hs
    · simpa [hc, postVote] using hs
  · refine (recountZone_keeps steady_keyAndFlag _ _).trans ?_
    split
    · exact keyAndFlag_of_sequencer_eq (by simp [hc]) (by simp [hsirens])
    · exact keyAndFlag_of_sequencer_eq (by simp [hc, postVote]) (by simp [hsirens, postVote])

/-- R104, R124: a restart accepted in HALTED. -/
theorem acceptRestart_leaves (hs : s.sequencer.state = .halted) (source : Nat) :
    (acceptRestart source s).sequencer.state.restarted ∧ (acceptRestart source s).sequencer.stepFault = false
      ∧ (acceptRestart source s).sequencer.key = s.sequencer.key := by
  obtain ⟨hstate, hkept⟩ := restartRecounted_stands hs
  obtain ⟨hleaves, hfault, hkey⟩ := beginRestart_leaves
    (s := post .restartAccept s.cfg.homeZone source 0 0 (restartRecounted s)) hstate false
  have hsame : (restartRecounted s).sequencer.key = s.sequencer.key := congrArg Prod.fst hkept
  exact ⟨hleaves, hfault, hkey.trans hsame⟩

/-! ## Requests of the key sequence (R123) -/

/-- R72, R74: a frame handed over changes no more than a cascade reaches. -/
theorem changeQueue_beyondZones (f : OutFrame) (change : OutFrame → OutFrame) (s : State) :
    (changeQueue f change s).beyondZones = s.beyondZones :=
  congrArg (fun l => { s.beyondZones with line := l }) (lineRest_changeQueue f change s)

/-- R123: the RESTART handed over waits, where the waiting RESTARTs name the home zone. -/
theorem waits_handRestart (h : ∀ f ∈ s.line.queue, f.restartNames s.cfg.homeZone = true) :
    (handRestart s).line.waits (.restart s.cfg.homeZone) = true := by
  refine waits_judgeGap (waits_iff.2 (.inl ?_))
  unfold handOver
  split
  case isTrue hsome =>
    obtain ⟨g, hg, hsame⟩ := List.any_eq_true.1 hsome
    obtain ⟨z, rfl⟩ : ∃ z, g = .restart z := by
      cases g with
      | restart z => exact ⟨z, rfl⟩
      | detect | vote | presence => simp [OutFrame.sameSlot] at hsame
    obtain rfl : z = s.cfg.homeZone := by simpa [OutFrame.restartNames] using h _ hg
    exact List.mem_map.2 ⟨_, hg, if_pos hsame⟩
  case isFalse => exact (insertFrame_perm _ _).mem_iff.2 (.head _)

/-- R104: the eligibility of a node in HALTED. -/
theorem eligible_iff (s : State) :
    eligible s = true ↔ s.sequencer.state = .halted ∧ Level.le .halt s.zones.momentary.level = false
      ∧ s.recentDetection = false := by
  have hring : ringWithinClear s = s.recentDetection := rfl
  unfold eligible refusalFact
  rw [hring]
  by_cases hs : s.sequencer.state = .halted <;> cases Level.le .halt s.zones.momentary.level <;>
    cases s.recentDetection <;> simp [hs]

/-- The levels at or above HALT. -/
theorem halt_le_iff (l : Level) : Level.le .halt l = true ↔ l = .halt ∨ l = .fire := by
  cases l <;> decide

/-- R121: K2 with the key turned. -/
theorem keyPress_requests (h : s.sequencer.key = .keyTurned) : keyPress s = requestRestart (setKey .spent none s) :=
  if_pos h

/-- R123: a refused request is posted. -/
theorem requestRestart_refuses (h : eligible s = false) :
    requestRestart s = post .restartRefuse s.cfg.homeZone s.station (refusalFact s) 0 s :=
  if_pos (by simp [h])

/-- R123: what a granted request leads to. -/
theorem requestRestart_grants (ho : s.operating = true) (h : eligible s = true)
    (hqueue : ∀ f ∈ s.line.queue, f.restartNames s.cfg.homeZone = true) :
    (requestRestart s).sequencer.key = s.sequencer.key ∧ (requestRestart s).sequencer.stepFault = false
      ∧ (requestRestart s).sequencer.state ≠ .halted
      ∧ ((s.homeView = .halt ∨ s.homeView = .fire) → (requestRestart s).line.waits (.restart s.cfg.homeZone) = true)
      ∧ requestRestart s = ({ s with peers := (requestRestart s).peers }).withZonesOf (requestRestart s) := by
  obtain ⟨hhalted, -, -⟩ := (eligible_iff s).1 h
  have hgrant : requestRestart s = if Level.le .halt s.homeView then acceptRestart s.station (handRestart s)
      else beginRestart true (post .restartAccept s.cfg.homeZone s.station 2 0 s) := if_neg (by simp [h])
  rw [hgrant]
  split
  case isTrue =>
    obtain ⟨hleaves, hfault, hkey⟩ := acceptRestart_leaves (s := handRestart s) hhalted s.station
    have hcascade := acceptRestart_cascade (s := handRestart s) ho s.station
    refine ⟨hkey, hfault, hleaves.ne_halted, fun _ => ?_, ?_⟩
    · exact hcascade.waits nofun (waits_handRestart hqueue)
    · obtain ⟨-, -, -, -, hpeers⟩ := parts_of_beyondZones hcascade.beyondZones
      have hplaced := changeQueue_beyondZones (.restart s.cfg.homeZone) (fun g => g) s
      refine eq_withZonesOf ((hcascade.beyondZones.trans (restartCleared_beyondZones (handRestart s))).trans ?_)
      rw [hpeers]
      exact congrArg (fun r => { r with peers := (restartCleared (handRestart s)).peers }) hplaced
  case isFalse hlow =>
    obtain ⟨hleaves, hfault, hkey⟩ := beginRestart_leaves
      (s := post .restartAccept s.cfg.homeZone s.station 2 0 s) hhalted true
    have hcascade : Leads .cascade s (beginRestart true (post .restartAccept s.cfg.homeZone s.station 2 0 s)) :=
      leads_beginRestart (leads_post .refl) (operating_iff.1 ho)
    refine ⟨hkey, hfault, hleaves.ne_halted, fun hview => absurd ((halt_le_iff _).2 hview) hlow, eq_withZonesOf ?_⟩
    obtain ⟨-, -, -, -, hpeers⟩ := parts_of_beyondZones hcascade.beyondZones
    rw [hpeers]
    exact hcascade.beyondZones

end

/-- Settles O51: the key table, and a request refused or granted. -/
theorem keySequenceMakesRequests : Obligations.KeySequenceMakesRequests := by
  refine ⟨fun s hover ho hlevel hkey => ?_, fun s hover ho hlevel hkey => ?_, fun s hdue hkey => ?_,
    fun s hover hlevel hkey => ?_, fun s hover hlevel => ?_, fun s hover ho hlevel hkey hrefused => ?_,
    fun s hover ho hlevel hkey hhalted _ hlow _ hrecent ⟨_, _, hnames⟩ => ?_⟩
  · refine congrArg Host.Outcome.next ((takeContact_read hover hlevel (.inl ho)).trans ?_)
    have hsame : (setLevel .k1 true s).sequencer.key = .idle := hkey
    simp only [contactAction, keyTurn, hsame]
    rfl
  · refine congrArg Host.Outcome.next ((takeContact_read hover hlevel (.inl ho)).trans ?_)
    have hsame : (setLevel .k1 false s).sequencer.key = s.sequencer.key := rfl
    cases hk : s.sequencer.key with
    | idle => exact absurd hk hkey
    | keyTurned | spent =>
      simp only [contactAction, keyTurn, hsame, hk]
      rfl
  · exact congrArg Host.Outcome.next (if_pos (by simp [unlockDue, hdue, hkey]))
  · refine congrArg Host.Outcome.next (takeContact_ignored hover hlevel ?_)
    exact if_neg hkey
  · exact congrArg Host.Outcome.next (takeContact_ignored hover hlevel rfl)
  · refine ⟨_, congrArg Host.Outcome.next ((takeContact_read hover hlevel (.inl ho)).trans
    (keyPress_requests hkey)), ?_⟩
    let t := setKey .spent none (setLevel .k2 true s)
    have hnot : eligible t = false := by
      rw [Bool.eq_false_iff, Ne, eligible_iff, Bool.eq_false_iff, Ne, halt_le_iff]
      rintro ⟨hhalted, hlow, hrecent⟩
      obtain h | h | h | h := hrefused
      · exact h hhalted
      · exact hlow (.inl h)
      · exact hlow (.inr h)
      · exact absurd (hrecent.symm.trans h) (by decide)
    rw [requestRestart_refuses hnot]
    exact eq_withLogOf (logRest_post .restartRefuse t.cfg.homeZone t.station (refusalFact t) 0 t) rfl
  · refine ⟨_, congrArg Host.Outcome.next ((takeContact_read hover hlevel (.inl ho)).trans
    (keyPress_requests hkey)), ?_⟩
    let t := setKey .spent none (setLevel .k2 true s)
    have heligible : eligible t = true := by
      refine (eligible_iff t).2 ⟨hhalted, ?_, hrecent⟩
      obtain h | h := hlow
      · exact congrArg (Level.le .halt) h
      · exact congrArg (Level.le .halt) h
    have hqueue : ∀ f ∈ t.line.queue, f.restartNames t.cfg.homeZone = true := fun f hf =>
      hnames f (List.mem_append_left _ (List.mem_append_left _ hf))
    obtain ⟨hkept, hfault, hleaves, hwaits, hframe⟩ := requestRestart_grants (s := t) ho heligible hqueue
    refine ⟨hkept, hfault, hleaves, hwaits, hframe.trans ?_⟩
    rfl

end Sys2Proof.Machine
end

section
/-! PROOF. The spark channels: settling, faults and glow (R3, R5, R13 to R19): the settlement of O26 and O29. -/
namespace Sys2Proof.Machine

section
variable {s : State}

/-! ## What the channels report (R18, R19) -/

/-- R18: in operation the conditions of the channels and their fault member stand as they are. -/
theorem reportChannels_stands (ho : s.operating = true) :
    (reportChannels s).zones.conditions.glow = s.glowing
      ∧ (reportChannels s).zones.conditions.channelFault = s.channelFault
      ∧ (reportChannels s).sirens.summary.channelFault = s.channelFault := by
  let c := { s.zones.conditions with glow := s.glowing, channelFault := s.channelFault }
  have hchannels : (reportConditions c s).channelFault = s.channelFault := by
    rw [State.channelFault, State.channelFault, (reportConditions_frame c s).2.2.2.2.1]
  have hzones : (reportChannels s).zones.conditions = c := by
    simp only [reportChannels, reportFault_frame]
    exact conditions_reportConditions ho c
  have hmember : (reportChannels s).sirens.summary.channelFault = (reportConditions c s).channelFault :=
    has_reportFault (by simpa using ho) .channelFault _
  rw [hmember, hzones, hchannels]
  exact ⟨rfl, rfl, rfl⟩

/-- R18: what the channels' report reaches. -/
theorem reportChannels_beyondZones (s : State) : (reportChannels s).beyondZones = s.beyondZones := by
  obtain ⟨hline, hlog⟩ := reportChannels_rest s
  simp only [State.beyondZones, reportChannels_frame, hline, hlog]

/-- R19: the record of a channel that enters a state. -/
def State.channelRecord (s : State) (ch : Fin 4) (c : Channel) : Record :=
  ⟨s.time, .channel, ch.val, s.homeView, s.station, 0, channelStateCode c.state, c.baselineCount⟩

/-- A changed channel among the four. -/
def setChannel (ch : Fin 4) (c : Channel) (s : State) : State := { s with channels := s.channels.set ch c }

/-- R18, R19: a channel that changes its state: the record, the reports, and nothing else. -/
theorem channelChange_reports (ch : Fin 4) (c : Channel) (s : State) :
    let t := reportChannels (postChannel ch (setChannel ch c s))
    PostsFirst (s.channelRecord ch c) s t ∧ t.channels = s.channels.set ch c
      ∧ (s.operating = true →
        t.zones.conditions.glow = (setChannel ch c s).glowing
          ∧ t.zones.conditions.channelFault = (setChannel ch c s).channelFault
          ∧ t.sirens.summary.channelFault = (setChannel ch c s).channelFault)
      ∧ t = (setChannel ch c s).withZonesOf t := by
  intro t
  let u := setChannel ch c s
  have hget : u.channels.get ch = c := Quad.get_set_same s.channels ch c
  have hpost : postChannel ch u = post .channel ch.val (channelStateCode c.state) c.baselineCount 0 u := by
    rw [postChannel, hget]
  have hfirst : PostsFirst (u.record .channel ch.val (channelStateCode c.state) c.baselineCount 0) u t :=
    Leads.postsFirst (w := .arrival false) nofun (by rw [← hpost]; exact leads_reportChannels .refl)
  refine ⟨hfirst, (reportChannels_frame _).2.2.2.2.1, fun ho => reportChannels_stands (by exact ho), ?_⟩
  refine eq_withZonesOf ((reportChannels_beyondZones _).trans ?_)
  rw [hpost]
  exact post_beyondZones .channel ch.val (channelStateCode c.state) c.baselineCount 0 u

/-- Some channel has what the one just set has. -/
theorem any_setChannel {q : Quad Channel} {f : Channel → Bool} {ch : Fin 4} {c : Channel} (h : f c = true) :
    (q.set ch c).any f = true := by
  fin_cases ch <;> simp [Quad.any, Quad.set, h]

/-! ## A sample that changes the state (R15, R17) -/

/-- A sample at which the channel changes its state. -/
theorem exec_sample_changed {ch : Fin 4} {x : BitVec 10} {c : Channel}
    (h : channelSample (s.cfg.channels.get ch) s.time x.toNat (s.channels.get ch) = (c, .changed)) :
    exec (.sample ch x) s = .next (reportChannels (postChannel ch (setChannel ch c s))) := by
  rw [exec_sample, takeSample, h]
  rfl

section
variable {k : ChannelConfig} {now : Instant} {x b : Nat} {c : Channel}

/-- R15: the fault tests change the state. -/
theorem trackSample_tests {st : ChannelState}
    (htests : faultTests k (updateBaseline k.shift x b / 64) c.state = st) (hne : st ≠ c.state) :
    trackSample k now x b c = ({ c with
      state := st, baseline := some (updateBaseline k.shift x b), settle := none, last := some x }, .changed) := by
  subst htests
  exact if_pos hne

/-- R17: a sample of settling that is not the last. -/
theorem trackSample_settles {n : Nat} (hst : c.state = .settling) (hsettle : c.settle = some n) (hn : 2 ≤ n)
    (htests : faultTests k (updateBaseline k.shift x b / 64) c.state = c.state) :
    trackSample k now x b c = ({ c with
      baseline := some (updateBaseline k.shift x b), settle := some (n - 1), last := some x }, .nothing) := by
  refine (if_neg (not_not.2 htests)).trans ((if_pos hst).trans ?_)
  dsimp only
  rw [hsettle]
  exact if_neg (by simp only [Option.getD_some]; omega)

/-- R17: the last sample of settling. -/
theorem trackSample_settled (hst : c.state = .settling) (hsettle : c.settle = some 1)
    (htests : faultTests k (updateBaseline k.shift x b / 64) c.state = c.state) :
    trackSample k now x b c = ({ c with
      state := .armed, baseline := some (updateBaseline k.shift x b), settle := none, last := some x }, .changed) := by
  refine (if_neg (not_not.2 htests)).trans ((if_pos hst).trans ?_)
  dsimp only
  rw [hsettle]
  exact if_pos rfl

/-- R15: a sample at which a fault stands. -/
theorem trackSample_stands (hst : c.state = .faultAmbient ∨ c.state = .faultDark)
    (htests : faultTests k (updateBaseline k.shift x b / 64) c.state = c.state) :
    trackSample k now x b c = ({ c with
      baseline := some (updateBaseline k.shift x b), last := some x }, .nothing) := by
  have hother : c.state ≠ .settling ∧ c.state ≠ .armed := by obtain h | h := hst <;> simp [h]
  obtain ⟨hsettling, harmed⟩ := hother
  exact (if_neg (not_not.2 htests)).trans ((if_neg hsettling).trans (if_neg fun h => harmed h.1))

/-- R14: a sample below re-arm in GLOW. -/
theorem glowSample_below {p : Nat} (hb : c.baseline = some b) (hpeak : c.peak = some p) (hrearm : x < k.rearmAt b) :
    glowSample k x c = ({ c with
      state := .armed, run := none, pulseStart := none, glowDeadline := none
      peak := some (max p x), last := some x }, .changed) := by
  simp [glowSample, rearmLevel_eq k hb, hrearm, endPulse, raisePeak, hpeak]

/-- R14: a sample at or above re-arm in GLOW. -/
theorem glowSample_above {p : Nat} (hb : c.baseline = some b) (hpeak : c.peak = some p) (hrearm : k.rearmAt b ≤ x) :
    glowSample k x c = ({ c with peak := some (max p x), last := some x }, .nothing) := by
  simp [glowSample, rearmLevel_eq k hb, Nat.not_lt.2 hrearm, raisePeak, hpeak]

end

/-! ## The fault tests (R15) -/

section
variable {k : ChannelConfig} {a : Nat} {st : ChannelState}

/-- R15: above the ceiling. -/
theorem faultTests_ambient (h : k.ceiling < a) : faultTests k a st = .faultAmbient := if_pos h

/-- R15: below the floor. -/
theorem faultTests_dark (h : a ≤ k.ceiling) (h' : a < k.darkFloor) : faultTests k a st = .faultDark := by
  rw [faultTests, if_neg (Nat.not_lt.2 h), if_pos h']

/-- R15: inside the limits, a channel without a fault stands. -/
theorem faultTests_inside (h : k.darkFloor ≤ a) (h' : a ≤ k.ceiling) (hambient : st ≠ .faultAmbient)
    (hdark : st ≠ .faultDark) : faultTests k a st = st := by
  simp [faultTests, Nat.not_lt.2 h, Nat.not_lt.2 h', hambient, hdark]

/-- R15: a fault that is left. -/
theorem faultTests_left
    (h : st = .faultAmbient ∧ k.darkFloor ≤ a ∧ a + 8 ≤ k.ceiling
      ∨ st = .faultDark ∧ k.darkFloor + 8 ≤ a ∧ a ≤ k.ceiling) : faultTests k a st = .armed := by
  obtain ⟨rfl, hlow, hhigh⟩ | ⟨rfl, hlow, hhigh⟩ := h
  · simp [faultTests, Nat.not_lt.2 hlow, hhigh, show ¬ k.ceiling < a by omega]
  · simp [faultTests, Nat.not_lt.2 hhigh, hlow, show ¬ a < k.darkFloor by omega]

/-- R15: a fault that stands. -/
theorem faultTests_stands
    (h : st = .faultAmbient ∧ (k.ceiling < a ∨ k.darkFloor ≤ a ∧ k.ceiling < a + 8)
      ∨ st = .faultDark ∧ a ≤ k.ceiling ∧ a < k.darkFloor + 8) : faultTests k a st = st := by
  obtain ⟨rfl, hhigh | ⟨hlow, hhigh⟩⟩ | ⟨rfl, hhigh, hlow⟩ := h
  · exact faultTests_ambient hhigh
  · by_cases habove : k.ceiling < a
    · exact faultTests_ambient habove
    · simp [faultTests, habove, Nat.not_lt.2 hlow, Nat.not_le.2 hhigh]
  · by_cases hbelow : a < k.darkFloor
    · exact faultTests_dark hhigh hbelow
    · simp [faultTests, Nat.not_lt.2 hhigh, hbelow, Nat.not_le.2 hlow]

end

/-! ## Glow (R13) -/

/-- R13: a glow deadline that expires. -/
theorem exec_glowDeadlineExpiry {ch : Fin 4} (hdue : due s.time (s.channels.get ch).glowDeadline = true)
    (hst : (s.channels.get ch).state = .pulse ∨ (s.channels.get ch).state = .qualified) :
    exec (.glowDeadlineExpiry ch) s = .next (reportChannels (postChannel ch
      (setChannel ch { s.channels.get ch with state := .glow, glowDeadline := none } s))) := by
  refine congrArg Host.Outcome.next (if_pos ?_)
  obtain h | h := hst <;> simp [glowDue, hdue, h]

end

/-- Settles O26: the seeding sample, the countdown, and the branches of the fault tests. -/
theorem settlingAndFaultTests : Obligations.SettlingAndFaultTests := by
  refine ⟨fun ch x s hst hb => ?_, fun ch x s b n hst hb hsettle hn hlow hhigh => ?_,
    fun ch x s b hst hb hsettle hlow hhigh => ?_, fun ch x s b htracks hb hne hhigh => ?_,
    fun ch x s b htracks hb hne hhigh hlow => ?_, fun ch x s b hb hleft => ?_, fun ch x s b hb hstands => ?_⟩
  · exact exec_sample_nothing (by simp [channelSample, hst, hb])
  · have htests := faultTests_inside (st := (s.channels.get ch).state) hlow hhigh (by simp [hst]) (by simp [hst])
    exact exec_sample_nothing
      ((channelSample_tracks _ _ _ (.inl hst) hb).trans (trackSample_settles hst hsettle hn htests))
  · have htests := faultTests_inside (st := (s.channels.get ch).state) hlow hhigh (by simp [hst]) (by simp [hst])
    refine ⟨_, exec_sample_changed
      ((channelSample_tracks _ _ _ (.inl hst) hb).trans (trackSample_settled hst hsettle htests)), ?_⟩
    obtain ⟨hfirst, -, -, hframe⟩ := channelChange_reports ch { s.channels.get ch with
      state := .armed, baseline := some (updateBaseline (s.cfg.channels.get ch).shift x.toNat b), settle := none
      last := some x.toNat } s
    exact ⟨hfirst, hframe⟩
  · refine ⟨_, exec_sample_changed ((channelSample_tracks _ _ _ htracks hb).trans
      (trackSample_tests (faultTests_ambient hhigh) hne.symm)), ?_⟩
    obtain ⟨hfirst, -, hstands, hframe⟩ := channelChange_reports ch { s.channels.get ch with
      state := .faultAmbient, baseline := some (updateBaseline (s.cfg.channels.get ch).shift x.toNat b), settle := none
      last := some x.toNat } s
    refine ⟨hfirst, fun ho => ?_, hframe⟩
    obtain ⟨-, hcondition, hmember⟩ := hstands ho
    exact ⟨hcondition.trans (any_setChannel rfl), hmember.trans (any_setChannel rfl)⟩
  · refine ⟨_, exec_sample_changed ((channelSample_tracks _ _ _ htracks hb).trans
      (trackSample_tests (faultTests_dark hhigh hlow) hne.symm)), ?_⟩
    obtain ⟨hfirst, -, hstands, hframe⟩ := channelChange_reports ch { s.channels.get ch with
      state := .faultDark, baseline := some (updateBaseline (s.cfg.channels.get ch).shift x.toNat b), settle := none
      last := some x.toNat } s
    refine ⟨hfirst, fun ho => ?_, hframe⟩
    obtain ⟨-, hcondition, hmember⟩ := hstands ho
    exact ⟨hcondition.trans (any_setChannel rfl), hmember.trans (any_setChannel rfl)⟩
  · have htracks : (s.channels.get ch).state.tracks := by
      obtain ⟨h, -⟩ | ⟨h, -⟩ := hleft <;> simp [ChannelState.tracks, h]
    have hne : ChannelState.armed ≠ (s.channels.get ch).state := by
      obtain ⟨h, -⟩ | ⟨h, -⟩ := hleft <;> simp [h]
    refine ⟨_, exec_sample_changed ((channelSample_tracks _ _ _ htracks hb).trans
      (trackSample_tests (faultTests_left hleft) hne)), ?_⟩
    obtain ⟨hfirst, hchannels, hstands, hframe⟩ := channelChange_reports ch { s.channels.get ch with
      state := .armed, baseline := some (updateBaseline (s.cfg.channels.get ch).shift x.toNat b), settle := none
      last := some x.toNat } s
    refine ⟨hfirst, fun ho => ?_, hframe⟩
    obtain ⟨-, hcondition, hmember⟩ := hstands ho
    rw [hcondition, hmember, State.channelFault, State.channelFault, hchannels]
    exact ⟨rfl, rfl⟩
  · have hfault : (s.channels.get ch).state = .faultAmbient ∨ (s.channels.get ch).state = .faultDark :=
      hstands.imp (·.1) (·.1)
    exact exec_sample_nothing ((channelSample_tracks _ _ _ (.inr (.inr hfault)) hb).trans
      (trackSample_stands hfault (faultTests_stands hstands)))

/-- Settles O29: the expiry, and the two sides of re-arm in GLOW. -/
theorem glowBeginsAndEnds : Obligations.GlowBeginsAndEnds := by
  refine ⟨fun ch s hdue hst => ⟨_, exec_glowDeadlineExpiry hdue hst, ?_⟩, fun ch x s b p hst hb hpeak hrearm => ?_,
    fun ch x s b p hst hb hpeak hrearm => ?_⟩
  · obtain ⟨hfirst, -, hstands, hframe⟩ := channelChange_reports ch
      { s.channels.get ch with state := .glow, glowDeadline := none } s
    exact ⟨hfirst, fun ho => (hstands ho).1.trans (any_setChannel rfl), hframe⟩
  · refine ⟨_, exec_sample_changed ((channelSample_glow _ _ _ hst).trans (glowSample_below hb hpeak hrearm)), ?_⟩
    obtain ⟨hfirst, hchannels, hstands, hframe⟩ := channelChange_reports ch { s.channels.get ch with
      state := .armed, run := none, pulseStart := none, glowDeadline := none
      peak := some (max p x.toNat), last := some x.toNat } s
    refine ⟨?_, fun ho => ?_, hframe⟩
    · have hcount : (s.channels.get ch).baselineCount = b / 64 := by rw [Channel.baselineCount, hb, Option.getD_some]
      rw [← hcount]
      exact hfirst
    · rw [(hstands ho).1, State.glowing, hchannels]
      rfl
  · exact exec_sample_nothing ((channelSample_glow _ _ _ hst).trans (glowSample_above hb hpeak hrearm))

end Sys2Proof.Machine
end

section
/-! PROOF. A detection whose DETECT waits with a gap that has passed unjudged (R70, R74): the refutation of O28. -/
namespace Sys2Proof.Machine

/-- A node in operation whose channel 0 lacks one sample of its qualify count of 2. Its DETECT of before waits as head
frame, whose gap of 12 quiet bit times has passed while no GAP_EXPIRY has come yet. The watch list predicts the node's
own detections for valve 0, at once as a flood window where the flow is LOST, and the water is LOW. -/
def unjudgedGap : State :=
  { State.reset with
    startup := { State.reset.startup with state := .operating }
    config := some { ConfigSet.unset with
      channels := ConfigSet.unset.channels.set 0 { ConfigSet.unset.channels.get 0 with qualifyCount := 2 } }
    channels := State.reset.channels.set 0 { Channel.reset with
      state := .pulse, baseline := some 0, run := some 1, peak := some 0 }
    watch := [⟨0, 1, 0, 0, 1, false⟩]
    valves := { Valves.reset with comparator := some .low }
    line := { Line.reset with queue := [.detect 0 1 0 0 0], quiet := 12 } }

/-- The valve opens at once, and with the water LOW the own vote becomes HALT. Its VOTE, handed over before the
detection, has the passed gap judged: the DETECT enters the holding stage, where no detection is coalesced with it, and
a second DETECT joins the queue. -/
theorem line_takeSample_unjudgedGap :
    (takeSample 0 1000 unjudgedGap).line.holding = some (.detect 0 1 0 0 0)
      ∧ (takeSample 0 1000 unjudgedGap).line.queue
        = [.detect 0 1 0 0 1000, .vote unjudgedGap.cfg.homeZone ⟨.halt, .waterLow⟩] :=
  ⟨by rfl, by rfl⟩

/-- Refutes O28: its last clause does not hold of a head frame whose gap has passed unjudged. -/
theorem not_samplesQualifyAndDetect : ¬ Obligations.SamplesQualifyAndDetect := by
  rintro ⟨-, -, -, -, -, hcoalesced⟩
  obtain ⟨t, hexec, hwaits⟩ := hcoalesced 0 1000 unjudgedGap 0 1 0 1 0 0 0 rfl rfl rfl rfl (by decide) rfl rfl (.head _)
  obtain ⟨hholding, hqueue⟩ := line_takeSample_unjudgedGap
  have hsame : takeSample 0 1000 unjudgedGap = t := Host.Outcome.next.inj hexec
  subst hsame
  rw [waits_iff, hholding, hqueue] at hwaits
  simp [unjudgedGap, State.reset] at hwaits

end Sys2Proof.Machine
end

section
/-! PROOF. Windows that begin and end (R48, R49) and peers that fall silent (R40, R88): the settlement of O35
and O46. -/
namespace Sys2Proof.Machine

section
variable {s : State}

/-! ## Windows (R48, R49) -/

/-- R60, R192: the flags of a window's event. -/
theorem windowFlags_eq (w : Window) :
    windowFlags w = (if w.kind = .flood then 1 else 0) + (if w.substituted = true then 2 else 0) := by
  simp [windowFlags, flagFlood, flagSubstituted]

/-- R48: an open expiry that is due. -/
theorem exec_openExpiry {v : Fin 2} {w : Window} {rest : List Window} (ho : s.operating = true)
    (hw : (s.valves.valves.get v).windows = w :: rest) (hbegun : w.begun = false)
    (hdue : before s.time w.openAt = false) : exec (.openExpiry v) s = .next (beginHead v s) := by
  have hopens : openDue v s = true := by simp [openDue, hw, hbegun, due, hdue]
  exact congrArg Host.Outcome.next (if_pos (by simp [ho, hopens]))

/-- R48, R53: the valve whose head window begins and opens it. -/
def openedValve (v : Fin 2) (w : Window) (rest : List Window) (s : State) : Valve :=
  { s.valves.valves.get v with
    windows := { w with begun := true } :: rest, opened := true, openedAt := some s.time
    flowConfirm :=
      if s.level (fsInput v) = true then none
      else some (later s.time (s.cfg.valves.get v).flowConfirm)
    leakDeadline := none }

/-- R48, R60: the head window opens a closed valve. -/
theorem beginHead_opens {v : Fin 2} {w : Window} {rest : List Window}
    (hw : (s.valves.valves.get v).windows = w :: rest) (hclosed : (s.valves.valves.get v).opened = false) :
    beginHead v s = reportValves (post .windowOpen v.val w.origin (sat16 (elapsed w.closeAt s.time)) (windowFlags w)
      (setValve v (openedValve v w rest s) s)) := by
  rw [beginHead, hw]
  exact if_neg (by simp [hclosed])

/-- R48: a head window that finds its valve open is marked begun. -/
theorem beginHead_marks {v : Fin 2} {w : Window} {rest : List Window}
    (hw : (s.valves.valves.get v).windows = w :: rest) (hopen : (s.valves.valves.get v).opened = true) :
    beginHead v s = setValve v { s.valves.valves.get v with windows := { w with begun := true } :: rest } s := by
  rw [beginHead, hw]
  exact if_pos hopen

/-- Of two valves one of which lacks something, some valve has it exactly where the other does. -/
theorem any_set_other {p : Pair Valve} {f : Valve → Bool} {v : Fin 2} {x : Valve} (h : f x = false) :
    (p.set v x).any f = f (p.get (other v)) := by
  fin_cases v <;> simp [Pair.any, Pair.set, Pair.get, other, h]

/-- R49: a close expiry that is due. -/
theorem exec_closeExpiry {v : Fin 2} {w : Window} {rest : List Window}
    (hw : (s.valves.valves.get v).windows = w :: rest) (hbegun : w.begun = true)
    (hdue : before s.time w.closeAt = false) : exec (.closeExpiry v) s = .next (closeHead v s) := by
  have hcloses : closeDue v s = true := by simp [closeDue, hw, hbegun, due, hdue]
  exact congrArg Host.Outcome.next (if_pos hcloses)

/-- R49, R56: the valve whose head window has ended. -/
def closedValve (v : Fin 2) (rest : List Window) (s : State) : Valve :=
  { s.valves.valves.get v with
    windows := rest, opened := false, openedAt := none, flowConfirm := none
    leakDeadline :=
      if s.level (fsInput v) = true ∧ (s.valves.valves.get v).leak = false then
        some (later s.time (s.cfg.valves.get v).flowConfirm)
      else (s.valves.valves.get v).leakDeadline }

/-- R49: how long a valve has been open. -/
def State.ranFor (s : State) (v : Fin 2) : Nat :=
  min (((s.valves.valves.get v).openedAt.map fun o => elapsed s.time o).getD 0) 65535

/-- A valve changed twice stands as changed last. -/
theorem setValve_setValve (v : Fin 2) (x y : Valve) (s : State) : setValve v x (setValve v y s) = setValve v x s := by
  simp only [setValve, Pair.set_set]

/-- R49, R60: the record of a window that has ended, on a valve changed to `x`. -/
def endedWindow (v : Fin 2) (w : Window) (ran : Nat) (x : Valve) (s : State) : State :=
  post .windowClose v.val w.merged ran (windowFlags w + flagNoFlow (s.valves.valves.get v).noFlow) (setValve v x s)

/-- R56: the leak deadline that starts at a closing is part of the valve that closes. -/
theorem endedWindow_leaks (v : Fin 2) (w : Window) (rest : List Window) (ran : Nat) (s : State) :
    let u := endedWindow v w ran
      { s.valves.valves.get v with windows := rest, opened := false, openedAt := none, flowConfirm := none } s
    (if u.level (fsInput v) && !(u.valves.valves.get v).leak then
        setValve v { u.valves.valves.get v with leakDeadline := leakStart v u } u
      else u) = endedWindow v w ran (closedValve v rest s) s := by
  intro u
  have hget : u.valves.valves.get v
      = { s.valves.valves.get v with windows := rest, opened := false, openedAt := none, flowConfirm := none } :=
    Pair.get_set_same s.valves.valves v _
  have hagain (y : Valve) : setValve v y u = endedWindow v w ran y s :=
    congrArg (fun t : State => { t with log := u.log }) (setValve_setValve v y _ s)
  have hlevel : u.level (fsInput v) = s.level (fsInput v) := rfl
  rw [hget, hagain, hlevel]
  by_cases hleaks : s.level (fsInput v) = true ∧ (s.valves.valves.get v).leak = false
  · rw [if_pos (by simp [hleaks]), closedValve, if_pos hleaks]
    rfl
  · rw [if_neg (by simpa using hleaks), closedValve, if_neg hleaks]

/-- R49, R60: the head window closes its valve. -/
theorem closeHead_closes {v : Fin 2} {w : Window} {rest : List Window}
    (hw : (s.valves.valves.get v).windows = w :: rest) :
    closeHead v s = reportValves (endedWindow v w (s.ranFor v) (closedValve v rest s) s) := by
  rw [closeHead, hw]
  dsimp only
  split
  case h_1 hopened =>
    rw [State.ranFor, hopened]
    exact congrArg reportValves (endedWindow_leaks v w rest 0 s)
  case h_2 since hopened =>
    rw [State.ranFor, hopened]
    exact congrArg reportValves (endedWindow_leaks v w rest (sat16 (elapsed s.time since)) s)

/-! ## Silent peers (R40, R88, R89) -/

/-- R88: a silence deadline that expires. -/
theorem exec_silenceDeadlineExpiry {n : Fin 32} (hdue : due s.time s.peers[n].silence = true)
    (hlive : s.peers[n].state = .live) : exec (.silenceDeadlineExpiry n) s = .next (silencePeer n s) := by
  refine congrArg Host.Outcome.next (if_pos ?_)
  rw [hdue, hlive]
  rfl

/-- R40: the watch list once an origin has become silent. -/
theorem map_silent (n : Nat) (l : List WatchEntry) :
    l.map (fun e => if e.origin = n then { e with silent := true } else e)
      = l.map (fun e : WatchEntry => { e with silent := e.silent || decide (e.origin = n) }) := by
  refine List.map_congr_left fun e _ => ?_
  by_cases h : e.origin = n <;> simp [h]

/-- R40: in operation the condition ORIGIN_SILENT stands as the watch list gives it. -/
theorem markOrigin_stands (ho : s.operating = true) (n : Nat) (silent : Bool) :
    (markOrigin n silent s).zones.conditions.originSilent = (markOrigin n silent s).watch.any WatchEntry.silent := by
  let marked := s.watch.map (fun e => if e.origin = n then { e with silent := silent } else e)
  let t := { s with watch := marked }
  have hreport :
      markOrigin n silent s = reportConditions { t.zones.conditions with originSilent := t.originSilent } t := rfl
  have hwatch : (markOrigin n silent s).watch = marked := by
    rw [hreport]
    exact (reportConditions_frame _ t).2.2.2.2.2.2.1
  rw [hwatch, hreport, conditions_reportConditions (by exact ho)]
  rfl

/-- R40: what the mark of an origin reaches. -/
theorem markOrigin_beyondZones (n : Nat) (silent : Bool) (s : State) :
    (markOrigin n silent s).beyondZones
      = { s.beyondZones with
          watch := s.watch.map (fun e => if e.origin = n then { e with silent := silent } else e) } := by
  obtain ⟨hline, hlog⟩ := reportConditions_rest
    { s.zones.conditions with originSilent :=
      (s.watch.map (fun e => if e.origin = n then { e with silent := silent } else e)).any WatchEntry.silent }
    { s with watch := s.watch.map (fun e => if e.origin = n then { e with silent := silent } else e) }
  simp only [State.beyondZones, markOrigin, State.originSilent, hline, hlog, reportConditions_frame]

/-- R89: a changed entry is a cascade at the zone unit. -/
theorem reportPeer_cascade (old new : Peer) (s : State) : Leads .cascade s (reportPeer old new s) :=
  leads_reportPeer .refl

end

/-- Settles O35: the head window that opens its valve, that finds it open, and that closes it. -/
theorem windowsOpenAndCloseTheValve : Obligations.WindowsOpenAndCloseTheValve := by
  refine ⟨fun v s w rest ho hw hbegun hdue hclosed => ⟨_, exec_openExpiry ho hw hbegun hdue, ?_⟩,
    fun v s w rest ho hw hbegun hdue hopen => ?_, fun v s w rest hw hbegun hdue =>
    ⟨_, exec_closeExpiry hw hbegun hdue, ?_⟩⟩
  · rw [beginHead_opens hw hclosed]
    have hfirst := reported_postsFirst .windowOpen v.val w.origin (sat16 (elapsed w.closeAt s.time)) (windowFlags w)
      (setValve v (openedValve v w rest s) s)
    have hframe := reported_eq_withZonesOf .windowOpen v.val w.origin (sat16 (elapsed w.closeAt s.time)) (windowFlags w)
      (setValve v (openedValve v w rest s) s)
    refine ⟨?_, fun hlow => ?_, hframe⟩
    · rw [← windowFlags_eq]
      exact hfirst
    · rw [(reportValves_stands (by exact ho)).1]
      have hopen : (s.valves.valves.set v (openedValve v w rest s)).any Valve.opened = true := any_set_of_get rfl
      exact (if_pos hlow).trans (if_pos hopen)
  · rw [exec_openExpiry ho hw hbegun hdue, beginHead_marks hw hopen]
  · rw [closeHead_closes hw]
    have hfirst := reported_postsFirst .windowClose v.val w.merged (s.ranFor v)
      (windowFlags w + flagNoFlow (s.valves.valves.get v).noFlow) (setValve v (closedValve v rest s) s)
    have hframe := reported_eq_withZonesOf .windowClose v.val w.merged (s.ranFor v)
      (windowFlags w + flagNoFlow (s.valves.valves.get v).noFlow) (setValve v (closedValve v rest s) s)
    refine ⟨?_, fun ho hlow hother => ?_, hframe⟩
    · rw [← windowFlags_eq]
      exact hfirst
    · rw [(reportValves_stands (by exact ho)).1]
      have hclosed : (s.valves.valves.set v (closedValve v rest s)).any Valve.opened = false :=
        (any_set_other rfl).trans hother
      exact (if_pos hlow).trans (if_neg (by exact Bool.eq_false_iff.1 hclosed))

/-- Settles O46: the entry, its event, the watch entries of the origin, and the reports. -/
theorem silentPeersKeepTheirFields : Obligations.SilentPeersKeepTheirFields := by
  intro n s hdue hlive
  let new := { s.peers[n] with state := .silent, silence := none }
  let t := { s with peers := s.peers.set n new }
  let u := markOrigin n.val true (postStation n t)
  have hpost : postStation n t = post .station n.val 2 (s.peers[n].homeZone.getD 0) 0 t := by
    have hget : t.peers[n] = new := Vector.getElem_set_self n.isLt
    rw [postStation, hget]
    rfl
  have hsilence : silencePeer n s = reportPeer s.peers[n] new u := rfl
  have hcascade := reportPeer_cascade s.peers[n] new u
  refine ⟨_, exec_silenceDeadlineExpiry hdue hlive, ?_⟩
  rw [hsilence]
  refine ⟨?_, fun ho => ?_, eq_withZonesOf (hcascade.beyondZones.trans ?_)⟩
  · have hfirst : PostsFirst (t.record .station n.val 2 (s.peers[n].homeZone.getD 0) 0) t
        (reportPeer s.peers[n] new u) :=
      Leads.postsFirst (w := .arrival false) nofun (by rw [← hpost]; exact leads_reportPeer (leads_markOrigin .refl))
    exact hfirst
  · rw [hcascade.keepsReports.1, (reportPeer_frame _ _ u).2.2.2.2.2.2.1]
    exact markOrigin_stands (by rw [hpost]; exact ho) n.val true
  · rw [markOrigin_beyondZones, hpost, post_beyondZones]
    exact congrArg (fun l => { t.beyondZones with watch := l }) (map_silent n.val s.watch)

end Sys2Proof.Machine
end

section
/-! SUPPORT. What holds after a recount of the zone unit (R91 to R103): a principle for readings of the zone unit
itself, the momentary vote, and a zone that stands at FIRE. -/
namespace Sys2Proof.Machine

/-! ## A principle for recounts -/

/-- The state with the momentary, latched and own votes recounted. -/
def votesTaken (s : State) : State := { s with zones := recountVotes s }

/-- The state in which HALTED has just been entered at the end of a shutdown. -/
def haltedNow (s : State) : State := { s with zones := { s.zones with haltedAt := some s.time, aged := false } }

/-- A statement that the parts of a recount keep: what a zone becomes, what is posted, who takes notice, the own VOTE
handed over, and HALTED reported. -/
structure RecountKeeps (P : State → Prop) : Prop where
  zone : ∀ s z old, s.zoneRecord z = some old → P s → P (updateZone z (fun _ => recountRecord s old) s)
  post : ∀ k a b c d s, P s → P (Sys2Proof.Machine.post k a b c d s)
  notify : ∀ z old new s, P s → P (notifyView z old new s)
  vote : ∀ s, P s → P (handVote s.zones.own s)
  halted : ∀ s, P s → P (votesTaken (haltedNow s))

section
variable {P : State → Prop} {s : State}

/-- What the parts of a recount keep holds after the recount of a zone where it holds of the recounted record. -/
theorem RecountKeeps.afterRecord (h : RecountKeeps P) {onHalt : State → State} (hhalt : ∀ t, P t → P (onHalt t))
    {z : Nat} {old : Zone} (hold : s.zoneRecord z = some old)
    (hzone : P (updateZone z (fun _ => recountRecord s old) s)) :
    P (Machine.recountZoneWith onHalt z s) := by
  have hview := h.notify z old.view (recountRecord s old).view _ (h.post .zoneLevel z
    (levelCode (recountRecord s old).view) (levelCode old.view)
    (flagLatchChanged (decide ((recountRecord s old).latched ≠ old.latched))) _ hzone)
  rw [Machine.recountZoneWith, hold]
  dsimp only
  (repeat' split)
  · exact hzone
  · exact hhalt _ hview
  · exact hview

/-- A recount of a zone keeps what its parts keep. -/
theorem RecountKeeps.recountZoneWith (h : RecountKeeps P) {onHalt : State → State} (hhalt : ∀ t, P t → P (onHalt t))
    (z : Nat) (hs : P s) : P (recountZoneWith onHalt z s) := by
  cases hold : s.zoneRecord z with
  | none => rwa [Machine.recountZoneWith, hold]
  | some old => exact h.afterRecord hhalt hold (h.zone s z old hold hs)

/-- A recount of the own vote keeps what its parts keep, once the votes have been taken. -/
theorem RecountKeeps.recountOwnWith (h : RecountKeeps P) {onHalt : State → State} (hhalt : ∀ t, P t → P (onHalt t))
    (hs : P (votesTaken s)) : P (recountOwnWith onHalt s) := by
  unfold Machine.recountOwnWith
  dsimp only
  split
  · exact hs
  · exact h.recountZoneWith hhalt _ (h.post .vote _ _ _ _ _ (h.vote (votesTaken s) hs))

/-- The report of HALTED keeps what the parts of a recount keep. -/
theorem RecountKeeps.reportHalted (h : RecountKeeps P) (hs : P s) : P (reportHalted s) :=
  h.recountOwnWith (fun _ ht => ht) (h.halted s hs)

/-- A recount of the own vote. -/
theorem RecountKeeps.recountOwn (h : RecountKeeps P) (hs : P (votesTaken s)) : P (recountOwn s) :=
  h.recountOwnWith (fun _ ht => h.reportHalted ht) hs

/-- A recount of a zone. -/
theorem RecountKeeps.recountZone (h : RecountKeeps P) (z : Nat) (hs : P s) : P (recountZone z s) :=
  h.recountZoneWith (fun _ ht => h.reportHalted ht) z hs

/-- Two statements that the parts of a recount keep. -/
theorem RecountKeeps.and {Q : State → Prop} (h : RecountKeeps P) (h' : RecountKeeps Q) :
    RecountKeeps (fun s => P s ∧ Q s) where
  zone s z old hold hs := ⟨h.zone s z old hold hs.1, h'.zone s z old hold hs.2⟩
  post k a b c d s hs := ⟨h.post k a b c d s hs.1, h'.post k a b c d s hs.2⟩
  notify z old new s hs := ⟨h.notify z old new s hs.1, h'.notify z old new s hs.2⟩
  vote s hs := ⟨h.vote s hs.1, h'.vote s hs.2⟩
  halted s hs := ⟨h.halted s hs.1, h'.halted s hs.2⟩

/-- R94: what the momentary vote reads. -/
theorem momentaryVote_congr {t : State} (htime : t.time = s.time) (hconfig : t.config = s.config)
    (hinputs : t.inputs = s.inputs) (hconditions : t.zones.conditions = s.zones.conditions)
    (hring : t.zones.ring = s.zones.ring) (hhalted : t.zones.haltedAt = s.zones.haltedAt)
    (haged : t.zones.aged = s.zones.aged) : momentaryVote t = momentaryVote s := by
  have hcfg : t.cfg = s.cfg := by rw [State.cfg, State.cfg, hconfig]
  have hcounts : countsNow t = countsNow s := by
    funext x
    rw [countsNow, countsNow, htime, hcfg]
  have hwindow : windowCount t = windowCount s := by rw [windowCount, windowCount, hcounts, hring]
  have hafter : afterHaltCount t = afterHaltCount s := by
    simp only [afterHaltCount, hhalted, haged, hwindow, hcounts, hring]
  have hflame : t.flame = s.flame := by simp only [State.flame, State.level, hinputs]
  simp only [momentaryVote, voteLines, hcfg, hwindow, hafter, hflame, hconditions]

/-- R94: after every recount the momentary vote is that of the table. -/
theorem recountKeeps_momentary : RecountKeeps (fun s => s.zones.momentary = momentaryVote s) where
  zone s z old _ hs := hs.trans (momentaryVote_congr rfl rfl rfl rfl rfl rfl rfl).symm
  post k a b c d s hs := hs.trans (momentaryVote_congr rfl rfl rfl rfl rfl rfl rfl).symm
  notify z old new s hs := by
    obtain ⟨htime, -, hconfig, hinputs, -, -, -, -, -, -, hzones, -⟩ := notifyView_frame z old new s
    rw [momentaryVote_congr htime hconfig hinputs (by rw [hzones]) (by rw [hzones]) (by rw [hzones]) (by rw [hzones]),
      hzones]
    exact hs
  vote s hs := hs.trans (momentaryVote_congr rfl rfl rfl rfl rfl rfl rfl).symm
  halted s _ := (momentaryVote_congr rfl rfl rfl rfl rfl rfl rfl).symm

/-- R91: no recount changes the ring or its deadline. -/
theorem recountKeeps_ring (ring : List Instant) (d : Option Instant) :
    RecountKeeps (fun s => s.zones.ring = ring ∧ s.zones.ringDeadline = d) where
  zone _ _ _ _ hs := hs
  post _ _ _ _ _ _ hs := hs
  notify z old new s hs := by
    obtain ⟨-, -, -, -, -, -, -, -, -, -, hzones, -⟩ := notifyView_frame z old new s
    rwa [hzones]
  vote _ hs := hs
  halted _ hs := hs

/-! ## Records of the zone table -/

/-- R98: a recounted record is one of the same zone. -/
theorem zone_recountRecord (s : State) (r : Zone) : (recountRecord s r).zone = r.zone := by
  unfold recountRecord advanceConfirm
  dsimp only
  (repeat' split) <;> rfl

/-- The record that the zone table gives for a zone is one of that zone. -/
theorem zone_of_zoneRecord {z : Nat} {r : Zone} (h : s.zoneRecord z = some r) : r.zone = z := by
  simpa using List.find?_some h

/-- A zone record that is changed, read of its own zone and of another. -/
theorem zoneRecord_updateZone {z y : Nat} {f : Zone → Zone} (hf : ∀ r, r.zone = z → (f r).zone = z) (s : State) :
    (updateZone z f s).zoneRecord y = if y = z then (s.zoneRecord y).map f else s.zoneRecord y := by
  have hzone : ∀ r : Zone, (if r.zone = z then f r else r).zone = r.zone := by
    intro r
    split
    case isTrue h => rw [hf r h, h]
    case isFalse => rfl
  have hfind : (updateZone z f s).zoneRecord y
      = (s.zoneRecord y).map (fun r => if r.zone = z then f r else r) := by
    simp only [updateZone, State.zoneRecord, List.find?_map, Function.comp_def, hzone]
  rw [hfind]
  cases hrecord : s.zoneRecord y with
  | none => simp
  | some r =>
    have hr := zone_of_zoneRecord hrecord
    split
    case isTrue hy => simp [hr, hy]
    case isFalse hy => simp [hr, hy]

/-- A recounted record, read of its own zone and of another. -/
theorem zoneRecord_recounted {z y : Nat} {old : Zone} (h : s.zoneRecord z = some old) :
    (updateZone z (fun _ => recountRecord s old) s).zoneRecord y
      = if y = z then some (recountRecord s old) else s.zoneRecord y := by
  rw [zoneRecord_updateZone (fun r _ => (zone_recountRecord s old).trans (zone_of_zoneRecord h))]
  split
  case isTrue hy => rw [hy, h]; rfl
  case isFalse => rfl

/-- The view and the latched level of a recounted record. -/
theorem recountRecord_levels (s : State) (r : Zone) :
    let level := zoneVoteLevel s r (votesAt s r.zone .watch) (votesAt s r.zone .halt) (votesAt s r.zone .fire)
      (effectiveQuorum s (membersOf s r.zone))
    (recountRecord s r).voteLevel = level ∧ (recountRecord s r).view = Level.max level r.latched
      ∧ (recountRecord s r).latched
        = if Level.le .halt (Level.max level r.latched) && Level.lt r.latched (Level.max level r.latched) then
            Level.max level r.latched
          else r.latched := by
  unfold recountRecord advanceConfirm
  dsimp only
  (repeat' split) <;> exact ⟨rfl, rfl, rfl⟩

/-! ## A zone that stands at FIRE -/

/-- R102: a zone's view and latched level stand at FIRE. -/
def StandsAtFire (z : Nat) (s : State) : Prop :=
  ∃ r, s.zoneRecord z = some r ∧ r.view = .fire ∧ r.latched = .fire

/-- R102: a record whose vote level is FIRE stands at FIRE once recounted. -/
theorem recountRecord_fire {r : Zone}
    (h : zoneVoteLevel s r (votesAt s r.zone .watch) (votesAt s r.zone .halt) (votesAt s r.zone .fire)
      (effectiveQuorum s (membersOf s r.zone)) = .fire ∨ r.latched = .fire) :
    (recountRecord s r).view = .fire ∧ (recountRecord s r).latched = .fire := by
  obtain ⟨-, hview, hlatched⟩ := recountRecord_levels s r
  rw [hview, hlatched]
  obtain h | h := h
  · rw [h]
    cases r.latched <;> decide
  · rw [h]
    cases zoneVoteLevel s r (votesAt s r.zone .watch) (votesAt s r.zone .halt) (votesAt s r.zone .fire)
      (effectiveQuorum s (membersOf s r.zone)) <;> decide

/-- R102: no recount takes a zone from FIRE. -/
theorem recountKeeps_standsAtFire (z : Nat) : RecountKeeps (StandsAtFire z) where
  zone s y old hold hs := by
    obtain ⟨r, hr, hview, hlatched⟩ := hs
    rw [StandsAtFire, zoneRecord_recounted hold]
    split
    case isTrue hy =>
      subst hy
      obtain rfl : r = old := Option.some.inj (hr.symm.trans hold)
      exact ⟨_, rfl, recountRecord_fire (.inr hlatched)⟩
    case isFalse => exact ⟨r, hr, hview, hlatched⟩
  post _ _ _ _ _ _ hs := hs
  notify y old new s hs := by
    obtain ⟨-, -, -, -, -, -, -, -, -, -, hzones, -⟩ := notifyView_frame y old new s
    rwa [StandsAtFire, State.zoneRecord, hzones]
  vote _ hs := hs
  halted _ hs := hs

end

end Sys2Proof.Machine
end

section
/-! PROOF. The expiries of the zone unit (R91, R92, R101): the settlement of O48. -/
namespace Sys2Proof.Machine

section
variable {s : State}

/-- R91: a ring deadline that expires. -/
theorem exec_ringDeadlineExpiry (ho : s.operating = true) (hdue : due s.time s.zones.ringDeadline = true) :
    exec .ringDeadlineExpiry s = .next (expireRing s) :=
  congrArg Host.Outcome.next (if_pos (by rw [ho, hdue]; rfl))

/-- R91: the ring once its deadline has expired, and the next deadline. -/
theorem expireRing_stands (s : State) :
    (expireRing s).zones.ring
        = s.zones.ring.filter (fun r => before s.time (later r (max (s.cfg.window * 1000) (s.cfg.clearTime * 1000))))
      ∧ (expireRing s).zones.ringDeadline = nextRingDeadline (expireRing s)
      ∧ (expireRing s).zones.momentary = momentaryVote (expireRing s) := by
  let t := setRingDeadline (dropOldEntries s)
  obtain ⟨hring, hdeadline⟩ := (recountKeeps_ring t.zones.ring (nextRingDeadline t)).recountOwn (s := t) ⟨rfl, rfl⟩
  have hmomentary := recountKeeps_momentary.recountOwn (s := t)
    (momentaryVote_congr (s := t) (t := votesTaken t) rfl rfl rfl rfl rfl rfl rfl).symm
  obtain ⟨htime, -, hconfig, -⟩ := recountOwn_frame t
  refine ⟨hring, hdeadline.trans ?_, hmomentary⟩
  have hcfg : (recountOwn t).cfg = t.cfg := by rw [State.cfg, State.cfg, hconfig]
  have hcounts : countsNow (recountOwn t) = countsNow t := by
    funext x
    rw [countsNow, countsNow, htime, hcfg]
  have hnext : nextRingDeadline (recountOwn t) = nextRingDeadline t := by
    rw [nextRingDeadline, nextRingDeadline, hring, hcounts, hcfg]
  exact hnext.symm

/-- R92: halted_at plus W has passed. -/
theorem exec_haltedAtAged {h : Instant} (hhalted : s.zones.haltedAt = some h) (haged : s.zones.aged = false)
    (hdue : before s.time (later h (s.cfg.window * 1000)) = false) :
    exec .haltedAtAged s = .next { s with zones := { s.zones with aged := true } } := by
  have hages : agingDue s = true := by simp [agingDue, hhalted, haged, due, hdue]
  exact congrArg Host.Outcome.next (if_pos hages)

/-- R101: a fire-pending deadline that expires. -/
theorem exec_firePendingExpiry {z : Nat} {r : Zone} (ho : s.operating = true) (hr : s.zoneRecord z = some r)
    (hdue : due s.time r.fireDeadline = true) : exec (.firePendingExpiry z) s = .next (expireFirePending z s) := by
  have hdeadline : s.fireDeadline z = r.fireDeadline := by rw [State.fireDeadline, hr]
  exact congrArg Host.Outcome.next (if_pos (by rw [ho, hdeadline, hdue]; rfl))

/-- R101: a zone with a FIRE vote that has been confirmed stands at FIRE. -/
theorem expireFirePending_fires {z : Nat} {r : Zone} (hr : s.zoneRecord z = some r) (hfire : 1 ≤ votesAt s z .fire) :
    StandsAtFire z (expireFirePending z s) := by
  let confirmed (r : Zone) : Zone := { r with fireDeadline := none, confirmed := true }
  let t := updateZone z confirmed s
  have hz := zone_of_zoneRecord hr
  have hrecord : t.zoneRecord z = some (confirmed r) := by
    rw [zoneRecord_updateZone (f := confirmed) (fun _ h => h), if_pos rfl, hr]
    rfl
  have hlevel :
      zoneVoteLevel t (confirmed r) (votesAt t r.zone .watch) (votesAt t r.zone .halt) (votesAt t r.zone .fire)
      (effectiveQuorum t (membersOf t r.zone)) = .fire := by
    rw [hz]
    exact if_pos (.inr (.inl ⟨hfire, rfl⟩))
  refine (recountKeeps_standsAtFire z).afterRecord
    (fun _ hu => (recountKeeps_standsAtFire z).reportHalted hu) hrecord ?_
  rw [StandsAtFire, zoneRecord_recounted hrecord, if_pos rfl]
  exact ⟨_, rfl, recountRecord_fire (.inl hlevel)⟩

end

/-- Settles O48: the three expiries, each with the recount that it brings. -/
theorem zoneUnitDeadlinesExpire : Obligations.ZoneUnitDeadlinesExpire := by
  refine ⟨fun s ho hdue => ⟨_, exec_ringDeadlineExpiry ho hdue, ?_⟩, fun s h hhalted haged hdue =>
    exec_haltedAtAged hhalted haged hdue, fun z s r ho hr hdue hfire => ⟨_, exec_firePendingExpiry ho hr hdue, ?_⟩⟩
  · obtain ⟨hring, hdeadline, hmomentary⟩ := expireRing_stands s
    have hcascade : Leads .cascade (setRingDeadline (dropOldEntries s)) (expireRing s) :=
      leads_recountOwn .refl (operating_iff.1 ho)
    exact ⟨hring, hdeadline, hmomentary, eq_withZonesOf hcascade.beyondZones⟩
  · obtain ⟨u, hu, hview, hlatched⟩ := expireFirePending_fires hr hfire
    have hcascade : Leads .cascade (updateZone z (fun r => { r with fireDeadline := none, confirmed := true }) s)
        (expireFirePending z s) := leads_recountZone .refl (by exact operating_iff.1 ho)
    rw [hu]
    exact ⟨congrArg some hview, congrArg some hlatched, eq_withZonesOf hcascade.beyondZones⟩

end Sys2Proof.Machine
end

section
/-! PROOF. Errors on the line (R66, R67, R81): the settlement of O39. -/
namespace Sys2Proof.Machine

section
variable {s t u : State}

/-! ## What an error counts (R81) -/

/-- R81: the error window with one more instant. -/
theorem joinErrors_eq (now : Instant) (w : List Instant) :
    joinErrors now w = (if w.length < 8 then w else w.drop 1) ++ [now] := by
  unfold joinErrors
  split <;> rfl

/-- R81: whether eight errors lie within 10,000 ms. -/
theorem errorsTooMany_eq (now : Instant) (w : List Instant) :
    errorsTooMany now w = (decide (w.length = 8) && decide (elapsed now (w.headD 0) < 10000)) := by
  cases w <;> rfl

/-- R81: the line interface once an error has been counted and DEGRADED judged. -/
def errorCounted (now : Instant) (l : Line) : Line :=
  { countError now l with degraded := l.degraded || errorsTooMany now (joinErrors now l.errors) }

/-- R67, R81: what an error changes beside what a report of DEGRADED reaches. -/
theorem lineError_beyondZones (s : State) :
    (lineError s).beyondZones = ({ s with line := errorCounted s.time s.line }).beyondZones := by
  have hline := lineRest_lineError s
  let t := { s with line := countError s.time s.line }
  by_cases hdegrades : (!t.line.degraded && errorsTooMany t.time t.line.errors) = true
  · let u := { t with line := { t.line with degraded := true } }
    have heq : lineError s = reportDegraded true (postLine 4 t.line.errors.length u) := if_pos hdegrades
    have hcounted : errorCounted s.time s.line = u.line := by
      have htrue : (s.line.degraded || errorsTooMany s.time (joinErrors s.time s.line.errors)) = true :=
        Bool.or_eq_true_iff.2 (.inr (Bool.and_eq_true_iff.1 hdegrades).2)
      rw [errorCounted, htrue]
    rw [heq, reportDegraded_beyondZones, postLine, post_beyondZones, hcounted]
  · have heq : lineError s = t := if_neg hdegrades
    have hcounted : errorCounted s.time s.line = t.line := by
      have hsame : (s.line.degraded || errorsTooMany s.time (joinErrors s.time s.line.errors)) = s.line.degraded := by
        have hnot : (!s.line.degraded && errorsTooMany s.time (joinErrors s.time s.line.errors)) = false :=
          Bool.eq_false_iff.2 hdegrades
        revert hnot
        cases s.line.degraded <;> simp
      rw [errorCounted, hsame]
      rfl
    rw [heq, hcounted]

/-- What `beyondZones` leaves of the line interface. -/
theorem lineRest_of_beyondZones (h : t.beyondZones = s.beyondZones) : t.line.rest = s.line.rest := by
  simp only [State.beyondZones, State.mk.injEq] at h
  obtain ⟨-, -, -, -, -, -, -, -, hline, -⟩ := h
  exact hline

/-- R67, R81: an error counted on the line `l` of a state, in the terms of the state after. -/
theorem counted_effect {l : Line} (h : t.beyondZones = ({ s with line := errorCounted s.time l }).beyondZones) :
    t.line.errors = (if l.errors.length < 8 then l.errors else l.errors.drop 1) ++ [s.time]
      ∧ t.line.degraded = (l.degraded
          || (decide (t.line.errors.length = 8) && decide (elapsed s.time (t.line.errors.headD 0) < 10000)))
      ∧ t = ({ s with line := { l with
          errorTally := min (l.errorTally + 1) 65535, errors := t.line.errors
          degradedDeadline := some (later s.time 10000), degraded := t.line.degraded } }).withZonesOf t := by
  have hrest := lineRest_of_beyondZones h
  simp only [Line.rest, errorCounted, countError, Line.mk.injEq] at hrest
  obtain ⟨-, hdegraded, -, -, -, -, -, -, -, -, herrors, -⟩ := hrest
  refine ⟨herrors.trans (joinErrors_eq s.time l.errors), ?_, eq_withZonesOf (h.trans ?_)⟩
  · rw [herrors, ← errorsTooMany_eq]
    exact hdegraded
  · rw [herrors, hdegraded]
    rfl

/-! ## The arrivals that carry an error (R66, R67) -/

/-- R67: FRAME_ERROR. -/
theorem exec_frameError (hover : s.handedOver = true) : exec .frameError s = .next (takeBadFrame s.settled) :=
  congrArg Host.Outcome.next (if_pos hover)

/-- R66: BYTE_ERROR. -/
theorem exec_byteError (hover : s.handedOver = true) : exec .byteError s = .next (takeByteError s.settled) :=
  congrArg Host.Outcome.next (if_pos hover)

/-- R66: a byte that is dropped is counted no error. -/
theorem takeByteError_dropped (h : s.line.drops = true) :
    takeByteError s = { s with line := byteOver s.line.rests s.line } := by
  have hhunting : s.line.receiver = .hunting := of_decide_eq_true (Bool.and_eq_true_iff.1 h).1
  have hline : endReception s.line = byteOver s.line.rests s.line := by
    unfold endReception byteOver
    rw [← hhunting]
  rw [takeByteError, if_pos h, hline]

/-- A byte that is dropped comes while the quiet count does not run. -/
theorem settled_of_drops (h : s.line.drops = true) : s.settled = s := by
  refine settled_eq_self fun hmark => ?_
  simp [Line.drops, hmark] at h

/-- R66: the end of a partial frame, and the judgement of the head frame's gap. -/
theorem exec_frameBrokenOff (hover : s.handedOver = true) (hreceiver : s.line.receiver ≠ .hunting)
    (hactivity : s.line.activity = .mark ∨ s.line.activity = .busy) :
    exec .frameBrokenOff s
      = .next { breakOff s with line := judgeGap (breakOff s).station (breakOff s).line } := by
  refine congrArg Host.Outcome.next ((if_pos hover).trans ((afterByte_still hactivity _).trans ?_))
  dsimp only
  rw [breakOffAt_taking le_rfl hreceiver]

/-- R69: DUPLICATE_STATION_FRAME. -/
theorem exec_duplicateStationFrame {kind : FrameKind} (hover : s.handedOver = true) :
    exec (.duplicateStationFrame kind) s = .next (takeDuplicate kind s.settled) :=
  congrArg Host.Outcome.next (if_pos hover)

/-- R66: the line on which a partial frame has been broken off. -/
def brokenOffLine (l : Line) : Line :=
  { l with
    quiet := max 12 l.quiet, quietPart := if l.quiet < 12 then 0 else l.quietPart
    activity := .mark, receiver := .hunting
    stuckWatch := if 142 ≤ max 12 l.quiet then none else l.stuckWatch }

/-- R66: a partial frame broken off is an error counted on that line. -/
theorem breakOff_beyondZones (s : State) :
    (breakOff s).beyondZones = ({ s with line := errorCounted s.time (brokenOffLine s.line) }).beyondZones := by
  have hline : brokenOffLine s.line = { setQuiet (max 12 s.line.quiet) s.line with receiver := .hunting } := by
    simp only [brokenOffLine, setQuiet, watchAt, lt_max_iff, lt_self_iff_false, or_false]
  rw [hline]
  exact lineError_beyondZones _

/-- R74: a judgement of the head frame's gap changes no more than a cascade reaches. -/
theorem judgeGap_beyondZones (s : State) :
    ({ s with line := judgeGap s.station s.line } : State).beyondZones = s.beyondZones :=
  congrArg (fun l => { s.beyondZones with line := l }) (congrArg Line.rest (judgeGap_frame s.station s.line))

/-- R66: from 12 on the quiet count has broken a partial frame off. -/
theorem settled_breaks (hover : s.handedOver = true) (hmark : s.line.activity = .mark)
    (hreceiver : s.line.receiver ≠ .hunting) (hlow : 12 ≤ s.line.quiet)
    (hstuck : s.line.quiet < 142 ∨ s.line.state ≠ .stuck) : s.settled = breakOff s := by
  have hcounts : (s.handedOver && s.line.counting) = true := by simp [hover, Line.counting, hmark]
  obtain ⟨hreach, -⟩ | ⟨-, hhigh, hsame⟩ := reachQuiet_cases s.line.quiet s
  · rw [State.settled, if_pos hcounts, hreach, breakOffAt_taking hlow hreceiver]
  · exact absurd hsame (hstuck.resolve_left (by omega))

/-- R66: what comes with a frame acts on the node that the quiet count has left. -/
theorem exec_settled {c : Instr} (hc : frameArrival c = true) (hover : s.handedOver = true) :
    exec c s = exec c s.settled := by
  have hself : s.settled.settled = s.settled := settled_eq_self (settled_quietSettled hover)
  have hover' : s.settled.handedOver = true := by simpa [State.handedOver] using hover
  cases c with
  | frameError => rw [exec_frameError hover, exec_frameError hover', hself]
  | byteError => rw [exec_byteError hover, exec_byteError hover', hself]
  | duplicateStationFrame kind => rw [exec_duplicateStationFrame hover, exec_duplicateStationFrame hover', hself]
  | detectReceived source channel count age span peak =>
    exact congrArg (fun r => Host.Outcome.next (takeDetect source channel count age span r)) hself.symm
  | voteReceived source zone level reason =>
    exact congrArg (fun r => Host.Outcome.next (takeVote source zone level reason r)) hself.symm
  | presenceReceived source zone level reason extraction velocity status =>
    exact congrArg (fun r => Host.Outcome.next (takePresence source zone level reason extraction velocity status r))
      hself.symm
  | restartReceived source zone =>
    exact congrArg (fun r => Host.Outcome.next (takeRestartFrame source zone r)) hself.symm
  | _ => exact absurd hc Bool.false_ne_true

end

/-- Settles O39: the error that is counted, on the line as the arrival leaves it. -/
theorem lineErrorsAreCounted : Obligations.LineErrorsAreCounted := by
  refine ⟨fun s hover hquiet => ⟨_, exec_frameError hover, ?_⟩, fun s hover hdrops => ?_, fun s hover hdrops hquiet =>
    ⟨_, exec_byteError hover, ?_⟩, fun s hover hreceiver hactivity =>
    ⟨_, exec_frameBrokenOff hover hreceiver hactivity, ?_⟩,
    fun c s hc hover hmark hreceiver hlow hstuck => ⟨s.settled, exec_settled hc hover, settled_quietSettled hover, ?_⟩⟩
  · rw [settled_eq_self hquiet]
    exact counted_effect (l := endReception s.line) (lineError_beyondZones _)
  · rw [exec_byteError hover, settled_of_drops hdrops, takeByteError_dropped hdrops]
    rfl
  · rw [settled_eq_self hquiet, takeByteError, if_neg (by simp [hdrops])]
    exact counted_effect (l := endReception s.line) (lineError_beyondZones _)
  · exact counted_effect ((judgeGap_beyondZones (breakOff s)).trans (breakOff_beyondZones s))
  · have hbroken := breakOff_beyondZones s
    rw [brokenOffLine, Nat.max_eq_right hlow, if_neg (Nat.not_lt.2 hlow), ← hmark] at hbroken
    rw [settled_breaks hover hmark hreceiver hlow hstuck]
    exact counted_effect hbroken

end Sys2Proof.Machine
end

section
/-! PROOF. Frames that defer and collide (R65, R74, R75, R77, R78): the settlement of O42. -/
namespace Sys2Proof.Machine

/-! ## A frame that returns to the queue (R78) -/

section
variable {f g : OutFrame} {q : List OutFrame}

/-- R70: a queue in the order of the classes. -/
abbrev InClassOrder (q : List OutFrame) : Prop := q.Pairwise (fun g h => g.cls ≤ h.cls)

/-- R78: in a queue in class order a frame returns before the frames of its class. -/
theorem insertAtHead_inClassOrder (h : InClassOrder q) (f : OutFrame) :
    insertAtHead f q = q.filter (fun g => decide (g.cls < f.cls)) ++ f :: q.filter
      (fun g => decide (f.cls ≤ g.cls)) := by
  induction q with
  | nil => rfl
  | cons g q ih =>
    obtain ⟨hfirst, hrest⟩ := List.pairwise_cons.1 h
    unfold insertAtHead
    split
    case isTrue hlt =>
      rw [ih hrest, List.filter_cons_of_pos (by simpa using hlt), List.filter_cons_of_neg (by simpa using hlt)]
      rfl
    case isFalse hge =>
      have hall : ∀ x ∈ g :: q, f.cls ≤ x.cls := fun x hx => by
        obtain rfl | hx := List.mem_cons.1 hx
        · exact Nat.le_of_not_lt hge
        · exact (Nat.le_of_not_lt hge).trans (hfirst x hx)
      have hnone : (g :: q).filter (fun x => decide (x.cls < f.cls)) = [] :=
        List.filter_eq_nil_iff.2 fun x hx => by simpa using hall x hx
      have hself : (g :: q).filter (fun x => decide (f.cls ≤ x.cls)) = g :: q :=
        List.filter_eq_self.2 fun x hx => by simpa using hall x hx
      rw [hnone, hself]
      rfl

/-- Frames of one slot are of one class. -/
theorem cls_of_sameSlot (h : f.sameSlot g = true) : f.cls = g.cls := by
  cases f <;> cases g <;> simp_all [OutFrame.sameSlot, OutFrame.cls]

/-- R78: the merged frame is of the class of the returning one. -/
theorem cls_mergeFrames (h : f.sameSlot g = true) : (mergeFrames f g).cls = f.cls := by
  cases f <;> cases g <;> simp_all [OutFrame.sameSlot, OutFrame.cls, mergeFrames]

/-- R78: the merged frame, from the queued one's side. -/
theorem mergedWith_eq (f g : OutFrame) : OutFrame.mergedWith g f = mergeFrames f g := by
  cases f <;> cases g <;> rfl

/-- R78: a frame returns to a queue in class order as its slot's frame there, or before the frames of its class. -/
theorem returnFrame_inClassOrder (h : InClassOrder q) (f : OutFrame) : returnFrame f q = stageReturned (some f) q := by
  unfold returnFrame stageReturned
  dsimp only
  split
  case h_1 hnone =>
    have hother : ∀ g ∈ q, f.sameSlot g = false := fun g hg => by simpa using List.find?_eq_none.1 hnone g hg
    have hfilter :
        q.filter (fun g => decide (f.cls ≤ g.cls) && !f.sameSlot g) = q.filter (fun g => decide (f.cls ≤ g.cls)) :=
      List.filter_congr fun g hg => by rw [hother g hg, Bool.not_false, Bool.and_true]
    rw [insertAtHead_inClassOrder h, hnone, hfilter]
    rfl
  case h_2 g hsome =>
    have hsame : f.sameSlot g = true := List.find?_some hsome
    have hlower : (q.filter (fun h => !f.sameSlot h)).filter (fun h => decide (h.cls < f.cls))
        = q.filter (fun h => decide (h.cls < f.cls)) := by
      rw [List.filter_filter]
      refine List.filter_congr fun x _ => ?_
      cases hx : f.sameSlot x with
      | false => rw [Bool.not_false, Bool.and_true]
      | true => simp [cls_of_sameSlot hx]
    rw [insertAtHead_inClassOrder (h.sublist List.filter_sublist), cls_mergeFrames hsame, hlower, List.filter_filter,
      hsome,
      Option.map_some, Option.getD_some, mergedWith_eq]

/-- R78: a frame whose slot is free in a queue in class order. -/
theorem returnFrame_free (h : InClassOrder q) (hfree : q.all (fun g => !f.sameSlot g) = true) :
    returnFrame f q = q.filter (fun g => decide (g.cls < f.cls)) ++ f :: q.filter
      (fun g => decide (f.cls ≤ g.cls)) := by
  have hnone : q.find? (fun g => f.sameSlot g) = none :=
    List.find?_eq_none.2 fun g hg => by simpa using List.all_eq_true.1 hfree g hg
  rw [returnFrame, hnone]
  exact insertAtHead_inClassOrder h f

/-- R78: a frame that returns to a queue of its slot's frame alone. -/
theorem returnFrame_single (h : f.sameSlot g = true) : returnFrame f [g] = [mergeFrames f g] := by
  simp [returnFrame, h, insertAtHead]

/-- R78: a VOTE, RESTART or PRESENCE becomes the queued one. -/
theorem mergeFrames_other (h : f.sameSlot g = true) (hkind : g.kind ≠ .detect) : mergeFrames f g = g := by
  cases f <;> cases g <;> simp_all [OutFrame.sameSlot, OutFrame.kind, mergeFrames]

end

section
variable {s : State} {b : StartBit}

/-! ## A start bit of another station (R65, R66, R75) -/

/-- R65: a start bit with no byte on the line before it. -/
theorem exec_foreignStartBit (hover : s.handedOver = true)
    (hactivity : s.line.activity = .mark ∨ s.line.activity = .busy) :
    exec (.foreignStartBit b) s = .next (takeStartBit b s) :=
  congrArg Host.Outcome.next ((if_pos hover).trans (afterByte_still hactivity _))

/-- R66, R80: without a partial frame to break off, a quiet count leaves queue, stages and receiver. -/
theorem reachQuiet_stages {quiet : Nat} (h : s.line.receiver = .hunting ∨ quiet < 12) :
    (reachQuiet quiet s).line.queue = s.line.queue ∧ (reachQuiet quiet s).line.holding = s.line.holding
      ∧ (reachQuiet quiet s).line.receiver = s.line.receiver := by
  obtain ⟨e, -⟩ | ⟨e, -, -⟩ := reachQuiet_cases quiet s
  · rw [e, breakOffAt_hunting h.symm]
    exact ⟨rfl, rfl, rfl⟩
  · rw [e, breakOffAt_hunting h.symm, line_leaveStuck]
    exact ⟨rfl, rfl, rfl⟩

/-- R75: a held frame returns at a start bit that breaks nothing off. -/
theorem takeStartBit_defers {f : OutFrame} (hholding : s.line.holding = some f) (hrunning : s.startup.state ≠ .failed)
    (hquiet : s.line.receiver = .hunting ∨ s.line.countAt b.quiet < 12) :
    (takeStartBit b s).line.holding = none ∧ (takeStartBit b s).line.queue = returnFrame f s.line.queue := by
  obtain ⟨hqueue, hheld, -⟩ := reachQuiet_stages hquiet
  refine ⟨rfl, ?_⟩
  have hstartup : (reachQuiet (s.line.countAt b.quiet) s).startup.state ≠ .failed := by simpa using hrunning
  change (reachQuiet (s.line.countAt b.quiet) s).takeBack (reachQuiet (s.line.countAt b.quiet) s).line.holding
    (reachQuiet (s.line.countAt b.quiet) s).line.queue = _
  rw [hqueue, hheld, hholding, takeBack_some hstartup]

/-- R65, R66: a start bit that neither breaks a frame off nor ends STUCK. -/
theorem takeStartBit_quiet (hquiet : s.line.receiver = .hunting ∨ s.line.countAt b.quiet < 12)
    (hstuck : s.line.state ≠ .stuck ∨ s.line.countAt b.quiet < 142) :
    takeStartBit b s = { s with line :=
      { seeStartBit s.time s.rate (s.line.countAt b.quiet) (.byte b.data b.stop) s.line with
        receiver := receiveStart s.time (s.line.countAt b.quiet) s.line.receiver
        holding := none
        queue := s.takeBack s.line.holding s.line.queue } } := by
  have hself := reachQuiet_eq_self (quiet := s.line.countAt b.quiet) (s := s) hquiet.symm hstuck.symm
  unfold takeStartBit
  dsimp only
  rw [hself]

/-- R65: the quiet count of a start bit is no less than the one given. -/
theorem le_countAt (l : Line) (quiet : Nat) : quiet ≤ l.countAt quiet := by
  unfold Line.countAt
  split
  · exact Nat.le_max_left _ _
  · exact le_rfl

/-- R66: what a start bit makes of the receiver. -/
theorem receiveStart_cases (now : Instant) (quiet : Nat) (r : Receiver) :
    (r = .hunting → 12 ≤ quiet → receiveStart now quiet r = .taking now [])
      ∧ (r = .hunting → quiet < 12 → receiveStart now quiet r = .hunting)
      ∧ (r ≠ .hunting → receiveStart now quiet r = r) := by
  refine ⟨?_, ?_, ?_⟩
  · rintro rfl h
    exact if_pos h
  · rintro rfl h
    exact if_neg (Nat.not_le.2 h)
  · intro h
    cases r with
    | hunting => exact absurd rfl h
    | taking t bytes => rfl

/-- R66: a start bit that breaks a partial frame off begins a frame. -/
theorem takeStartBit_breaks (hreceiver : s.line.receiver ≠ .hunting) (hquiet : 12 ≤ b.quiet) :
    (takeStartBit b s).line.receiver = .taking s.time []
      ∧ (takeStartBit b s).line.errorTally = min (s.line.errorTally + 1) 65535 := by
  have hcount : 12 ≤ s.line.countAt b.quiet := hquiet.trans (le_countAt _ _)
  have htally : (reachQuiet (s.line.countAt b.quiet) s).line.errorTally = min (s.line.errorTally + 1) 65535 := by
    have hbroken : (breakOff s).line.errorTally = min (s.line.errorTally + 1) 65535 := by
      have hrest := lineRest_of_beyondZones (breakOff_beyondZones s)
      exact congrArg Line.errorTally hrest
    obtain ⟨e, -⟩ | ⟨e, -, -⟩ := reachQuiet_cases (s.line.countAt b.quiet) s
    · rw [e, breakOffAt_taking hcount hreceiver, hbroken]
    · rw [e, line_leaveStuck, breakOffAt_taking hcount hreceiver]
      exact hbroken
  refine ⟨?_, htally⟩
  have htime : (reachQuiet (s.line.countAt b.quiet) s).time = s.time := by simp
  have hstart := (receiveStart_cases s.time (s.line.countAt b.quiet) .hunting).1 rfl hcount
  change receiveStart (reachQuiet (s.line.countAt b.quiet) s).time (s.line.countAt b.quiet)
    (reachQuiet (s.line.countAt b.quiet) s).line.receiver = _
  rw [htime, reachQuiet_hunting s hcount, hstart]

/-! ## A failed start-up (R85) -/

/-- R85: before OPERATING a report of DEGRADED reports nothing. -/
theorem reportDegraded_off (h : s.operating = false) (c : Bool) : reportDegraded c s = s := by
  simp [reportDegraded, reportConditions_off h, reportFault_off h, h]

/-- R85: before OPERATING an error leaves the queue. -/
theorem queue_lineError_off (h : s.operating = false) : (lineError s).line.queue = s.line.queue := by
  unfold lineError
  dsimp only
  split
  · rw [reportDegraded_off (by exact h)]
    rfl
  · rfl

/-- R85: before OPERATING a quiet count leaves the queue. -/
theorem queue_reachQuiet_off (h : s.operating = false) (quiet : Nat) :
    (reachQuiet quiet s).line.queue = s.line.queue := by
  have hbroken : (breakOffAt quiet s).line.queue = s.line.queue := by
    unfold breakOffAt
    split
    · exact queue_lineError_off (by exact h)
    · rfl
  obtain ⟨e, -⟩ | ⟨e, -, -⟩ := reachQuiet_cases quiet s
  · rw [e, hbroken]
  · rw [e, line_leaveStuck]
    exact hbroken

/-- R85: in a failed start-up a start bit leaves the queue. -/
theorem takeStartBit_failed (h : s.startup.state = .failed) : (takeStartBit b s).line.queue = s.line.queue := by
  have hoff : s.operating = false := by simp [State.operating, h]
  have hfailed : (reachQuiet (s.line.countAt b.quiet) s).startup.state = .failed := by simpa using h
  exact (takeBack_failed hfailed _ _).trans (queue_reachQuiet_off hoff _)

/-- R75: while the node drives a frame, a start bit changes nothing. -/
theorem exec_foreignStartBit_own {d : DrivenFrame} (hshift : s.line.shift = some d) (hown : s.line.activity = .own)
    (hrunning : s.startup.state ≠ .failed) : exec (.foreignStartBit b) s = .next s := by
  have hgoes : s.lastOwnByte = false := by simp [State.lastOwnByte, hshift, hrunning]
  have hend : endByte s = s := by simp only [endByte, hown, hgoes, Bool.false_eq_true, if_false]
  have hafter : afterByte (takeStartBit b) s = s := by rw [afterByte, hend, if_pos hown]
  refine congrArg Host.Outcome.next ?_
  split
  · exact hafter
  · rfl

/-! ## Collisions (R77) -/

/-- R77: a driven byte that reads back differently. -/
theorem exec_collision {r : Misread} {d : DrivenFrame} (h : s.line.shift = some d) :
    exec (.collision r) s = .next (post .line 0 0 (kindByte d.frame.kind * 256 + r.position) 0 { s with line :=
      { s.line with
        shift := none
        queue := s.takeBack (some d.frame) s.line.queue
        quiet := 0, quietPart := 0, activity := .byte r.data r.stop
        receiver := s.line.receiver.readFirst (r.position - 1) d.bytes
        collisionTally := min (s.line.collisionTally + 1) 65535 } }) := by
  refine congrArg Host.Outcome.next ?_
  rw [collide, h]
  rfl

end

/-- Settles O42: a start bit and a collision, each with the frame that returns to a queue in class order. -/
theorem framesDeferCollideAndMerge : Obligations.FramesDeferCollideAndMerge := by
  refine ⟨fun b s f hover hholding hrunning hactivity hquiet hstuck horder hfree =>
      ⟨_, exec_foreignStartBit hover hactivity, ?_⟩,
    fun b s c n m first last first' last' p p' hover hholding hrunning hactivity hquiet hqueue =>
      ⟨_, exec_foreignStartBit hover hactivity, ?_⟩,
    fun b s f g hover hholding hrunning hactivity hquiet hqueue hsame hkind =>
      ⟨_, exec_foreignStartBit hover hactivity, ?_⟩,
    fun b s f hover hholding hrunning hactivity hquiet horder => ⟨_, exec_foreignStartBit hover hactivity, ?_⟩,
    fun b s hover hholding hactivity hquiet hstuck => ⟨_, exec_foreignStartBit hover hactivity, ?_⟩,
    fun b s hover hactivity hreceiver hquiet => ⟨_, exec_foreignStartBit hover hactivity, ?_⟩,
    fun b s d hshift hown hrunning => exec_foreignStartBit_own hshift hown hrunning,
    fun r s d hshift hrunning horder hfree => ⟨_, exec_collision hshift, ?_⟩,
    fun r s d hshift hfailed => ⟨_, exec_collision hshift, takeBack_failed hfailed (some d.frame) s.line.queue, rfl⟩,
    fun b s hover hfailed hactivity =>
      ⟨_, exec_foreignStartBit hover hactivity, takeStartBit_failed hfailed, rfl⟩,
    fun r s c n m first last first' last' drive p p' bytes hrunning hshift hqueue => ⟨_, exec_collision hshift, ?_⟩,
    fun r s d g hrunning hshift hqueue hsame hkind => ⟨_, exec_collision hshift, ?_⟩,
    fun r s d hrunning hshift horder => ⟨_, exec_collision hshift, rfl, ?_⟩⟩
  · obtain ⟨hbegins, hhunts, htakes⟩ := receiveStart_cases s.time (s.line.countAt b.quiet) s.line.receiver
    rw [takeStartBit_quiet hquiet hstuck, hholding, takeBack_some hrunning, returnFrame_free horder hfree]
    exact ⟨fun hr hq => hbegins hr (hq.trans (le_countAt _ _)), hhunts, htakes, rfl⟩
  · obtain ⟨hempty, hreturned⟩ := takeStartBit_defers hholding hrunning hquiet
    refine ⟨hempty, hreturned.trans ?_⟩
    rw [hqueue, returnFrame_single (by simp [OutFrame.sameSlot])]
    rfl
  · obtain ⟨hempty, hreturned⟩ := takeStartBit_defers hholding hrunning hquiet
    refine ⟨hempty, hreturned.trans ?_⟩
    rw [hqueue, returnFrame_single hsame, mergeFrames_other hsame hkind]
  · obtain ⟨hempty, hreturned⟩ := takeStartBit_defers hholding hrunning hquiet
    exact ⟨hempty, hreturned.trans (returnFrame_inClassOrder horder f)⟩
  · obtain ⟨hbegins, hhunts, htakes⟩ := receiveStart_cases s.time (s.line.countAt b.quiet) s.line.receiver
    rw [takeStartBit_quiet hquiet hstuck, hholding]
    refine ⟨fun hr hq => hbegins hr (hq.trans (le_countAt _ _)), hhunts, htakes, fun hwatch => ?_, ?_⟩
    · exact (stuckWatch_seeStartBit s.time s.rate (s.line.countAt b.quiet) (.byte b.data b.stop) s.line).1
        (hwatch.imp_right (·.trans (le_countAt _ _)))
    · simp only [takeBack_none, seeStartBit, hholding]
  · obtain ⟨hbegins, htally⟩ := takeStartBit_breaks hreceiver hquiet
    exact ⟨hbegins, rfl, htally, rfl⟩
  · have hreturned := (takeBack_some hrunning d.frame s.line.queue).trans (returnFrame_free horder hfree)
    rw [hreturned]
    let u := { s with line :=
      { s.line with
        shift := none
        queue := s.line.queue.filter (fun g => decide (OutFrame.cls g < d.frame.cls)) ++ d.frame
          :: s.line.queue.filter (fun g => decide (d.frame.cls ≤ OutFrame.cls g))
        quiet := 0, quietPart := 0, activity := .byte r.data r.stop
        receiver := s.line.receiver.readFirst (r.position - 1) d.bytes
        collisionTally := min (s.line.collisionTally + 1) 65535 } }
    have hposts := (appends_post .line 0 0 (kindByte d.frame.kind * 256 + r.position) 0 u).posts
    refine ⟨hposts, fun start bytes hr => ?_, fun hr => ?_,
      eq_withLogOf (logRest_post .line 0 0 (kindByte d.frame.kind * 256 + r.position) 0 u) rfl⟩
    · exact congrArg (Receiver.readFirst (r.position - 1) d.bytes) hr
    · exact congrArg (Receiver.readFirst (r.position - 1) d.bytes) hr
  · rw [hqueue, takeBack_some hrunning, returnFrame_single (by simp [OutFrame.sameSlot])]
    rfl
  · rw [hqueue, takeBack_some hrunning, returnFrame_single hsame, mergeFrames_other hsame hkind]
    rfl
  · exact (takeBack_some hrunning d.frame s.line.queue).trans (returnFrame_inClassOrder horder d.frame)

end Sys2Proof.Machine
end

section
/-! PROOF. The line's states (R69, R74, R79, R80): the settlement of O43. -/
namespace Sys2Proof.Machine

section
variable {s t u : State}

/-! ## Events and fault reports -/

/-- A state that differs by what posted events and fault reports can change. -/
structure FaultsOnly (s t : State) : Prop where
  log : t.log.rest = s.log.rest
  frame : t = { s with
    log := t.log, sirens := { s.sirens with summary := t.sirens.summary, relay := t.sirens.relay } }

/-- What differs by events and fault reports alone. -/
theorem FaultsOnly.eq_withFaultsOf (h : FaultsOnly s t) : t = s.withFaultsOf t := by
  have hlog := log_withLogOf_of_rest h.log
  have hframe : s.withFaultsOf t = { s with
      log := (s.withLogOf t).log
      sirens := { s.sirens with summary := t.sirens.summary, relay := t.sirens.relay } } := rfl
  rw [hframe, hlog]
  exact h.frame

/-- Events and fault reports after others. -/
theorem FaultsOnly.trans (h : FaultsOnly s t) (h' : FaultsOnly t u) : FaultsOnly s u := by
  refine ⟨h'.log.trans h.log, ?_⟩
  have hframe := h'.frame
  rw [h.frame] at hframe
  exact hframe

/-- An event posted. -/
theorem faultsOnly_post (kind : EventKind) (subject value1 value2 flags : Nat) (s : State) :
    FaultsOnly s (post kind subject value1 value2 flags s) :=
  ⟨logRest_post kind subject value1 value2 flags s, rfl⟩

/-- R155: a fault report. -/
theorem faultsOnly_reportFault (m : FaultMember) (b : Bool) (s : State) : FaultsOnly s (reportFault m b s) := by
  refine ⟨logRest_reportFault m b s, ?_⟩
  unfold reportFault
  split <;> rfl

/-- The frame of what differs by events and fault reports, where the line changes as well. -/
theorem FaultsOnly.with_line (h : FaultsOnly s t) (l : Line) :
    FaultsOnly { s with line := l } { t with line := l } := by
  refine ⟨h.log, ?_⟩
  exact congrArg (fun r : State => { r with line := l }) h.frame

/-! ## Queues in class order (R70, R78) -/

/-- R78: a frame that returns leaves the queue in class order. -/
theorem inClassOrder_insertAtHead {q : List OutFrame} (h : InClassOrder q) (f : OutFrame) :
    InClassOrder (insertAtHead f q) := by
  rw [insertAtHead_inClassOrder h]
  refine List.pairwise_append.2 ⟨h.sublist List.filter_sublist, ?_, ?_⟩
  · refine List.pairwise_cons.2 ⟨fun g hg => ?_, h.sublist List.filter_sublist⟩
    simpa using (List.mem_filter.1 hg).2
  · intro g hg x hx
    have hlow : g.cls < f.cls := by simpa using (List.mem_filter.1 hg).2
    obtain rfl | hx := List.mem_cons.1 hx
    · exact hlow.le
    · have hhigh : f.cls ≤ x.cls := by simpa using (List.mem_filter.1 hx).2
      omega

/-- R78: a stage's frame returns to a queue in class order. -/
theorem takeBack_inClassOrder (hrunning : s.startup.state ≠ .failed) {q : List OutFrame} (h : InClassOrder q)
    (f : Option OutFrame) : s.takeBack f q = stageReturned f q ∧ InClassOrder (s.takeBack f q) := by
  cases f with
  | none => exact ⟨rfl, h⟩
  | some f =>
    rw [takeBack_some hrunning]
    refine ⟨returnFrame_inClassOrder h f, ?_⟩
    unfold returnFrame
    split
    · exact inClassOrder_insertAtHead h f
    · exact inClassOrder_insertAtHead (h.sublist List.filter_sublist) _

/-- R69, R79, R85: the queue once the frames of both stages have been taken back. -/
theorem queue_returnStages (s : State) :
    ((s.startup.state = .failed ∨ s.line.holding = none ∧ s.line.shift = none) →
        (returnStages s).queue = s.line.queue)
      ∧ (s.startup.state ≠ .failed → InClassOrder s.line.queue →
        (returnStages s).queue
          = stageReturned s.line.holding (stageReturned (s.line.shift.map DrivenFrame.frame) s.line.queue)) := by
  have hqueue : (returnStages s).queue
      = s.takeBack s.line.holding (s.takeBack (s.line.shift.map DrivenFrame.frame) s.line.queue) := rfl
  rw [hqueue]
  constructor
  · rintro (hfailed | ⟨hholding, hshift⟩)
    · rw [takeBack_failed hfailed, takeBack_failed hfailed]
    · rw [hholding, hshift]
      rfl
  · intro hrunning horder
    obtain ⟨hshift, horder'⟩ := takeBack_inClassOrder hrunning horder (s.line.shift.map DrivenFrame.frame)
    rw [(takeBack_inClassOrder hrunning horder' s.line.holding).1, hshift]

/-! ## LISTEN_ONLY (R69) -/

/-- R69: the state in which the line interface listens only, before its event and its reports. -/
def listeningOnly (s : State) : State := { s with line := { returnStages s with state := .listenOnly } }

/-- R69: entry to LISTEN_ONLY: the event first, then the reports. -/
theorem enterListenOnly_effect (kind : FrameKind) (h : s.line.state ≠ .listenOnly) :
    PostsFirst ⟨s.time, .line, 0, s.homeView, s.station, 0, 1, kindByte kind⟩ s (enterListenOnly kind s)
      ∧ (s.operating = true → (enterListenOnly kind s).sirens.summary.listenOnly = true)
      ∧ (s.operating = true → s.line.state = .stuck → (enterListenOnly kind s).sirens.summary.stuck = false)
      ∧ FaultsOnly (listeningOnly s) (enterListenOnly kind s) := by
  let t := post .line 0 1 (kindByte kind) 0 (listeningOnly s)
  let u := reportFault .listenOnly true t
  have heq : enterListenOnly kind s = if decide (s.line.state = .stuck) = true then reportFault .stuck false u else u :=
    if_neg h
  have hlisten (ho : s.operating = true) : u.sirens.summary.listenOnly = true :=
    has_reportFault (s := t) (by exact ho) .listenOnly true
  have hfaults : FaultsOnly (listeningOnly s) u :=
    (faultsOnly_post .line 0 1 (kindByte kind) 0 (listeningOnly s)).trans (faultsOnly_reportFault .listenOnly true t)
  have hleads : Leads (.arrival false) t u := leads_reportFault .refl
  by_cases hstuck : s.line.state = .stuck
  · rw [heq, if_pos (decide_eq_true hstuck)]
    have hfirst : PostsFirst ((listeningOnly s).record .line 0 1 (kindByte kind) 0) (listeningOnly s)
        (reportFault .stuck false u) := Leads.postsFirst (w := .arrival false) nofun (leads_reportFault hleads)
    refine ⟨hfirst, fun ho => ?_, fun ho _ => ?_, hfaults.trans (faultsOnly_reportFault .stuck false u)⟩
    · exact (has_reportFault_other u (m := .stuck) (n := .listenOnly) false nofun).trans (hlisten ho)
    · exact has_reportFault (s := u) ((operating_reportFault .listenOnly true t).trans ho) .stuck false
  · rw [heq, if_neg (by simpa using hstuck)]
    have hfirst : PostsFirst ((listeningOnly s).record .line 0 1 (kindByte kind) 0) (listeningOnly s) u :=
      Leads.postsFirst (w := .arrival false) nofun hleads
    exact ⟨hfirst, hlisten, fun _ h => absurd h hstuck, hfaults⟩

/-! ## STUCK (R79, R80) -/

/-- R79: an expired stuck watch. -/
theorem exec_stuckWatchExpiry (hdue : due s.time s.line.stuckWatch = true) :
    exec .stuckWatchExpiry s = .next (expireStuckWatch s) :=
  congrArg Host.Outcome.next (if_pos hdue)

/-- R79: the state whose stuck watch is over. -/
def watchEnded (s : State) : State := { s with line := { s.line with stuckWatch := none } }

/-- R79: the state that has become STUCK, before its event and its report. -/
def becameStuck (s : State) : State := { s with line := { returnStages (watchEnded s) with state := .stuck } }

/-- R79: entry to STUCK: the event first, then the report. -/
theorem expireStuckWatch_effect (h : s.line.state = .listening) :
    PostsFirst ⟨s.time, .line, 0, s.homeView, s.station, 0, 2, s.line.errorTally⟩ s (expireStuckWatch s)
      ∧ (s.operating = true → (expireStuckWatch s).sirens.summary.stuck = true)
      ∧ FaultsOnly (becameStuck s) (expireStuckWatch s) := by
  let t := post .line 0 2 s.line.errorTally 0 (becameStuck s)
  have heq : expireStuckWatch s = reportFault .stuck true t := if_pos h
  rw [heq]
  have hfirst : PostsFirst ((becameStuck s).record .line 0 2 s.line.errorTally 0) (becameStuck s)
      (reportFault .stuck true t) := Leads.postsFirst (w := .arrival false) nofun (leads_reportFault .refl)
  exact ⟨hfirst, fun ho => has_reportFault (s := t) (by exact ho) .stuck true,
    (faultsOnly_post .line 0 2 s.line.errorTally 0 (becameStuck s)).trans (faultsOnly_reportFault .stuck true t)⟩

/-- R80: the state that has left STUCK, before its event and its report. -/
def becameUnstuck (s : State) : State :=
  { s with line := { setQuiet (max 142 s.line.quiet) s.line with state := .listening } }

/-- R80: STUCK is left: the event first, then the report. -/
theorem leaveStuck_effect (h : s.line.state = .stuck) :
    PostsFirst ⟨s.time, .line, 0, s.homeView, s.station, 0, 3, s.line.errorTally⟩ s (leaveStuck s)
      ∧ (s.operating = true → (leaveStuck s).sirens.summary.stuck = false)
      ∧ FaultsOnly (becameUnstuck s) (leaveStuck s) := by
  let t := post .line 0 3 s.line.errorTally 0 (becameUnstuck s)
  have heq : leaveStuck s = reportFault .stuck false t := if_pos h
  rw [heq]
  have hfirst : PostsFirst ((becameUnstuck s).record .line 0 3 s.line.errorTally 0) (becameUnstuck s)
      (reportFault .stuck false t) := Leads.postsFirst (w := .arrival false) nofun (leads_reportFault .refl)
  exact ⟨hfirst, fun ho => has_reportFault (s := t) (by exact ho) .stuck false,
    (faultsOnly_post .line 0 3 s.line.errorTally 0 (becameUnstuck s)).trans (faultsOnly_reportFault .stuck false t)⟩

/-- R80: the line that has left STUCK: the quiet count stands at 142 or more. -/
theorem becameUnstuck_line (s : State) :
    (becameUnstuck s).line = { s.line with
      state := .listening, stuckWatch := none, activity := .mark, quiet := max 142 s.line.quiet
      quietPart := if s.line.quiet < 142 then 0 else s.line.quietPart } := by
  simp only [becameUnstuck, setQuiet, watchAt, lt_max_iff, lt_self_iff_false, or_false, le_max_left, if_true]

/-! ## The gap of the head frame (R74) -/

/-- R74: a line that does not listen, or has a frame in a stage, holds no frame. -/
theorem judgeGap_stands {station : Nat} {l : Line} (h : mayHold l = false) : judgeGap station l = l :=
  if_neg (by simp [h])

/-- R74: out of LISTENING no frame may be held. -/
theorem mayHold_of_not_listening {l : Line} (h : l.state ≠ .listening) : mayHold l = false := by
  simp [mayHold, h]

/-- R66: from 12 on a quiet count breaks off the same partial frame. -/
theorem breakOffAt_reached {quiet : Nat} (h : 12 ≤ quiet) (s : State) : breakOffAt quiet s = breakOffAt 12 s := by
  simp only [breakOffAt, h, le_refl]

/-- R66: out of LISTENING the end of a partial frame lets no frame be held. -/
theorem exec_frameBrokenOff_of_not_listening (hover : s.handedOver = true)
    (hactivity : s.line.activity = .mark ∨ s.line.activity = .busy) (hstate : s.line.state ≠ .listening) :
    exec .frameBrokenOff s = .next (breakOffAt 12 s) := by
  refine congrArg Host.Outcome.next ((if_pos hover).trans ((afterByte_still hactivity _).trans ?_))
  have hnot : mayHold (breakOffAt 12 s).line = false := mayHold_of_not_listening (by rwa [state_breakOffAt])
  dsimp only
  rw [judgeGap_stands hnot]

/-- R80: a quiet count of 142 in STUCK leaves STUCK where a partial frame has been broken off. -/
theorem reachQuiet_unsticks {quiet : Nat} (h : 142 ≤ quiet) (hstuck : s.line.state = .stuck) :
    reachQuiet quiet s = leaveStuck (breakOffAt 12 s) := by
  obtain ⟨-, hnot⟩ | ⟨e, -⟩ := reachQuiet_cases quiet s
  · exact absurd hstuck (hnot.resolve_left (by omega))
  · rw [e, breakOffAt_reached (by omega)]

/-- R74: whether a frame may be held, and the holding stage, out of LISTENING. -/
def State.heldElsewhere (s : State) : LineState × Option OutFrame :=
  (s.line.state, if s.line.state = .listening then none else s.line.holding)

/-- R74: out of LISTENING no recount moves a frame into the holding stage. -/
theorem steady_heldElsewhere : Steady State.heldElsewhere := by
  refine ⟨fun z old new s => ?_, fun _ _ _ _ _ _ => rfl, fun _ _ => rfl, fun v s => ?_⟩
  · obtain ⟨-, -, -, -, -, -, -, -, hline, -⟩ := notifyView_frame z old new s
    rw [State.heldElsewhere, hline, State.heldElsewhere]
  · by_cases hlistens : s.line.state = .listening
    · have hrest := lineRest_changeQueue (.vote s.cfg.homeZone v) (fun _ => .vote s.cfg.homeZone v) s
      have hstate : (handVote v s).line.state = s.line.state := (congrArg Line.state hrest :)
      simp only [State.heldElsewhere, hstate, hlistens, if_true]
    · let q := handOver (.vote s.cfg.homeZone v) (fun _ => .vote s.cfg.homeZone v) s.line.queue
      have hhanded : (handVote v s).line = { s.line with queue := q } :=
        judgeGap_stands (mayHold_of_not_listening hlistens)
      rw [State.heldElsewhere, hhanded, State.heldElsewhere]

/-- R81: out of LISTENING a counted error leaves the holding stage. -/
theorem heldElsewhere_lineError (s : State) : (lineError s).heldElsewhere = s.heldElsewhere := by
  have hconditions (c : Conditions) (r : State) : (reportConditions c r).heldElsewhere = r.heldElsewhere := by
    unfold reportConditions
    split
    · exact recountOwn_keeps steady_heldElsewhere _
    · rfl
  have hfault (m : FaultMember) (b : Bool) (r : State) : (reportFault m b r).heldElsewhere = r.heldElsewhere := by
    unfold reportFault
    split <;> rfl
  unfold lineError reportDegraded
  dsimp only
  split
  · split
    · rw [recountAllZones_keeps steady_heldElsewhere]
      exact (hfault _ _ _).trans (hconditions _ _)
    · exact (hfault _ _ _).trans (hconditions _ _)
  · rfl

/-- R66, R74: out of LISTENING the end of a partial frame leaves the holding stage. -/
theorem holding_breakOffAt (h : s.line.state ≠ .listening) (quiet : Nat) :
    (breakOffAt quiet s).line.holding = s.line.holding := by
  have hheld : (breakOffAt quiet s).heldElsewhere = s.heldElsewhere := by
    unfold breakOffAt
    split
    · exact heldElsewhere_lineError _
    · rfl
  simpa [State.heldElsewhere, h] using hheld

/-! ## Stages that empty while the node does not drive -/

/-- R79: with no frame that is driven, the byte on the line and the receiver stay. -/
theorem returnStages_idle (h : s.line.activity ≠ .own ∨ s.line.shift = none) :
    returnStages s = { s.line with
      queue := (returnStages s).queue, holding := none, shift := none } := by
  have hstop : stopDriving s.time s.rate s.line = s.line.activity ∧ readOwn s.time s.rate s.line = s.line := by
    unfold stopDriving readOwn
    split
    · next hown hshift => exact absurd h (by simp [hown, hshift])
    · exact ⟨rfl, rfl⟩
  unfold returnStages
  rw [hstop.1, hstop.2]

/-- R79: the byte that the node drives when its stages empty is the last of its frame. -/
theorem returnStages_driving {d : DrivenFrame} (hown : s.line.activity = .own) (hshift : s.line.shift = some d) :
    returnStages s = { s.line with
      queue := (returnStages s).queue, holding := none, shift := none
      activity := .ownLast (d.bytes.getD (d.readBack s.time s.rate) 0)
      receiver := s.line.receiver.readFirst (d.readBack s.time s.rate) d.bytes } := by
  unfold returnStages stopDriving readOwn
  simp only [hown, hshift]
  rfl

/-! ## The arrivals that leave STUCK (R80) -/

/-- R66: the quiet count where a partial frame has been broken off. -/
theorem le_quiet_breakOffAt (quiet : Nat) (s : State) : s.line.quiet ≤ (breakOffAt quiet s).line.quiet := by
  unfold breakOffAt
  split
  · have hquiet : (breakOff s).line.quiet = max 12 s.line.quiet := by
      have hrest := lineRest_of_beyondZones (breakOff_beyondZones s)
      exact congrArg Line.quiet hrest
    rw [hquiet]
    exact le_max_right _ _
  · exact le_rfl

/-- R66: the shift stage and the line's activity where a partial frame has been broken off. -/
theorem shift_breakOffAt (quiet : Nat) (s : State) : (breakOffAt quiet s).line.shift = s.line.shift
    ∧ (s.line.activity = .mark → (breakOffAt quiet s).line.activity = .mark) := by
  unfold breakOffAt
  split
  · have hrest := lineRest_of_beyondZones (breakOff_beyondZones s)
    exact ⟨(congrArg Line.shift hrest :), fun _ => (congrArg Line.activity hrest :)⟩
  · exact ⟨rfl, id⟩

/-- R80: a start bit after 142 quiet bit times in STUCK. -/
theorem takeStartBit_unsticks {b : StartBit} (hstuck : s.line.state = .stuck) (hcount : 142 ≤ s.line.countAt b.quiet) :
    FaultsOnly
      { breakOffAt 12 s with line :=
        { (breakOffAt 12 s).line with
          state := .listening, quiet := 0, quietPart := 0, activity := .byte b.data b.stop
          receiver := .taking s.time [], holding := none, queue := (takeStartBit b s).line.queue
          stuckWatch := some (later s.time (520 * bitTime s.rate / 1000)) } }
      (takeStartBit b s) := by
  have hstuck' : (breakOffAt 12 s).line.state = .stuck := by rwa [state_breakOffAt]
  have hreach : reachQuiet (s.line.countAt b.quiet) s = leaveStuck (breakOffAt 12 s) :=
    reachQuiet_unsticks hcount hstuck
  have hrate : (leaveStuck (breakOffAt 12 s)).rate = s.rate := by simp [State.rate]
  have hbegins : (leaveStuck (breakOffAt 12 s)).line = (becameUnstuck (breakOffAt 12 s)).line := by
    rw [line_leaveStuck, if_pos hstuck']
    rfl
  have hreceiver : (breakOffAt 12 s).line.receiver = .hunting := receiver_breakOffAt le_rfl s
  have hline : (takeStartBit b s).line = { (breakOffAt 12 s).line with
      state := .listening, quiet := 0, quietPart := 0, activity := .byte b.data b.stop
      receiver := .taking s.time [], holding := none, queue := (takeStartBit b s).line.queue
      stuckWatch := some (later s.time (520 * bitTime s.rate / 1000)) } := by
    unfold takeStartBit
    dsimp only
    rw [hreach, hbegins, becameUnstuck_line]
    simp [seeStartBit, watchAt, hcount, hrate, hreceiver, receiveStart, show 12 ≤ s.line.countAt b.quiet by omega]
  have heq : ({ leaveStuck (breakOffAt 12 s) with line := (takeStartBit b s).line } : State) = takeStartBit b s := by
    rw [← hreach]
    rfl
  have hfaults := (leaveStuck_effect hstuck').2.2.with_line (takeStartBit b s).line
  rw [heq] at hfaults
  rw [← hline]
  exact hfaults

/-- R80: a gap of 142 quiet bit times or more in STUCK: the head frame is held. -/
theorem expireGap_unsticks {f g : OutFrame} {gs rest : List OutFrame} (hstuck : s.line.state = .stuck)
    (hholding : s.line.holding = none) (hshift : s.line.shift = none) (hqueue : s.line.queue = g :: gs)
    (hcount : 142 ≤ s.line.countAt (frameGap s.station g)) (hqueue' : (breakOffAt 12 s).line.queue = f :: rest) :
    (expireGap s).line.quiet = max (max 142 (breakOffAt 12 s).line.quiet) (frameGap s.station g)
      ∧ ((expireGap s).log = (leaveStuck (breakOffAt 12 s)).log
        ∧ (expireGap s).sirens = (leaveStuck (breakOffAt 12 s)).sirens)
      ∧ FaultsOnly
        { breakOffAt 12 s with line :=
          { (breakOffAt 12 s).line with
            state := .listening, queue := rest, holding := some f, activity := .mark, quiet := (expireGap s).line.quiet
            quietPart :=
              if (breakOffAt 12 s).line.quiet < (expireGap s).line.quiet then 0 else (breakOffAt 12 s).line.quietPart
            stuckWatch := none } }
        (expireGap s) := by
  have hstuck' : (breakOffAt 12 s).line.state = .stuck := by rwa [state_breakOffAt]
  have hreach : reachQuiet (s.line.countAt (frameGap s.station g)) s = leaveStuck (breakOffAt 12 s) :=
    reachQuiet_unsticks hcount hstuck
  have hbegins : (leaveStuck (breakOffAt 12 s)).line = (becameUnstuck (breakOffAt 12 s)).line := by
    rw [line_leaveStuck, if_pos hstuck']
    rfl
  have hholding' : (breakOffAt 12 s).line.holding = none :=
    (holding_breakOffAt (by rw [hstuck]; nofun) 12).trans hholding
  have hshift' : (breakOffAt 12 s).line.shift = none := (shift_breakOffAt 12 s).1.trans hshift
  have hreceiver : (breakOffAt 12 s).line.receiver = .hunting := receiver_breakOffAt le_rfl s
  have hholds : mayHold (leaveStuck (breakOffAt 12 s)).line = true := by
    rw [hbegins, becameUnstuck_line]
    simp [mayHold, hholding', hshift', hreceiver, hqueue']
  let held := holdHead (setQuiet (max (leaveStuck (breakOffAt 12 s)).line.quiet (frameGap s.station g))
    (leaveStuck (breakOffAt 12 s)).line)
  have hexpire : expireGap s = { leaveStuck (breakOffAt 12 s) with line := held } := by
    unfold expireGap
    rw [hqueue]
    dsimp only
    rw [hreach, if_pos hholds]
  have hquiet : (expireGap s).line.quiet = max (max 142 (breakOffAt 12 s).line.quiet) (frameGap s.station g) := by
    rw [hexpire]
    dsimp only [held]
    rw [hbegins, becameUnstuck_line]
    simp [holdHead, setQuiet, hqueue']
  have hline : (expireGap s).line = { (breakOffAt 12 s).line with
      state := .listening, queue := rest, holding := some f, activity := .mark, quiet := (expireGap s).line.quiet
      quietPart :=
        if (breakOffAt 12 s).line.quiet < (expireGap s).line.quiet then 0 else (breakOffAt 12 s).line.quietPart
      stuckWatch := none } := by
    rw [hquiet, hexpire]
    dsimp only [held]
    rw [hbegins, becameUnstuck_line]
    have hpart : (if (breakOffAt 12 s).line.quiet < max (max 142 (breakOffAt 12 s).line.quiet) (frameGap s.station g)
          then 0 else (breakOffAt 12 s).line.quietPart)
        = if max 142 (breakOffAt 12 s).line.quiet < max (max 142 (breakOffAt 12 s).line.quiet) (frameGap s.station g)
          then 0 else if (breakOffAt 12 s).line.quiet < 142 then 0 else (breakOffAt 12 s).line.quietPart := by
      grind
    simp only [holdHead, setQuiet, hqueue', watchAt, ite_self, hpart]
  have heq : ({ leaveStuck (breakOffAt 12 s) with line := (expireGap s).line } : State) = expireGap s := by
    rw [hexpire]
  refine ⟨hquiet, by rw [hexpire]; exact ⟨rfl, rfl⟩, ?_⟩
  have hfaults := (leaveStuck_effect hstuck').2.2.with_line (expireGap s).line
  rw [heq] at hfaults
  rw [← hline]
  exact hfaults

/-! ## A valid frame of a duplicate station (R69, R182) -/

/-- R69, R182: the state in which a valid frame of the own number has been heard. -/
def heardDuplicate (s : State) : State :=
  { s with
    startup :=
      { s.startup with
        frameHeard := if s.startup.echoDeadline.isSome = true then some true else s.startup.frameHeard }
    line := endValidFrame s.line }

/-- R182: a valid frame is heard in a line-echo test that stands. -/
theorem reportHeard_eq (s : State) : reportHeard { s with line := endValidFrame s.line } = heardDuplicate s := by
  unfold reportHeard heardDuplicate
  dsimp only
  split <;> rfl

end

/-- Settles O43: the changes of line state, each with its event and its report, and the arrivals that a quiet count of
142 brings about. -/
theorem lineStateChanges : Obligations.LineStateChanges := by
  refine ⟨fun kind s hover hstate hquiet => ⟨_, exec_duplicateStationFrame hover, ?_⟩,
    fun s hdue hstate => ⟨_, exec_stuckWatchExpiry hdue, ?_⟩, fun s hdue hstate => ?_,
    fun s hover hstate hreceiver hactivity => ?_, fun s hover hstate hreceiver hactivity => ?_,
    fun b s v hover hstate hcount hactivity hbroken => ⟨_, exec_foreignStartBit hover hactivity, ?_⟩,
    fun c s v hc hover hmark hstate hquiet hbroken =>
      ⟨s.settled, exec_settled hc hover, settled_quietSettled hover, ?_⟩,
    fun s v g f gs rest hover hstate hholding hshift hactivity hqueue hcount hbroken hqueue' => ?_,
    fun s g gs hover hqueue hactivity hstate => ?_⟩
  · rw [settled_eq_self hquiet, takeDuplicate, reportHeard_eq]
    have hrest : (endValidFrame s.line).activity = if s.line.rests = true then .mark else .busy := rfl
    have hnotOwn : (endValidFrame s.line).activity ≠ .own := by
      rw [hrest]
      split <;> nofun
    obtain ⟨hfirst, hlisten, hstuck, hfaults⟩ := enterListenOnly_effect (s := heardDuplicate s) kind hstate
    have hlog : (heardDuplicate s).log = s.log := rfl
    obtain ⟨hqueue, horder⟩ := queue_returnStages (heardDuplicate s)
    have hline : (enterListenOnly kind (heardDuplicate s)).line = (listeningOnly (heardDuplicate s)).line := by
      rw [hfaults.frame]
    have hidle := returnStages_idle (s := heardDuplicate s) (.inl hnotOwn)
    refine ⟨hfirst.of_log_eq hlog, hlisten, hstuck, fun h => ?_, fun hrunning h => ?_, ?_⟩
    · rw [hline]
      exact hqueue h
    · rw [hline]
      exact horder hrunning h
    · refine hfaults.eq_withFaultsOf.trans ?_
      rw [hline]
      refine congrArg (fun r : State => r.withFaultsOf _) ?_
      unfold listeningOnly
      rw [hidle]
      rfl
  · obtain ⟨hfirst, hstuck, hfaults⟩ := expireStuckWatch_effect hstate
    obtain ⟨hqueue, horder⟩ := queue_returnStages (watchEnded s)
    have hline : (expireStuckWatch s).line = { returnStages (watchEnded s) with state := .stuck } := by
      rw [hfaults.frame]
      rfl
    refine ⟨hfirst, hstuck, fun h => ?_, fun hrunning h => ?_, fun hidle => ?_, fun hown d hd => ?_, ?_⟩
    · rw [hline]
      exact hqueue h
    · rw [hline]
      exact horder hrunning h
    · rw [hline, returnStages_idle (s := watchEnded s) hidle]
      exact ⟨rfl, rfl⟩
    · rw [hline, returnStages_driving (s := watchEnded s) hown (Option.mem_def.1 hd)]
      refine ⟨rfl, fun h => ?_, fun start bytes h => ?_⟩
      · exact congrArg (Receiver.readFirst (d.readBack s.time s.rate) d.bytes) h
      · exact congrArg (Receiver.readFirst (d.readBack s.time s.rate) d.bytes) h
    · refine hfaults.eq_withFaultsOf.trans ?_
      rw [hline]
      refine congrArg (fun r : State => r.withFaultsOf _) ?_
      unfold becameStuck
      by_cases hidle : s.line.activity ≠ .own ∨ s.line.shift = none
      · rw [returnStages_idle (s := watchEnded s) hidle]
        rfl
      · obtain ⟨hown, hdriven⟩ := not_or.1 hidle
        obtain ⟨d, hshift⟩ := Option.ne_none_iff_exists'.1 hdriven
        rw [returnStages_driving (s := watchEnded s) (not_not.1 hown) hshift]
        rfl
  · rw [exec_stuckWatchExpiry hdue, expireStuckWatch]
    exact congrArg Host.Outcome.next (if_neg hstate)
  · have hexec : exec .stuckExit s = .next (exitStuck s) :=
      congrArg Host.Outcome.next ((if_pos hover).trans (afterByte_still hactivity _))
    obtain ⟨hfirst, hclears, hfaults⟩ := leaveStuck_effect hstate
    have hexit : exitStuck s = { leaveStuck s with line := judgeGap (leaveStuck s).station (leaveStuck s).line } := by
      rw [exitStuck, breakOffAt_hunting (.inr hreceiver)]
      exact if_pos hstate
    have hunstuck : (leaveStuck s).line = (becameUnstuck s).line := by rw [hfaults.frame]
    have hstation : (leaveStuck s).station = s.station := by simp [State.station]
    let l := (becameUnstuck s).line
    have hframe : exitStuck s = { leaveStuck s with line := judgeGap s.station l } := by rw [hexit, hunstuck, hstation]
    have hquiet : l.quiet = max 142 s.line.quiet := congrArg Line.quiet (becameUnstuck_line s)
    refine ⟨_, hexec, ?_, fun ho => ?_, fun hholding hshift f hf hgap => ?_, fun hnot => ?_, ?_⟩
    · rw [hframe]
      exact hfirst
    · rw [hframe]
      exact hclears ho
    · obtain ⟨rest, hqueue⟩ : ∃ rest, s.line.queue = f :: rest := List.head?_eq_some_iff.1 (Option.mem_def.1 hf)
      have hqueue' : l.queue = f :: rest := hqueue
      have hmay : mayHold l = true := by simp [l, becameUnstuck_line, mayHold, hholding, hshift, hqueue, hreceiver]
      have hgap' : gapReached s.station l = true := by
        rw [gapReached, hqueue']
        exact decide_eq_true (hgap.trans_eq hquiet.symm)
      rw [hframe, judgeGap, hmay, hgap', if_pos (by rfl), holdHead, hqueue', hqueue]
      exact ⟨rfl, rfl⟩
    · have hstands : judgeGap s.station l = l := by
        refine if_neg fun h => ?_
        obtain ⟨hmay, hgap⟩ := Bool.and_eq_true_iff.1 h
        have hstages : s.line.holding = none ∧ s.line.shift = none := by
          have hmay' : mayHold (becameUnstuck s).line = true := hmay
          rw [becameUnstuck_line] at hmay'
          simp only [mayHold, Bool.and_eq_true, Option.isNone_iff_eq_none] at hmay'
          exact ⟨hmay'.1.1.1.2, hmay'.1.1.2⟩
        have hlate : ∀ f ∈ s.line.queue.head?, max 142 s.line.quiet < frameGap s.station f :=
          (hnot.resolve_left (not_not.2 hstages.1)).resolve_left (not_not.2 hstages.2)
        have hqueue : l.queue = s.line.queue := rfl
        rw [gapReached, hqueue] at hgap
        cases hcase : s.line.queue with
        | nil => simp [hcase] at hgap
        | cons f rest =>
          rw [hcase] at hgap
          have hreached : frameGap s.station f ≤ l.quiet := of_decide_eq_true hgap
          have := hlate f (by simp [hcase])
          omega
      rw [hframe, hstands]
      exact ⟨rfl, rfl⟩
    · have hjudged := hfaults.with_line (judgeGap s.station l)
      rw [← hframe] at hjudged
      have hline : (exitStuck s).line = judgeGap s.station l := congrArg State.line hframe
      refine hjudged.eq_withFaultsOf.trans ?_
      rw [hline]
      refine congrArg (fun r : State => r.withFaultsOf _) (congrArg (fun l => { s with line := l }) ?_)
      refine (judgeGap_frame s.station l).trans ?_
      exact congrArg (fun r : Line => { r with
        queue := (judgeGap s.station l).queue, holding := (judgeGap s.station l).holding }) (becameUnstuck_line s)
  · have hexec : exec .stuckExit s = .next (exitStuck s) :=
      congrArg Host.Outcome.next ((if_pos hover).trans (afterByte_still hactivity _))
    rw [hexec, exitStuck, breakOffAt_hunting (.inr hreceiver), leaveStuck_of_not_stuck hstate, if_neg hstate]
    simp only [setQuiet, watchAt, lt_max_iff, lt_self_iff_false, or_false, le_max_left, if_true]
  · have hv : breakOffAt 12 s = v := by
      have hbreaks := exec_frameBrokenOff_of_not_listening hover hactivity (by rw [hstate]; nofun)
      exact Host.Outcome.next.inj (hbreaks.symm.trans hbroken)
    obtain ⟨hfirst, hclears, -⟩ := leaveStuck_effect (s := v) (by rw [← hv, state_breakOffAt, hstate])
    have hfaults := takeStartBit_unsticks (b := b) hstate hcount
    have hreach : reachQuiet (s.line.countAt b.quiet) s = leaveStuck v := by rw [reachQuiet_unsticks hcount hstate, hv]
    rw [hv] at hfaults
    have hlog : (takeStartBit b s).log = (leaveStuck v).log ∧ (takeStartBit b s).sirens = (leaveStuck v).sirens := by
      rw [← hreach]
      exact ⟨rfl, rfl⟩
    have hoperating : v.operating = s.operating := by simp [State.operating, ← hv]
    refine ⟨?_, fun ho => ?_, fun hholding => ?_, ?_⟩
    · unfold PostsFirst at hfirst ⊢
      rw [hlog.1]
      exact hfirst
    · rw [hlog.2]
      exact hclears (hoperating.trans ho)
    · have hheld : v.line.holding = none := by
        rw [← hv, holding_breakOffAt (by rw [hstate]; nofun), hholding]
      change (reachQuiet (s.line.countAt b.quiet) s).takeBack (reachQuiet (s.line.countAt b.quiet) s).line.holding
        (reachQuiet (s.line.countAt b.quiet) s).line.queue = v.line.queue
      rw [hreach, line_leaveStuck]
      exact congrArg (fun f => (leaveStuck v).takeBack f v.line.queue) hheld
    · exact hfaults.eq_withFaultsOf
  · have hv : breakOffAt 12 s = v := by
      have hbreaks := exec_frameBrokenOff_of_not_listening hover (.inl hmark) (by rw [hstate]; nofun)
      exact Host.Outcome.next.inj (hbreaks.symm.trans hbroken)
    have hcounts : (s.handedOver && s.line.counting) = true := by simp [hover, Line.counting, hmark]
    have hsettled : s.settled = leaveStuck v := by
      rw [State.settled, if_pos hcounts, reachQuiet_unsticks hquiet hstate, hv]
    have hstuck : v.line.state = .stuck := by rw [← hv, state_breakOffAt, hstate]
    have hoperating : v.operating = s.operating := by simp [State.operating, ← hv]
    have hquiet' : 142 ≤ v.line.quiet := by
      rw [← hv]
      exact hquiet.trans (le_quiet_breakOffAt 12 s)
    have hmark' : v.line.activity = .mark := by
      rw [← hv]
      exact (shift_breakOffAt 12 s).2 hmark
    obtain ⟨hfirst, hclears, hfaults⟩ := leaveStuck_effect hstuck
    rw [hsettled]
    refine ⟨hfirst, fun ho => hclears (hoperating.trans ho), hfaults.eq_withFaultsOf.trans ?_⟩
    refine congrArg (fun r : State => r.withFaultsOf _) ?_
    have hline : (becameUnstuck v).line = { v.line with state := .listening, stuckWatch := none } := by
      rw [becameUnstuck_line, if_neg (by omega), max_eq_right hquiet', ← hmark']
    exact congrArg (fun l => { v with line := l }) hline
  · have hv : breakOffAt 12 s = v := by
      have hbreaks := exec_frameBrokenOff_of_not_listening hover hactivity (by rw [hstate]; nofun)
      exact Host.Outcome.next.inj (hbreaks.symm.trans hbroken)
    have hoperating : v.operating = s.operating := by simp [State.operating, ← hv]
    obtain ⟨hfirst, hclears, -⟩ := leaveStuck_effect (s := v) (by rw [← hv, state_breakOffAt, hstate])
    obtain ⟨hquiet, hlog, hfaults⟩ := expireGap_unsticks hstate hholding hshift hqueue hcount (by rw [hv, hqueue'])
    have hexec : exec .gapExpiry s = .next (expireGap s) := congrArg Host.Outcome.next (afterByte_still hactivity _)
    rw [hv] at hquiet hfaults hlog
    refine ⟨_, hexec, ?_, fun ho => ?_, by omega, by omega, by omega, hfaults.eq_withFaultsOf⟩
    · unfold PostsFirst at hfirst ⊢
      rw [hlog.1]
      exact hfirst
    · rw [hlog.2]
      exact hclears (hoperating.trans ho)
  · have hgap : 12 ≤ s.line.countAt (frameGap s.station g) := by
      refine le_trans ?_ (le_countAt _ _)
      rw [frameGap_eq]
      split <;> omega
    have hlistens : s.line.state ≠ .listening := by
      obtain hstate | ⟨hstate, -⟩ := hstate <;> rw [hstate] <;> nofun
    have hreach : reachQuiet (s.line.countAt (frameGap s.station g)) s = breakOffAt 12 s := by
      obtain ⟨e, -⟩ | ⟨-, hhigh, hstuck⟩ := reachQuiet_cases (s.line.countAt (frameGap s.station g)) s
      · rw [e, breakOffAt_reached hgap]
      · obtain hstate | ⟨-, hlow⟩ := hstate
        · exact absurd (hstuck.symm.trans hstate) nofun
        · omega
    have hnot : mayHold (breakOffAt 12 s).line = false := mayHold_of_not_listening (by rwa [state_breakOffAt])
    have hexpire : expireGap s = breakOffAt 12 s := by
      unfold expireGap
      rw [hqueue]
      dsimp only
      rw [hreach, hnot]
      rfl
    have hexec : exec .gapExpiry s = .next (breakOffAt 12 s) :=
      congrArg Host.Outcome.next ((afterByte_still hactivity _).trans hexpire)
    refine ⟨hexec.trans (exec_frameBrokenOff_of_not_listening hover hactivity hlistens).symm, fun hreceiver => ?_⟩
    rw [hexec, breakOffAt_hunting (.inr hreceiver)]

end Sys2Proof.Machine
end

section
/-! SUPPORT. What notices of a view leave of the extraction sequencer and of the doors (R112, R127, R129, R134): out of
RUNNING and FEED_WAIT a door changes demands alone, and a notice of HALT or FIRE ends both RUNNING and a restart. -/
namespace Sys2Proof.Machine

section
variable {s t u : State}

/-! ## The sequencer beyond its demands -/

/-- The sequencer beyond its demands. -/
def State.course (s : State) : Sequencer := { s.sequencer with demands := ⟨false, false⟩ }

/-- R128, R129: the states that no demand moves. -/
def SeqState.apart (st : SeqState) : Prop := st ≠ .running ∧ st ≠ .feedWait

/-- What keeps the course keeps the sequencer state. -/
theorem state_of_course (h : t.course = s.course) :
    t.sequencer.state = s.sequencer.state := (congrArg Sequencer.state h :)

/-- A step that keeps the course of every sequencer that no demand moves. -/
def KeepsCourse (f : State → State) : Prop := ∀ s : State, s.sequencer.state.apart → (f s).course = s.course

/-- One step after another. -/
theorem KeepsCourse.comp {f g : State → State} (hg : KeepsCourse g) (hf : KeepsCourse f) :
    KeepsCourse (fun s => g (f s)) :=
  fun s hs => (hg (f s) (by rwa [state_of_course (hf s hs)])).trans (hf s hs)

/-- What leaves the sequencer keeps the course. -/
theorem keepsCourse_of_sequencer {f : State → State} (h : ∀ s, (f s).sequencer = s.sequencer) : KeepsCourse f := by
  intro s _
  rw [State.course, h, State.course]

/-- R129: a demand placed. -/
theorem keepsCourse_placeDemand (d : Fin 2) : KeepsCourse (placeDemand d) := by
  intro s hs
  unfold placeDemand
  dsimp only
  rw [if_neg (by exact fun h => hs.1 h.2.1)]
  rfl

/-- R128, R129: a demand withdrawn. -/
theorem keepsCourse_withdrawDemand (d : Fin 2) : KeepsCourse (withdrawDemand d) := by
  intro s hs
  unfold withdrawDemand
  dsimp only
  split
  · rw [if_neg (by exact fun h => hs.1 h.1), if_neg (by exact hs.2)]
    rfl
  · rfl

/-- R143: a demand that follows its door. -/
theorem keepsCourse_syncDemand (d : Fin 2) : KeepsCourse (syncDemand d) := by
  intro s hs
  unfold syncDemand
  dsimp only
  (repeat' split)
  · rfl
  · exact keepsCourse_placeDemand d _ hs
  · exact keepsCourse_withdrawDemand d _ hs

/-- R133: the entry to a door state. -/
theorem keepsCourse_setDoor (d : Fin 2) (st : DoorState) (cause : Nat) : KeepsCourse (setDoor d st cause) := by
  intro s hs
  unfold setDoor
  refine (keepsCourse_syncDemand d _ ?_).trans ?_
  · simpa using hs
  · simp [State.course]

/-- R139: the closing of a door. -/
theorem keepsCourse_closeDoor (d : Fin 2) : KeepsCourse (closeDoor d) := by
  intro s hs
  unfold closeDoor
  dsimp only
  split
  · exact keepsCourse_setDoor d .closed 5 s hs
  · exact (keepsCourse_setDoor d .armed 7).comp (keepsCourse_setDoor d .closed 5) s hs

/-- R138: the release of a door. -/
theorem keepsCourse_releaseDoor (d : Fin 2) (cause : Nat) : KeepsCourse (releaseDoor d cause) := by
  intro s hs
  unfold releaseDoor
  dsimp only
  split
  · exact (keepsCourse_closeDoor d).comp (keepsCourse_setDoor d .released cause) s hs
  · exact keepsCourse_setDoor d .released cause s hs

/-- R136: the clearing of a door. -/
theorem keepsCourse_clearDoor (d : Fin 2) : KeepsCourse (clearDoor d) := by
  intro s hs
  unfold clearDoor
  dsimp only
  (repeat' split)
  · exact (keepsCourse_releaseDoor d 2).comp (keepsCourse_setDoor d .clearing 1) s hs
  · exact (keepsCourse_releaseDoor d 3).comp (keepsCourse_setDoor d .clearing 1) s hs
  · exact keepsCourse_setDoor d .clearing 1 s hs

/-- R134: a notice of a view at a door. -/
theorem keepsCourse_doorNotice (z : Nat) (view : Level) (d : Fin 2) : KeepsCourse (doorNotice z view d) := by
  intro s hs
  unfold doorNotice
  dsimp only
  (repeat' split)
  · exact keepsCourse_clearDoor d _ hs
  · exact keepsCourse_releaseDoor d 1 _ hs
  · exact keepsCourse_releaseDoor d 1 _ hs
  · rfl
  · exact keepsCourse_setDoor d .armed 7 _ hs
  · rfl
  · rfl

/-- The doors and sirens that take notice of a view. -/
def plantNotices (z : Nat) (view : Level) (s : State) : State :=
  sirenNotice z view 1 (sirenNotice z view 0 (doorNotice z view 1 (doorNotice z view 0 s)))

/-- R147: a notice of a view at a siren leaves the sequencer. -/
theorem sequencer_sirenNotice (z : Nat) (view : Level) (i : Fin 2) (s : State) :
    (sirenNotice z view i s).sequencer = s.sequencer := by
  simp

/-- R134, R147: the notices at doors and sirens. -/
theorem keepsCourse_plantNotices (z : Nat) (view : Level) : KeepsCourse (plantNotices z view) :=
  (keepsCourse_of_sequencer (sequencer_sirenNotice z view 1)).comp
    ((keepsCourse_of_sequencer (sequencer_sirenNotice z view 0)).comp
      ((keepsCourse_doorNotice z view 1).comp (keepsCourse_doorNotice z view 0)))

/-- R103: another zone's view reaches doors and sirens alone. -/
theorem notifyView_other {z : Nat} (h : z ≠ s.cfg.homeZone) (old new : Level) :
    notifyView z old new s = plantNotices z new s := by
  simp [notifyView, h, plantNotices]

/-- R103, R160: the log once the home view has changed: a rise from below asks for a flush. -/
def flushAsked (old new : Level) (s : State) : State :=
  if asksFlush old new then { s with log := (requestFlush s.log).1 } else s

/-- R103: the home view reaches the log, the sequencer, and doors and sirens. -/
theorem notifyView_home (old new : Level) (s : State) :
    notifyView s.cfg.homeZone old new s = plantNotices s.cfg.homeZone new
      (sequencerNotice new (flushAsked old new s)) := by
  simp [notifyView, plantNotices, flushAsked]

end

end Sys2Proof.Machine
end

section
/-! PROOF. The doors (R133 to R143): what the entry to a door state changes, and the settlement of O52. -/
namespace Sys2Proof.Machine

section
variable {s t u : State} {d : Fin 2}

/-! ## What a door changes -/

/-- A state that differs by one door, by the sequencer that follows its demand, and by events and fault reports. -/
structure DoorOnly (d : Fin 2) (s t : State) : Prop where
  log : t.log.rest = s.log.rest
  frame : t = { s with
    doors := s.doors.set d (t.doors.get d), sequencer := t.sequencer, log := t.log
    sirens := { s.sirens with summary := t.sirens.summary, relay := t.sirens.relay } }

/-- What differs by one door, with what follows its demand. -/
theorem DoorOnly.eq_withFaultsOf (h : DoorOnly d s t) : t
    = ({ s with doors := s.doors.set d (t.doors.get d), sequencer := t.sequencer } : State).withFaultsOf t := by
  let r : State := { s with doors := s.doors.set d (t.doors.get d), sequencer := t.sequencer }
  have hfaults : FaultsOnly r t := ⟨h.log, h.frame⟩
  exact hfaults.eq_withFaultsOf

/-- A door set to itself. -/
theorem Pair.set_get {α : Type} (p : Pair α) (i : Fin 2) : p.set i (p.get i) = p := by
  unfold Pair.set Pair.get
  split <;> rfl

/-- One change of a door after another. -/
theorem DoorOnly.trans (h : DoorOnly d s t) (h' : DoorOnly d t u) : DoorOnly d s u := by
  refine ⟨h'.log.trans h.log, ?_⟩
  have hframe := h'.frame
  rw [h.frame] at hframe
  dsimp only at hframe
  rw [Pair.set_set] at hframe
  exact hframe

/-- Events and fault reports. -/
theorem FaultsOnly.doorOnly (h : FaultsOnly s t) : DoorOnly d s t := by
  have hdoors : t.doors = s.doors := by rw [h.frame]
  have hsequencer : t.sequencer = s.sequencer := by rw [h.frame]
  refine ⟨h.log, ?_⟩
  rw [hdoors, hsequencer, Pair.set_get]
  exact h.frame

/-- The other door stays. -/
theorem DoorOnly.other (h : DoorOnly d s t) {e : Fin 2} (he : e ≠ d) : t.doors.get e = s.doors.get e := by
  rw [h.frame]
  exact Pair.get_set_other _ _ he

/-- R128, R129: a change of demand changes the sequencer and posts its events. -/
structure SequencerOnly (s t : State) : Prop where
  log : t.log.rest = s.log.rest
  frame : t = { s with sequencer := t.sequencer, log := t.log }

/-- What changes the sequencer and posts its events. -/
theorem SequencerOnly.doorOnly (h : SequencerOnly s t) : DoorOnly d s t := by
  have hdoors : t.doors = s.doors := by rw [h.frame]
  have hsirens : t.sirens = s.sirens := by rw [h.frame]
  refine ⟨h.log, ?_⟩
  rw [hdoors, hsirens, Pair.set_get]
  exact h.frame

/-- R129: a demand placed. -/
theorem sequencerOnly_placeDemand (d : Fin 2) (s : State) : SequencerOnly s (placeDemand d s) := by
  unfold placeDemand
  dsimp only
  split
  · exact ⟨logRest_post .., rfl⟩
  · exact ⟨rfl, rfl⟩

/-- R128: FEED_WAIT completes with two events. -/
theorem sequencerOnly_completeStep (h : s.sequencer.state = .feedWait) (code : Nat) :
    SequencerOnly s (completeStep code s) := by
  rw [completeStep, h]
  exact ⟨(logRest_post ..).trans (logRest_post ..), rfl⟩

/-- R129: a demand withdrawn. -/
theorem sequencerOnly_withdrawDemand (d : Fin 2) (s : State) : SequencerOnly s (withdrawDemand d s) := by
  let t : State := { s with sequencer := { s.sequencer with demands := s.sequencer.demands.set d false } }
  unfold withdrawDemand
  dsimp only
  (repeat' split)
  · exact ⟨logRest_post .., rfl⟩
  · next hwaits =>
    obtain ⟨hlog, hframe⟩ := sequencerOnly_completeStep (s := t) hwaits 0
    exact ⟨hlog, hframe⟩
  · exact ⟨rfl, rfl⟩
  · exact ⟨rfl, rfl⟩

/-- R143: a door's demand follows its state. -/
theorem syncDemand_leaves (d : Fin 2) (s : State) : DoorOnly d s (syncDemand d s)
    ∧ (syncDemand d s).doors.get d
      = { s.doors.get d with demand := ((syncDemand d s).doors.get d).demand } := by
  let door := { s.doors.get d with demand := (s.cfg.doors.get d).feedHold && demandState (s.doors.get d).state }
  let t : State := { s with doors := s.doors.set d door }
  have hdoor : DoorOnly d s t := ⟨rfl, by simp [t]⟩
  unfold syncDemand
  dsimp only
  (repeat' split)
  · exact ⟨⟨rfl, by rw [Pair.set_get]⟩, rfl⟩
  · have hplaces := sequencerOnly_placeDemand d t
    refine ⟨hdoor.trans hplaces.doorOnly, ?_⟩
    rw [hplaces.frame]
    simp [t, door]
  · have hwithdraws := sequencerOnly_withdrawDemand d t
    refine ⟨hdoor.trans hwithdraws.doorOnly, ?_⟩
    rw [hwithdraws.frame]
    simp [t, door]

/-- R133: the door that has entered a state, but for its demand. -/
def doorEntered (d : Fin 2) (st : DoorState) (s : State) : Door :=
  { s.doors.get d with
    state := st
    holder := holderLevel st
    clearDeadline :=
      if st = .clearing ∧ (s.cfg.doors.get d).tClear ≠ 0 then
        some (later s.time ((s.cfg.doors.get d).tClear * 1000))
      else none
    travelDeadline :=
      if st = .released then some (later s.time ((s.cfg.doors.get d).tTravel * 1000)) else none }

/-- R133: what follows the event of the entry to a door state. -/
theorem setDoor_posts (ho : s.startup.state = .operating) (st : DoorState) (cause : Nat) :
    ∃ r : State, r.log = s.log ∧ r.time = s.time ∧ r.homeView = s.homeView ∧ r.station = s.station
      ∧ Leads (.arrival false) (post .door d.val (doorCode st) cause 0 r) (setDoor d st cause s) := by
  let r : State := { s with doors := s.doors.set d (doorEntered d st s) }
  let p := post .door d.val (doorCode st) cause 0 r
  let q := reportFault .doorJammed p.doorJammed p
  have hself : ({ q with doors := q.doors.set d (q.doors.get d) } : State) = q := by rw [Pair.set_get]
  have hreported : Leads (.arrival false) p q := leads_reportFault .refl
  have hsynced := leads_syncDemand (d := d) (x := q.doors.get d) hreported (by simpa [q, p, r] using ho) rfl
  rw [hself] at hsynced
  exact ⟨r, rfl, rfl, rfl, rfl, hsynced⟩

/-- R133: the entry to a door state: the event first, the door as entered, and what follows. -/
theorem setDoor_leaves (d : Fin 2) (st : DoorState) (cause : Nat) (s : State) :
    DoorOnly d s (setDoor d st cause s)
      ∧ (setDoor d st cause s).doors.get d
        = { doorEntered d st s with demand := ((setDoor d st cause s).doors.get d).demand } := by
  let r : State := { s with doors := s.doors.set d (doorEntered d st s) }
  let p := post .door d.val (doorCode st) cause 0 r
  let q := reportFault .doorJammed p.doorJammed p
  have hdoor : DoorOnly d s r := ⟨rfl, by simp [r]⟩
  have hreported :
      DoorOnly d s q := (hdoor.trans (faultsOnly_post ..).doorOnly).trans (faultsOnly_reportFault ..).doorOnly
  have hentered : q.doors.get d = doorEntered d st s := by simp [q, p, r]
  obtain ⟨hsynced, hdemand⟩ := syncDemand_leaves d q
  rw [hentered] at hdemand
  exact ⟨hreported.trans hsynced, hdemand⟩

/-- R133, R142: a jammed door is reported while it stands. -/
theorem doorJammed_setDoor (ho : s.operating = true) (d : Fin 2) (cause : Nat) :
    (setDoor d .jammed cause s).sirens.summary.doorJammed = true := by
  let r : State := { s with doors := s.doors.set d (doorEntered d .jammed s) }
  let p := post .door d.val (doorCode .jammed) cause 0 r
  have hjammed : p.doorJammed = true := any_set_of_get rfl
  have hreported : (reportFault .doorJammed p.doorJammed p).sirens.summary.doorJammed = true :=
    (has_reportFault (s := p) (by exact ho) .doorJammed p.doorJammed).trans hjammed
  have hsirens : (setDoor d .jammed cause s).sirens = (reportFault .doorJammed p.doorJammed p).sirens :=
    (syncDemand_frame d _).2.2.2.2.2.2.2.2.2.2.2.1
  rw [hsirens, hreported]

/-- R133: the first event of a door that enters one state, and perhaps another after it. -/
theorem postsFirst_setDoor (ho : s.startup.state = .operating) {st : DoorState} {cause : Nat}
    (h : Leads (.arrival false) (setDoor d st cause s) t) :
    PostsFirst ⟨s.time, .door, d.val, s.homeView, s.station, 0, doorCode st, cause⟩ s t := by
  obtain ⟨r, hlog, htime, hview, hstation, hleads⟩ := setDoor_posts (s := s) (d := d) ho st cause
  have hfirst := (Leads.postsFirst (w := .arrival false) nofun (hleads.trans h)).of_log_eq hlog
  rw [State.record, htime, hview, hstation] at hfirst
  exact hfirst

/-- R139: a door that closes is CLOSED while some view stands at FIRE, and ARMED otherwise. -/
theorem closeDoor_leaves (ho : s.startup.state = .operating) :
    PostsFirst ⟨s.time, .door, d.val, s.homeView, s.station, 0, 4, 5⟩ s (closeDoor d s)
      ∧ ((closeDoor d s).doors.get d).state = (if (s.doors.get d).fireStanding = true then .closed else .armed)
      ∧ ((closeDoor d s).doors.get d).clearDeadline = none ∧ ((closeDoor d s).doors.get d).travelDeadline = none
      ∧ DoorOnly d s (closeDoor d s) := by
  let t := setDoor d .closed 5 s
  obtain ⟨hclosed, hdoor⟩ := setDoor_leaves d .closed 5 s
  have hviews : (t.doors.get d).fireStanding = (s.doors.get d).fireStanding := by
    rw [hdoor]
    rfl
  unfold closeDoor
  dsimp only
  split
  · next hfire =>
    refine ⟨postsFirst_setDoor ho .refl, ?_, ?_, ?_, hclosed⟩
    · rw [if_pos (hviews.symm.trans hfire), hdoor]
      rfl
    · rw [hdoor]
      rfl
    · rw [hdoor]
      rfl
  · next hfire =>
    obtain ⟨harmed, hdoor'⟩ := setDoor_leaves d .armed 7 t
    have ho' : t.startup.state = .operating := by simpa [t] using ho
    refine ⟨postsFirst_setDoor ho (leads_setDoor .refl ho'), ?_, ?_, ?_, hclosed.trans harmed⟩
    · rw [if_neg (by rwa [← hviews]), hdoor']
      rfl
    · rw [hdoor']
      rfl
    · rw [hdoor']
      rfl

/-- R138: a door that is released and not found closed. -/
theorem releaseDoor_leaves (ho : s.startup.state = .operating) (hopen : s.level (dcInput d) = false) (cause : Nat) :
    PostsFirst ⟨s.time, .door, d.val, s.homeView, s.station, 0, 3, cause⟩ s (releaseDoor d cause s)
      ∧ ((releaseDoor d cause s).doors.get d).state = .released
      ∧ ((releaseDoor d cause s).doors.get d).holder = false
      ∧ ((releaseDoor d cause s).doors.get d).clearDeadline = none
      ∧ ((releaseDoor d cause s).doors.get d).travelDeadline = some (later s.time ((s.cfg.doors.get d).tTravel * 1000))
      ∧ DoorOnly d s (releaseDoor d cause s) := by
  obtain ⟨hreleased, hdoor⟩ := setDoor_leaves d .released cause s
  have hstays : releaseDoor d cause s = setDoor d .released cause s := by
    refine if_neg ?_
    simpa [State.level] using hopen
  rw [hstays, hdoor]
  exact ⟨postsFirst_setDoor ho .refl, rfl, rfl, rfl, rfl, hreleased⟩

/-! ## Contact inputs of a door -/

/-- R136, R139, R141: a change of a door's closed switch in operation. -/
theorem exec_dcChange {active : Bool} (hover : s.handedOver = true) (ho : s.operating = true)
    (hlevel : s.level (dcInput d) = !active) :
    exec (.dcChange d active) s = .next (closedSwitch d active (setLevel (dcInput d) active s)) := by
  refine congrArg Host.Outcome.next ((takeContact_read hover hlevel (.inl ho)).trans ?_)
  fin_cases d <;> rfl

/-- R137: what a change of a clear switch does. -/
theorem contactAction_ccInput (d : Fin 2) (active : Bool) (s : State) :
    contactAction (ccInput d) active s = conveyorClear d active s := by
  fin_cases d <;> rfl

/-- R139: the door closes. -/
theorem closedSwitch_closes (h : (s.doors.get d).state = .clearing ∨ (s.doors.get d).state = .released
    ∨ (s.doors.get d).state = .jammed) : closedSwitch d true s = closeDoor d s := by
  unfold closedSwitch
  obtain h | h | h := h <;> rw [h]

/-- R137: the conveyor is clear. -/
theorem exec_ccChange (hover : s.handedOver = true) (ho : s.operating = true) (hlevel : s.level (ccInput d) = false)
    (hstate : (s.doors.get d).state = .clearing) :
    exec (.ccChange d true) s = .next (releaseDoor d 2 (setLevel (ccInput d) true s)) := by
  refine congrArg Host.Outcome.next ((takeContact_read hover hlevel (.inl ho)).trans ?_)
  rw [contactAction_ccInput]
  exact if_pos ⟨rfl, hstate⟩

/-- R137: a clear switch that no door waits on. -/
theorem exec_ccChange_ignored {active : Bool} (hover : s.handedOver = true) (hlevel : s.level (ccInput d) = !active)
    (hidle : active = true → (s.doors.get d).state ≠ .clearing) :
    exec (.ccChange d active) s = .next (setLevel (ccInput d) active s) := by
  refine congrArg Host.Outcome.next (takeContact_ignored hover hlevel ?_)
  rw [contactAction_ccInput]
  exact if_neg fun h => hidle h.1 h.2

/-- R136, R140, R141: the closed switch of a door that is not held shut by a hazard. -/
theorem closedSwitch_moves (s : State) :
    ((s.doors.get d).state = .held → closedSwitch d true s = setDoor d .armed 5 s)
      ∧ ((s.doors.get d).state = .armed → closedSwitch d false s = setDoor d .held 8 s)
      ∧ ((s.doors.get d).state = .closed → closedSwitch d false s = releaseDoor d 9 s) := by
  unfold closedSwitch
  refine ⟨fun h => ?_, fun h => ?_, fun h => ?_⟩ <;> rw [h]

end

/-- Settles O52: each door follows its two switches and its two deadlines. -/
theorem doorsFollowTheirSwitches : Obligations.DoorsFollowTheirSwitches := by
  refine ⟨fun d s hover ho hlevel hstate => ⟨_, exec_dcChange hover ho hlevel, ?_⟩,
    fun d s hover ho hlevel hstate => ⟨_, exec_dcChange hover ho hlevel, ?_⟩,
    fun d s hover ho hlevel hstate => ⟨_, exec_dcChange hover ho hlevel, ?_⟩,
    fun d s hover ho hlevel hstate => ⟨_, exec_dcChange hover ho hlevel, ?_⟩,
    fun d s hover ho hlevel hstate hopen => ⟨_, exec_ccChange hover ho hlevel hstate, ?_⟩,
    fun d s hover hlevel hstate => exec_ccChange_ignored hover hlevel fun _ => hstate,
    fun d s hover hlevel => exec_ccChange_ignored hover hlevel nofun,
    fun d s ho hdue hstate hopen => ?_, fun d s ho hdue hstate => ?_⟩
  · have hoperating : s.startup.state = .operating := of_decide_eq_true ho
    rw [closedSwitch_closes (s := setLevel (dcInput d) true s) hstate]
    obtain ⟨hfirst, hdoor, hclear, htravel, honly⟩ :=
      closeDoor_leaves (s := setLevel (dcInput d) true s) (d := d) hoperating
    exact ⟨hfirst, hdoor, hclear, htravel, honly.eq_withFaultsOf⟩
  · have hoperating : s.startup.state = .operating := of_decide_eq_true ho
    rw [(closedSwitch_moves (setLevel (dcInput d) true s)).1 hstate]
    obtain ⟨honly, hdoor⟩ := setDoor_leaves d .armed 5 (setLevel (dcInput d) true s)
    refine ⟨?_, ?_, postsFirst_setDoor (s := setLevel (dcInput d) true s) hoperating .refl, honly.eq_withFaultsOf⟩
    · rw [hdoor]; rfl
    · rw [hdoor]; rfl
  · have hoperating : s.startup.state = .operating := of_decide_eq_true ho
    rw [(closedSwitch_moves (setLevel (dcInput d) false s)).2.1 hstate]
    obtain ⟨honly, hdoor⟩ := setDoor_leaves d .held 8 (setLevel (dcInput d) false s)
    refine ⟨?_, ?_, postsFirst_setDoor (s := setLevel (dcInput d) false s) hoperating .refl, honly.eq_withFaultsOf⟩
    · rw [hdoor]; rfl
    · rw [hdoor]; rfl
  · have hoperating : s.startup.state = .operating := of_decide_eq_true ho
    rw [(closedSwitch_moves (setLevel (dcInput d) false s)).2.2 hstate]
    obtain ⟨hfirst, hdoor, hholder, -, htravel, honly⟩ :=
      releaseDoor_leaves (s := setLevel (dcInput d) false s) (d := d) hoperating (level_setLevel_same _ _ _) 9
    exact ⟨hdoor, hholder, hfirst, htravel, honly.eq_withFaultsOf⟩
  · have hoperating : s.startup.state = .operating := of_decide_eq_true ho
    have hother : ccInput d ≠ dcInput d := by fin_cases d <;> decide
    obtain ⟨hfirst, hdoor, -, hclear, htravel, honly⟩ :=
      releaseDoor_leaves (s := setLevel (ccInput d) true s) (d := d) hoperating
        ((level_setLevel_other true s hother.symm).trans hopen) 2
    exact ⟨hfirst, hdoor, hclear, htravel, honly.eq_withFaultsOf⟩
  · have hoperating : s.startup.state = .operating := of_decide_eq_true ho
    let p := post .clearTimeout d.val ((s.cfg.doors.get d).tClear * 1000) 0 0 s
    have hexec : exec (.clearDeadlineExpiry d) s = .next (releaseDoor d 4 p) := by
      refine congrArg Host.Outcome.next (if_pos ?_)
      simp [ho, hdue, hstate]
    obtain ⟨-, hdoor, -, hclear, htravel, honly⟩ := releaseDoor_leaves (s := p) (d := d) hoperating (by exact hopen) 4
    have hleads : Leads (.arrival false) p (releaseDoor d 4 p) := leads_releaseDoor (s := p) .refl hoperating
    refine ⟨_, hexec, Leads.postsFirst (w := .arrival false) nofun hleads, hdoor, hclear, htravel, ?_⟩
    exact ((faultsOnly_post ..).doorOnly.trans honly).eq_withFaultsOf
  · have hoperating : s.startup.state = .operating := of_decide_eq_true ho
    have hexec : exec (.travelDeadlineExpiry d) s = .next (setDoor d .jammed 6 s) := by
      refine congrArg Host.Outcome.next (if_pos ?_)
      simp [ho, hdue, hstate]
    obtain ⟨honly, hdoor⟩ := setDoor_leaves d .jammed 6 s
    refine ⟨_, hexec, postsFirst_setDoor hoperating .refl, ?_, ?_, doorJammed_setDoor ho d 6, honly.eq_withFaultsOf⟩
    · rw [hdoor]; rfl
    · rw [hdoor]; rfl

end Sys2Proof.Machine
end

section
/-! SUPPORT. What a notice of the home view stops: the sequencer shuts down, and the doors of the zone leave HELD (R112,
R116, R127, R134). -/
namespace Sys2Proof.Machine

section
variable {s t : State}

/-! ## Shutdown steps -/

/-- R111: HALTED and the shutdown steps. -/
def SeqState.shutting (st : SeqState) : Prop := st ≠ .running ∧ st.restarting = false

/-- No demand moves a sequencer that shuts down. -/
theorem SeqState.shutting.apart {st : SeqState} (h : st.shutting) : st.apart := by
  refine ⟨h.1, ?_⟩
  rintro rfl
  exact Bool.noConfusion h.2

/-- R111: the sequencer shuts down, and FEED is off where a shutdown has begun. -/
def Stopped (p : Prop) (s : State) : Prop := s.sequencer.state.shutting ∧ (p → s.sequencer.outputs.feed = false)

/-- R111: the entry to a state that shuts down. -/
theorem stopped_setSequencer {st : SeqState} (h : st.shutting) (p : Prop) (s : State) :
    Stopped p (setSequencer st s) := by
  refine ⟨h, fun _ => ?_⟩
  have hfeed : (setSequencer st s).sequencer.outputs.feed
      = (s.cfg.roles.feed && decide (st = .running) && !s.sequencer.feedHold) := rfl
  rw [hfeed]
  simp [h.1]

/-- R113: the entry to a shutdown step, which may lead on. -/
theorem stopped_enterStep {st : SeqState} (h : st.shutting) {p : Prop} {inRole : Bool} {limit : Nat} {confirmed : Bool}
    {next : State → State} (hnext : ∀ s, Stopped p (next s)) (s : State) :
    Stopped p (enterStep st inRole limit confirmed next s) := by
  have hentered := stopped_setSequencer h p s
  unfold enterStep
  dsimp only
  (repeat' split)
  · exact hnext _
  · exact hnext _
  · exact hentered

variable {p : Prop}

/-- R118: HALTED. -/
theorem stopped_enterHalted (cause : HaltedCause) (s : State) : Stopped p (enterHalted cause s) :=
  stopped_setSequencer (st := .halted) ⟨nofun, rfl⟩ p s

/-- Section 6.3.2: DAMPER_CLOSING. -/
theorem stopped_enterDamperClosing (s : State) : Stopped p (enterDamperClosing s) :=
  stopped_enterStep (st := .damperClosing) ⟨nofun, rfl⟩ (stopped_enterHalted .shutdown) s

/-- R117: FAN_STOPPING. -/
theorem stopped_enterFanStopping (s : State) : Stopped p (enterFanStopping s) :=
  stopped_enterStep (st := .fanStopping) ⟨nofun, rfl⟩ stopped_enterDamperClosing s

/-- R116: RUN_ON. -/
theorem stopped_enterRunOn (s : State) : Stopped p (enterRunOn s) :=
  stopped_enterStep (st := .runOn) ⟨nofun, rfl⟩ stopped_enterFanStopping s

/-- Section 6.3.2: VENTING. -/
theorem stopped_enterVenting (s : State) : Stopped p (enterVenting s) :=
  stopped_enterStep (st := .venting) ⟨nofun, rfl⟩ stopped_enterRunOn s

/-- R112: FEED_STOPPING. -/
theorem stopped_enterFeedStopping (s : State) : Stopped p (enterFeedStopping s) :=
  stopped_enterStep (st := .feedStopping) ⟨nofun, rfl⟩ stopped_enterVenting s

/-- R127: the step that undoes a restart. -/
theorem stopped_reversalStep {st : SeqState} (h : st.restarting = true) (s : State) :
    Stopped p (reversalStep st s) := by
  cases st with
  | feedWait => exact stopped_enterVenting s
  | gateReturning => exact stopped_enterVenting s
  | fanStarting => exact stopped_enterFanStopping s
  | damperOpening => exact stopped_enterDamperClosing s
  | _ => exact Bool.noConfusion h

/-- R112, R116, R127: a home view of HALT or FIRE leaves a sequencer that shuts down. -/
theorem sequencerNotice_stops {view : Level} (h : Level.le .halt view = true) (s : State) :
    Stopped (s.sequencer.state = .running ∨ s.sequencer.outputs.feed = false) (sequencerNotice view s) := by
  rw [sequencerNotice, if_pos h]
  (repeat' split)
  · exact stopped_enterFeedStopping _
  · next hrestarting => exact stopped_reversalStep hrestarting _
  · next hrunOn =>
    rw [completeStep, hrunOn.1]
    exact stopped_enterFanStopping _
  · next hrunning hrestarting _ => exact ⟨⟨hrunning, by simpa using hrestarting⟩, fun h => h.resolve_left hrunning⟩

/-- R119: no home view moves a sequencer that shuts down but to shut it down further. -/
theorem stopped_sequencerNotice (hs : Stopped p s) (view : Level) : Stopped p (sequencerNotice view s) := by
  by_cases h : Level.le .halt view = true
  · obtain ⟨hshutting, hfeed⟩ := sequencerNotice_stops h s
    exact ⟨hshutting, fun hp => hfeed (.inr (hs.2 hp))⟩
  · rwa [sequencerNotice, if_neg h]

/-- R134, R147: doors and sirens leave a sequencer that shuts down. -/
theorem stopped_plantNotices (hs : Stopped p s) (z : Nat) (view : Level) : Stopped p (plantNotices z view s) := by
  have hcourse := keepsCourse_plantNotices z view s hs.1.apart
  refine ⟨by rw [state_of_course hcourse]; exact hs.1, fun hp => ?_⟩
  have hfeed : (plantNotices z view s).sequencer.outputs = s.sequencer.outputs := (congrArg Sequencer.outputs hcourse :)
  rw [hfeed]
  exact hs.2 hp

/-- R103: once the sequencer shuts down, every notice leaves it so. -/
theorem stopped_notifyView (hs : Stopped p s) (z : Nat) (old new : Level) : Stopped p (notifyView z old new s) := by
  by_cases hz : z = s.cfg.homeZone
  · have hflush : Stopped p (flushAsked old new s) := by
      unfold flushAsked
      split
      · exact hs
      · exact hs
    rw [hz, notifyView_home]
    exact stopped_plantNotices (stopped_sequencerNotice hflush new) _ _
  · rw [notifyView_other hz]
    exact stopped_plantNotices hs _ _

/-- R119: once the sequencer shuts down, every recount leaves it so. -/
theorem recountKeeps_stopped (p : Prop) : RecountKeeps (Stopped p) where
  zone _ _ _ _ hs := hs
  post _ _ _ _ _ _ hs := hs
  notify z old new _ hs := stopped_notifyView hs z old new
  vote _ hs := hs
  halted _ hs := hs

/-! ## Doors out of HELD -/

/-- A door other than HELD. -/
def DoorAway (d : Fin 2) (s : State) : Prop := (s.doors.get d).state ≠ .held

/-- R133: the entry to a state other than HELD. -/
theorem doorAway_setDoor {d : Fin 2} (e : Fin 2) {st : DoorState} (hst : st ≠ .held) (cause : Nat)
    (hs : DoorAway d s ∨ d = e) : DoorAway d (setDoor e st cause s) := by
  obtain ⟨honly, hdoor⟩ := setDoor_leaves e st cause s
  by_cases hde : d = e
  · subst hde
    rw [DoorAway, hdoor]
    exact hst
  · rw [DoorAway, honly.other hde]
    exact hs.resolve_right hde

/-- R139: a door that closes. -/
theorem doorAway_closeDoor {d : Fin 2} (e : Fin 2) (hs : DoorAway d s) : DoorAway d (closeDoor e s) := by
  have hclosed := doorAway_setDoor e (st := .closed) nofun 5 (.inl hs)
  unfold closeDoor
  dsimp only
  split
  · exact hclosed
  · exact doorAway_setDoor e (st := .armed) nofun 7 (.inl hclosed)

/-- R138: a door that is released. -/
theorem doorAway_releaseDoor {d : Fin 2} (e : Fin 2) (cause : Nat) (hs : DoorAway d s ∨ d = e) :
    DoorAway d (releaseDoor e cause s) := by
  have hreleased := doorAway_setDoor e (st := .released) nofun cause hs
  unfold releaseDoor
  dsimp only
  split
  · exact doorAway_closeDoor e hreleased
  · exact hreleased

/-- R136: a door that clears. -/
theorem doorAway_clearDoor {d : Fin 2} (e : Fin 2) (hs : DoorAway d s ∨ d = e) : DoorAway d (clearDoor e s) := by
  have hclearing := doorAway_setDoor e (st := .clearing) nofun 1 hs
  unfold clearDoor
  dsimp only
  (repeat' split)
  · exact doorAway_releaseDoor e 2 (.inl hclearing)
  · exact doorAway_releaseDoor e 3 (.inl hclearing)
  · exact hclearing

/-- R138, R139: the release of a door reaches that door alone. -/
theorem doorOnly_releaseDoor (d : Fin 2) (cause : Nat) (s : State) : DoorOnly d s (releaseDoor d cause s) := by
  have hset (st : DoorState) (cause : Nat) (r : State) : DoorOnly d r (setDoor d st cause r) :=
    (setDoor_leaves d st cause r).1
  unfold releaseDoor closeDoor
  dsimp only
  (repeat' split)
  · exact (hset .released cause s).trans (hset .closed 5 _)
  · exact ((hset .released cause s).trans (hset .closed 5 _)).trans (hset .armed 7 _)
  · exact hset .released cause s

/-- R136: the clearing of a door reaches that door alone. -/
theorem doorOnly_clearDoor (d : Fin 2) (s : State) : DoorOnly d s (clearDoor d s) := by
  have hclearing : DoorOnly d s (setDoor d .clearing 1 s) := (setDoor_leaves d .clearing 1 s).1
  unfold clearDoor
  dsimp only
  (repeat' split)
  · exact hclearing.trans (doorOnly_releaseDoor d 2 _)
  · exact hclearing.trans (doorOnly_releaseDoor d 3 _)
  · exact hclearing

/-- R134: a notice of a view at a door reaches that door alone. -/
theorem doorOnly_doorNotice (z : Nat) (view : Level) (d : Fin 2) (s : State) :
    DoorOnly d s (doorNotice z view d s) := by
  let t : State :=
    { s with doors := s.doors.set d { s.doors.get d with views := setView z view (s.doors.get d).views } }
  have hviews : DoorOnly d s t := ⟨rfl, by simp [t]⟩
  unfold doorNotice
  dsimp only
  (repeat' split)
  · exact hviews.trans (doorOnly_clearDoor d t)
  · exact hviews.trans (doorOnly_releaseDoor d 1 t)
  · exact hviews.trans (doorOnly_releaseDoor d 1 t)
  · exact hviews
  · exact hviews.trans (setDoor_leaves d .armed 7 t).1
  · exact hviews
  · exact ⟨rfl, by rw [Pair.set_get]⟩

/-- R134: no notice leads into HELD. -/
theorem doorAway_doorNotice {d : Fin 2} (hs : DoorAway d s) (z : Nat) (view : Level) (e : Fin 2) :
    DoorAway d (doorNotice z view e s) := by
  let t : State :=
    { s with doors := s.doors.set e { s.doors.get e with views := setView z view (s.doors.get e).views } }
  have hviews : DoorAway d t := by
    by_cases hde : d = e
    · subst hde
      simpa [DoorAway, t] using hs
    · rw [DoorAway]
      dsimp only [t]
      rwa [Pair.get_set_other _ _ hde]
  unfold doorNotice
  dsimp only
  (repeat' split)
  · exact doorAway_clearDoor e (.inl hviews)
  · exact doorAway_releaseDoor e 1 (.inl hviews)
  · exact doorAway_releaseDoor e 1 (.inl hviews)
  · exact hviews
  · exact doorAway_setDoor e (st := .armed) nofun 7 (.inl hviews)
  · exact hviews
  · exact hs

/-- R134: a door that watches the zone and is told of FIRE stands at FIRE. -/
theorem any_setView_fire {z : Nat} {views : List (Nat × Level)} (h : watches z views = true) :
    (setView z .fire views).any (fun e => decide (e.2 = .fire)) = true := by
  obtain ⟨e, he, hz⟩ := List.any_eq_true.1 h
  refine List.any_eq_true.2 ⟨(z, .fire), List.mem_map.2 ⟨e, he, ?_⟩, rfl⟩
  exact if_pos (of_decide_eq_true hz)

/-- R134: a door that watches the zone leaves HELD at FIRE. -/
theorem doorNotice_fire {z : Nat} {d : Fin 2} (h : watches z (s.doors.get d).views = true) :
    DoorAway d (doorNotice z .fire d s) := by
  unfold doorNotice
  dsimp only
  rw [if_pos h, if_pos (by exact any_setView_fire h)]
  split
  · split
    · exact doorAway_clearDoor d (.inr rfl)
    · exact doorAway_releaseDoor d 1 (.inr rfl)
  · next hstate =>
    split
    · exact doorAway_releaseDoor d 1 (.inr rfl)
    · simpa [DoorAway] using hstate

/-- R147: a notice of a view at a siren leaves the doors. -/
theorem doors_sirenNotice (z : Nat) (view : Level) (i : Fin 2) (s : State) :
    (sirenNotice z view i s).doors = s.doors := by
  simp

/-- R134: no notice at doors and sirens leads into HELD. -/
theorem doorAway_plantNotices {d : Fin 2} (hs : DoorAway d s) (z : Nat) (view : Level) :
    DoorAway d (plantNotices z view s) := by
  have hdoors : (plantNotices z view s).doors = (doorNotice z view 1 (doorNotice z view 0 s)).doors := by
    rw [plantNotices, doors_sirenNotice, doors_sirenNotice]
  rw [DoorAway, hdoors]
  exact doorAway_doorNotice (doorAway_doorNotice hs z view 0) z view 1

/-- R134: at FIRE every door that watches the zone leaves HELD. -/
theorem plantNotices_fire {z : Nat} {d : Fin 2} (h : watches z (s.doors.get d).views = true) :
    DoorAway d (plantNotices z .fire s) := by
  have hdoors : (plantNotices z .fire s).doors = (doorNotice z .fire 1 (doorNotice z .fire 0 s)).doors := by
    rw [plantNotices, doors_sirenNotice, doors_sirenNotice]
  rw [DoorAway, hdoors]
  have hd : d = 0 ∨ d = 1 := by omega
  obtain rfl | rfl := hd
  · exact doorAway_doorNotice (doorNotice_fire h) z .fire 1
  · refine doorNotice_fire ?_
    rwa [(doorOnly_doorNotice z .fire 0 s).other (by decide)]

/-- R134: no recount leads a door into HELD. -/
theorem recountKeeps_doorAway (d : Fin 2) : RecountKeeps (DoorAway d) where
  zone _ _ _ _ hs := hs
  post _ _ _ _ _ _ hs := hs
  notify z old new s hs := by
    by_cases hz : z = s.cfg.homeZone
    · have hnoticed : DoorAway d (sequencerNotice new (flushAsked old new s)) := by
        have hdoors : (sequencerNotice new (flushAsked old new s)).doors = s.doors := by
          rw [(sequencerNotice_frame new (flushAsked old new s)).2.2.2.2.2.2.2.2.2.2.2.1]
          unfold flushAsked
          split <;> rfl
        rwa [DoorAway, hdoors]
      rw [hz, notifyView_home]
      exact doorAway_plantNotices hnoticed _ _
    · rw [notifyView_other hz]
      exact doorAway_plantNotices hs _ _
  vote _ hs := hs
  halted _ hs := hs

end

end Sys2Proof.Machine
end

section
/-! PROOF. A flame head (R94, R95, R102, R112, R134): the settlement of O49. -/
namespace Sys2Proof.Machine

section
variable {s t : State} {v : Vote}

/-! ## A latched vote of FIRE -/

/-- R95: a vote stands latched and in force. -/
def InForce (v : Vote) (s : State) : Prop := s.zones.latched = some v ∧ s.zones.own = v

/-- R95: a latched vote of FIRE stays through every momentary vote. -/
theorem inForce_votesTaken (hfire : v.level = .fire) (h : s.zones.latched = some v) : InForce v (votesTaken s) := by
  have hlatch : latchVote (momentaryVote s) (some v) = some v := by
    unfold latchVote
    dsimp only
    rw [hfire]
    cases (momentaryVote s).level <;> rfl
  have hown : ownVoteOf (momentaryVote s) (some v) = v := by
    unfold ownVoteOf
    dsimp only
    rw [hfire]
    cases (momentaryVote s).level <;> rfl
  constructor
  · change latchVote (momentaryVote s) s.zones.latched = some v
    rw [h, hlatch]
  · change ownVoteOf (momentaryVote s) (latchVote (momentaryVote s) s.zones.latched) = v
    rw [h, hlatch, hown]

/-- R95: no recount takes a latched FIRE vote out of force. -/
theorem recountKeeps_inForce (hfire : v.level = .fire) : RecountKeeps (InForce v) where
  zone _ _ _ _ hs := hs
  post _ _ _ _ _ _ hs := hs
  notify z old new s hs := by
    obtain ⟨-, -, -, -, -, -, -, -, -, -, hzones, -⟩ := notifyView_frame z old new s
    rwa [InForce, hzones]
  vote _ hs := hs
  halted _ hs := inForce_votesTaken hfire hs.1

/-- R71: a vote in force waits on the line. -/
def OwnWaits (v : Vote) (s : State) : Prop := InForce v s ∧ s.line.waits (.vote s.cfg.homeZone v) = true

/-- R71: the own vote waits once it is handed over. -/
theorem ownWaits_handVote (h : InForce v s) : OwnWaits v (handVote s.zones.own s) := by
  refine ⟨h, ?_⟩
  have hown : s.zones.own = v := h.2
  rw [hown]
  exact waits_judgeGap (waits_iff.2 (.inl (mem_handOver_self _ _)))

/-- R71, R95: no recount takes a latched FIRE vote out of force or off the line. -/
theorem recountKeeps_ownWaits (hfire : v.level = .fire) : RecountKeeps (OwnWaits v) where
  zone _ _ _ _ hs := hs
  post _ _ _ _ _ _ hs := hs
  notify z old new s hs := by
    obtain ⟨-, -, hconfig, -, -, -, -, -, hline, -, hzones, -⟩ := notifyView_frame z old new s
    rwa [OwnWaits, InForce, State.cfg, hzones, hline, hconfig]
  vote _ hs := ownWaits_handVote hs.1
  halted _ hs := ⟨inForce_votesTaken hfire hs.1.1, hs.2⟩

/-! ## The zones of the table -/

/-- R97: the zones of the table stay as they are. -/
theorem recountKeeps_zones (l : List Nat) (c : Option ConfigSet) :
    RecountKeeps (fun s => s.zones.zones.map Zone.zone = l ∧ s.config = c) where
  zone s z old hold hs := by
    refine ⟨?_, hs.2⟩
    have hzone : ∀ r : Zone, (if r.zone = z then recountRecord s old else r).zone = r.zone := by
      intro r
      split
      · next h => rw [zone_recountRecord, zone_of_zoneRecord hold, h]
      · rfl
    change (s.zones.zones.map _).map Zone.zone = l
    rw [List.map_map, ← hs.1]
    exact List.map_congr_left fun r _ => hzone r
  post _ _ _ _ _ _ hs := hs
  notify z old new s hs := by
    obtain ⟨-, -, hconfig, -, -, -, -, -, -, -, hzones, -⟩ := notifyView_frame z old new s
    rwa [hzones, hconfig]
  vote _ hs := hs
  halted _ hs := hs

/-- R97: the home view is that of the home zone's record. -/
theorem zoneRecord_home (h : (s.zones.zones.map Zone.zone).head? = some s.cfg.homeZone) :
    ∃ r, s.zoneRecord s.cfg.homeZone = some r ∧ s.homeView = r.view := by
  cases hzones : s.zones.zones with
  | nil => simp [hzones] at h
  | cons r rest =>
    have hr : r.zone = s.cfg.homeZone := by simpa [hzones] using h
    refine ⟨r, ?_, ?_⟩
    · simp [State.zoneRecord, hzones, hr]
    · rw [State.homeView, hzones]

/-- R98, R103: a recount whose record changes its view goes on from the notices. -/
theorem RecountKeeps.afterNotice {P : State → Prop} (h : RecountKeeps P) {z : Nat} {old : Zone}
    (hold : s.zoneRecord z = some old) (hview : (recountRecord s old).view ≠ old.view)
    (hnoticed : P (notifyView z old.view (recountRecord s old).view
      (Machine.post .zoneLevel z (levelCode (recountRecord s old).view) (levelCode old.view)
        (flagLatchChanged (decide ((recountRecord s old).latched ≠ old.latched)))
        (updateZone z (fun _ => recountRecord s old) s)))) : P (Machine.recountZone z s) := by
  rw [Machine.recountZone, Machine.recountZoneWith, hold]
  dsimp only
  rw [if_neg hview]
  split
  · exact h.reportHalted hnoticed
  · exact hnoticed

/-! ## FIRE by the flame head -/

/-- R94: a flame head makes the momentary vote FIRE. -/
theorem momentaryVote_flame (h : s.flame = true) : momentaryVote s = ⟨.fire, .flame⟩ := by
  simp [momentaryVote, voteLines, h]

/-- R95: with a momentary vote of FIRE a vote of FIRE stands in force. -/
theorem votesTaken_fire (h : momentaryVote s = ⟨.fire, .flame⟩) :
    ∃ v : Vote, v.level = .fire ∧ InForce v (votesTaken s) := by
  have hkept (l : Vote) (hl : s.zones.latched = some l) (hfire : l.level = .fire) : InForce l (votesTaken s) :=
    inForce_votesTaken hfire hl
  have hlatches (hl : latchVote ⟨.fire, .flame⟩ s.zones.latched = some ⟨.fire, .flame⟩) :
      InForce ⟨.fire, .flame⟩ (votesTaken s) := by
    have hlatched : (votesTaken s).zones.latched = some ⟨.fire, .flame⟩ := by
      change latchVote (momentaryVote s) s.zones.latched = _
      rw [h, hl]
    refine ⟨hlatched, ?_⟩
    change ownVoteOf (momentaryVote s) (votesTaken s).zones.latched = _
    rw [hlatched, h]
    rfl
  cases hl : s.zones.latched with
  | none => exact ⟨_, rfl, hlatches (by rw [hl]; rfl)⟩
  | some l =>
    by_cases hfire : l.level = .fire
    · exact ⟨l, hfire, hkept l hl hfire⟩
    · refine ⟨_, rfl, hlatches ?_⟩
      have hbelow : Level.lt l.level .fire = true := by
        cases hlevel : l.level with
        | fire => exact absurd hlevel hfire
        | _ => rfl
      rw [hl]
      exact (if_pos rfl).trans (if_pos hbelow)

/-- R103: the home view's flush and the sequencer leave the doors. -/
theorem doors_homeNotice (old new : Level) (s : State) :
    (sequencerNotice new (flushAsked old new s)).doors = s.doors := by
  have hflush : (flushAsked old new s).doors = s.doors := by
    unfold flushAsked
    split <;> rfl
  rw [(sequencerNotice_frame new (flushAsked old new s)).2.2.2.2.2.2.2.2.2.2.2.1, hflush]

/-- R112, R127: a home view of FIRE stops the sequencer. -/
theorem notifyView_fire_stops (old : Level) (s : State) :
    Stopped (s.sequencer.state = .running) (notifyView s.cfg.homeZone old .fire s) := by
  have hflush : (flushAsked old .fire s).sequencer = s.sequencer := by
    unfold flushAsked
    split <;> rfl
  obtain ⟨hshutting, hfeed⟩ := sequencerNotice_stops (view := .fire) rfl (flushAsked old .fire s)
  rw [hflush] at hfeed
  rw [notifyView_home]
  exact stopped_plantNotices ⟨hshutting, fun hrunning => hfeed (.inl hrunning)⟩ _ _

/-- R134: a home view of FIRE takes the doors that watch it out of HELD. -/
theorem notifyView_fire_releases (old : Level) {d : Fin 2} (h : watches s.cfg.homeZone (s.doors.get d).views = true) :
    DoorAway d (notifyView s.cfg.homeZone old .fire s) := by
  rw [notifyView_home]
  refine plantNotices_fire ?_
  rwa [doors_homeNotice]

/-- R102, R112, R134: an own vote of FIRE that is new stands at FIRE, stops the plant and takes the home doors out of
HELD. -/
theorem recountOwn_fire (hzones : HomeFirst s) (hview : s.homeView ≠ .fire) (hfire : v.level = .fire)
    (hforce : InForce v (votesTaken s)) (hnew : s.zones.own ≠ v) :
    OwnWaits v (recountOwn s) ∧ StandsAtFire s.cfg.homeZone (recountOwn s)
      ∧ Stopped (s.sequencer.state = .running) (recountOwn s)
      ∧ ∀ d, watches s.cfg.homeZone (s.doors.get d).views = true → DoorAway d (recountOwn s) := by
  let w := postVote (handVote (votesTaken s).zones.own (votesTaken s))
  obtain ⟨r, hold, hr⟩ := zoneRecord_home hzones.1
  have hold' : w.zoneRecord s.cfg.homeZone = some r := hold
  have hchanged : (votesTaken s).zones.own ≠ s.zones.own := by
    rw [hforce.2]
    exact hnew.symm
  have hrecount : recountOwn s = recountZone s.cfg.homeZone w := if_neg hchanged
  have hlevel : zoneVoteLevel w r (votesAt w r.zone .watch) (votesAt w r.zone .halt) (votesAt w r.zone .fire)
      (effectiveQuorum w (membersOf w r.zone)) = .fire := by
    have hown : w.zones.own.level = .fire := by
      change (votesTaken s).zones.own.level = .fire
      rw [hforce.2, hfire]
    exact if_pos (.inr (.inr ⟨zone_of_zoneRecord hold', hown⟩))
  obtain ⟨hfireView, hfireLatched⟩ := recountRecord_fire (.inl hlevel)
  have hrises : (recountRecord w r).view ≠ r.view := by
    rw [hfireView, ← hr]
    exact hview.symm
  have hwaits : OwnWaits v w := ownWaits_handVote (s := votesTaken s) hforce
  let u := post .zoneLevel s.cfg.homeZone (levelCode (recountRecord w r).view) (levelCode r.view)
    (flagLatchChanged (decide ((recountRecord w r).latched ≠ r.latched)))
    (updateZone s.cfg.homeZone (fun _ => recountRecord w r) w)
  have hframe : u.sequencer = s.sequencer ∧ u.doors = s.doors ∧ u.cfg.homeZone = s.cfg.homeZone := by
    simp [u, w, State.cfg, votesTaken, updateZone, postVote]
  obtain ⟨hsequencer, hdoors, hhome⟩ := hframe
  rw [hrecount]
  refine ⟨?_, ?_, ?_, fun d hd => ?_⟩
  · exact (recountKeeps_ownWaits hfire).recountZone _ hwaits
  · have hstands := recountKeeps_standsAtFire s.cfg.homeZone
    refine hstands.afterRecord (fun _ ht => hstands.reportHalted ht) hold' ?_
    rw [StandsAtFire, zoneRecord_recounted hold', if_pos rfl]
    exact ⟨_, rfl, hfireView, hfireLatched⟩
  · refine (recountKeeps_stopped (s.sequencer.state = .running)).afterNotice hold' hrises ?_
    have hstops := notifyView_fire_stops r.view u
    rwa [hsequencer, hhome, ← hfireView] at hstops
  · refine (recountKeeps_doorAway d).afterNotice hold' hrises ?_
    have hreleases := notifyView_fire_releases (s := u) (d := d) r.view (by rwa [hdoors, hhome])
    rwa [hhome, ← hfireView] at hreleases

end

/-- Settles O49: a flame head makes the own vote FIRE, whose recount stops the plant; a latched FIRE vote stays. -/
theorem flameStopsThePlant : Obligations.FlameStopsThePlant := by
  have hexec {i : Fin 2} {active : Bool} {s : State} (hover : s.handedOver = true) (ho : s.operating = true)
      (hlevel : s.level (fhInput i) = !active) :
      exec (.fhChange i active) s = .next (recountOwn (setLevel (fhInput i) active s)) := by
    refine congrArg Host.Outcome.next ((takeContact_read hover hlevel (.inl ho)).trans ?_)
    fin_cases i <;> rfl
  have hcascade {i : Fin 2} {active : Bool} {s : State} (ho : s.operating = true) :
      Leads .cascade (setLevel (fhInput i) active s) (recountOwn (setLevel (fhInput i) active s)) :=
    leads_recountOwn .refl (by exact operating_iff.1 ho)
  refine ⟨fun i s hover ho hlevel hzones hown hview => ⟨_, hexec hover ho hlevel, ?_⟩,
    fun i s v hover ho hlevel hlatched hfire => ⟨_, hexec hover ho hlevel, ?_⟩⟩
  · let u := setLevel (fhInput i) true s
    have hflame : u.flame = true := by
      have hset : u.level (fhInput i) = true := level_setLevel_same _ _ _
      unfold State.flame
      fin_cases i
      · simpa using .inl hset
      · simpa using .inr hset
    obtain ⟨v, hfire, hforce⟩ := votesTaken_fire (momentaryVote_flame hflame)
    have hnew : u.zones.own ≠ v := fun h => hown (congrArg Vote.level h |>.trans hfire)
    obtain ⟨⟨⟨-, hforce'⟩, hwaits⟩, ⟨r, hr, hrview, -⟩, ⟨hshutting, hfeed⟩, hdoors⟩ :=
      recountOwn_fire (s := u) hzones hview hfire hforce hnew
    have hmomentary : (recountOwn u).zones.momentary = momentaryVote (recountOwn u) :=
      recountKeeps_momentary.recountOwn (s := u) (momentaryVote_congr rfl rfl rfl rfl rfl rfl rfl).symm
    have hinputs : (recountOwn u).inputs = u.inputs := recountOwn_keeps steady_inputs u
    have hflame' : (recountOwn u).flame = true := by
      simpa only [State.flame, State.level, hinputs] using hflame
    obtain ⟨hsame, hconfig⟩ :=
      (recountKeeps_zones (s.zones.zones.map Zone.zone) s.config).recountOwn (s := u) ⟨rfl, rfl⟩
    have hhome : (recountOwn u).cfg.homeZone = s.cfg.homeZone := by rw [State.cfg, hconfig, State.cfg]
    obtain ⟨r', hr', hrview'⟩ := zoneRecord_home (s := recountOwn u) (by rw [hsame, hhome]; exact hzones.1)
    rw [hhome] at hr'
    obtain rfl : r = r' := Option.some.inj (hr.symm.trans hr')
    have hcfg : (recountOwn u).cfg = s.cfg := by rw [State.cfg, hconfig, State.cfg]
    refine ⟨hmomentary.trans (momentaryVote_flame hflame'), ?_, hrview'.trans hrview, ?_, hshutting.1, hshutting.2,
      fun hrunning => hfeed hrunning, hdoors, (hcascade ho).eq_withZonesOf⟩
    · rw [hforce', hfire]
    · rw [hforce', ← hcfg]
      exact hwaits
  · obtain ⟨hlatched', hown⟩ := (recountKeeps_inForce hfire).recountOwn
      (inForce_votesTaken (s := setLevel (fhInput i) false s) hfire hlatched)
    exact ⟨hlatched', hown, (hcascade ho).eq_withZonesOf⟩

end Sys2Proof.Machine
end

section
/-! PROOF. The steps of the extraction sequencer (R113 to R118, R126): the settlement of O50. -/
namespace Sys2Proof.Machine

/-- R110, R113: how far a sequence has come: the shutdown steps to HALTED, and the restart steps to RUNNING. -/
def SeqState.place : SeqState → Nat
  | .feedStopping => 1 | .venting => 2 | .runOn => 3 | .fanStopping => 4 | .damperClosing => 5 | .halted => 6
  | .damperOpening => 7 | .fanStarting => 8 | .gateReturning => 9 | .feedWait => 10 | .running => 11

section
variable {s t : State} {k : Nat}

/-! ## A step that ends leads on -/

/-- The sequencer has come at least so far. -/
def Reached (k : Nat) (s : State) : Prop := k ≤ s.sequencer.state.place

/-- R113: the entry to a step, which may lead on. -/
theorem reached_enterStep {st : SeqState} (hst : k ≤ st.place) {inRole : Bool} {limit : Nat} {confirmed : Bool}
    {next : State → State} (hnext : ∀ s, Reached (st.place + 1) (next s)) (s : State) :
    Reached k (enterStep st inRole limit confirmed next s) := by
  have hafter (r : State) : Reached k (next r) := le_trans (by omega) (hnext r)
  unfold enterStep
  dsimp only
  (repeat' split)
  · exact hafter _
  · exact hafter _
  · exact hst

/-- R118: HALTED. -/
theorem reached_enterHalted (cause : HaltedCause) (s : State) : Reached 6 (enterHalted cause s) := le_refl 6

/-- Section 6.3.2: DAMPER_CLOSING. -/
theorem reached_enterDamperClosing (s : State) : Reached 5 (enterDamperClosing s) :=
  reached_enterStep (st := .damperClosing) le_rfl (reached_enterHalted .shutdown) s

/-- R117: FAN_STOPPING. -/
theorem reached_enterFanStopping (s : State) : Reached 4 (enterFanStopping s) :=
  reached_enterStep (st := .fanStopping) le_rfl reached_enterDamperClosing s

/-- R116: RUN_ON. -/
theorem reached_enterRunOn (s : State) : Reached 3 (enterRunOn s) :=
  reached_enterStep (st := .runOn) le_rfl reached_enterFanStopping s

/-- Section 6.3.2: VENTING. -/
theorem reached_enterVenting (s : State) : Reached 2 (enterVenting s) :=
  reached_enterStep (st := .venting) le_rfl reached_enterRunOn s

/-- R128: FEED_WAIT. -/
theorem reached_enterFeedWait (s : State) : Reached 10 (enterFeedWait s) := by
  unfold enterFeedWait
  dsimp only
  (repeat' split)
  · exact Nat.le_succ 10
  · exact Nat.le_succ 10
  · exact le_refl 10

/-- R125: GATE_RETURNING. -/
theorem reached_enterGateReturning (s : State) : Reached 9 (enterGateReturning s) :=
  reached_enterStep (st := .gateReturning) le_rfl reached_enterFeedWait s

/-- R126: FAN_STARTING. -/
theorem reached_enterFanStarting (s : State) : Reached 8 (enterFanStarting s) :=
  reached_enterStep (st := .fanStarting) le_rfl reached_enterGateReturning s

/-- R113: a step that ends leads on. -/
theorem reached_nextStep {st : SeqState} (h : st ≠ .halted) (h' : st ≠ .running) (s : State) :
    Reached (st.place + 1) (nextStep st s) := by
  cases st with
  | running => exact absurd rfl h'
  | feedStopping => exact reached_enterVenting s
  | venting => exact reached_enterRunOn s
  | runOn => exact reached_enterFanStopping s
  | fanStopping => exact reached_enterDamperClosing s
  | damperClosing => exact reached_enterHalted .shutdown s
  | halted => exact absurd rfl h
  | damperOpening => exact reached_enterFanStarting s
  | fanStarting => exact reached_enterGateReturning s
  | gateReturning => exact reached_enterFeedWait s
  | feedWait => exact le_refl 11

/-- R113: a sequencer that has come further is in another state. -/
theorem Reached.ne {st : SeqState} (h : Reached (st.place + 1) s) : s.sequencer.state ≠ st := by
  rintro rfl
  exact absurd h (Nat.not_succ_le_self _)

/-! ## The report of HALTED -/

/-- R113, R118: a report of HALTED leaves the sequencer in another state than before. -/
theorem reportingHalt_leaves {f : State → State} (h : (f s).sequencer.state ≠ s.sequencer.state)
    : (reportingHalt f s).sequencer.state ≠ s.sequencer.state := by
  unfold reportingHalt
  split
  · next hended =>
    simp only [endedShutdown, Bool.and_eq_true, decide_eq_true_eq] at hended
    obtain ⟨⟨hnot, hhalted⟩, -⟩ := hended
    rw [state_reportHalted_halted hhalted]
    exact hnot.symm
  · exact h

/-- R118: without an end of a shutdown nothing is reported. -/
theorem reportingHalt_of_not_halted {f : State → State}
    (h : (f s).sequencer.state ≠ .halted ∨ (f s).sequencer.haltedCause ≠ some .shutdown) : reportingHalt f s = f s := by
  refine if_neg ?_
  simp only [endedShutdown, Bool.and_eq_true, decide_eq_true_eq]
  rintro ⟨⟨-, hhalted⟩, hcause⟩
  obtain h | h := h
  · exact h hhalted
  · exact h hcause

/-- R119: HALTED with its cause, its outputs and no step timer, and the instant of its entry. -/
def HaltedSince (c : Sequencer) (time : Instant) (s : State) : Prop :=
  s.course = c ∧ s.time = time ∧ s.zones.haltedAt = some time

/-- R119: no recount changes HALTED. -/
theorem recountKeeps_haltedSince {c : Sequencer} (hc : c.state = .halted) (time : Instant) :
    RecountKeeps (HaltedSince c time) where
  zone _ _ _ _ hs := hs
  post _ _ _ _ _ _ hs := hs
  notify z old new s hs := by
    obtain ⟨hcourse, htime, hhalted⟩ := hs
    have hstate : s.sequencer.state = .halted := (congrArg Sequencer.state hcourse :).trans hc
    obtain ⟨htime', -, -, -, -, -, -, -, -, -, hzones, -⟩ := notifyView_frame z old new s
    refine ⟨?_, htime'.trans htime, by rw [hzones, hhalted]⟩
    by_cases hz : z = s.cfg.homeZone
    · have hflush : (flushAsked old new s).sequencer = s.sequencer := by
        unfold flushAsked
        split <;> rfl
      have hhalted' : (flushAsked old new s).sequencer.state = .halted := by rw [hflush, hstate]
      rw [hz, notifyView_home, sequencerNotice_halted hhalted']
      refine (keepsCourse_plantNotices _ _ _ (by rw [hhalted']; exact ⟨nofun, nofun⟩)).trans ?_
      rw [State.course, hflush]
      exact hcourse
    · rw [notifyView_other hz]
      exact (keepsCourse_plantNotices _ _ _ (by rw [hstate]; exact ⟨nofun, nofun⟩)).trans hcourse
  vote _ hs := hs
  halted s hs := ⟨hs.1, hs.2.1, congrArg some hs.2.1⟩

/-- R118: the report of HALTED. -/
theorem reportHalted_haltedSince (h : s.sequencer.state = .halted) : HaltedSince s.course s.time (reportHalted s) :=
  (recountKeeps_haltedSince (c := s.course) h s.time).recountOwnWith (fun _ ht => ht) ⟨rfl, rfl, rfl⟩

/-! ## Outputs (R111) -/

/-- R111: the outputs in VENTING. -/
theorem seqOutputs_venting (roles : Roles) (hold : Bool) :
    seqOutputs roles .venting hold = ⟨false, false, roles.fan, roles.damper⟩ := by
  change (⟨roles.feed && false && !hold, roles.abort && false, roles.fan && true, roles.damper && true⟩ : SeqOutputs)
    = _
  simp

/-! ## The commands -/

/-- R113: a confirming input that becomes active in operation. -/
theorem exec_confirmInputChange {i : ConfirmInput} (hover : s.handedOver = true) (ho : s.operating = true)
    (hlevel : s.level (confirmInput i) = false) :
    exec (.confirmInputChange i true) s
      = .next (reportingHalt (confirmByInput i) (setLevel (confirmInput i) true s)) := by
  refine congrArg Host.Outcome.next ((takeContact_read hover hlevel (.inl ho)).trans ?_)
  cases i <;> rfl

/-- R113: a confirming input that no step waits on. -/
theorem exec_confirmInputChange_ignored {i : ConfirmInput} {active : Bool} (hover : s.handedOver = true)
    (hlevel : s.level (confirmInput i) ≠ active)
    (hidle : active = true → inputConfirms i s.sequencer.state = false) :
    exec (.confirmInputChange i active) s = .next (setLevel (confirmInput i) active s) := by
  have haction : contactAction (confirmInput i) active (setLevel (confirmInput i) active s)
      = confirmChange i active (setLevel (confirmInput i) active s) := by
    cases i <;> rfl
  refine congrArg Host.Outcome.next (takeContact_ignored hover (Bool.eq_not_of_ne hlevel) (haction.trans ?_))
  cases active with
  | false => rfl
  | true =>
    have hstays : confirmByInput i (setLevel (confirmInput i) true s) = setLevel (confirmInput i) true s :=
      if_neg (by exact Bool.eq_false_iff.1 (hidle rfl))
    have hquiet : endedShutdown (setLevel (confirmInput i) true s) (setLevel (confirmInput i) true s) = false := by
      simp [endedShutdown]
    change reportingHalt (confirmByInput i) (setLevel (confirmInput i) true s) = _
    rw [reportingHalt, hstays, hquiet]
    rfl

/-- R114, R116: an expired step timer in operation. -/
theorem exec_stepTimerExpiry (ho : s.operating = true) (hdue : due s.time s.sequencer.stepTimer = true) :
    exec .stepTimerExpiry s = .next (reportingHalt expireStep s)
      ∧ reportingHalt expireStep s = s.withZonesOf (reportingHalt expireStep s) := by
  have hoperating := operating_iff.1 ho
  refine ⟨congrArg Host.Outcome.next (if_pos (by simp [ho, hdue])), ?_⟩
  have hcascade : Leads .cascade s (reportingHalt expireStep s) :=
    leads_reportingHalt (leads_expireStep .refl hoperating (isSome_of_due hdue)) (by simpa using hoperating)
  exact hcascade.eq_withZonesOf

/-- R113: a confirmation that completes a step. -/
theorem confirmByInput_completes {i : ConfirmInput} (h : inputConfirms i s.sequencer.state = true) :
    Reached (s.sequencer.state.place + 1) (confirmByInput i s) := by
  rw [confirmByInput, if_pos h]
  refine reached_nextStep ?_ ?_ _
  · intro hstate
    rw [hstate] at h
    cases i <;> exact Bool.noConfusion h
  · intro hstate
    rw [hstate] at h
    cases i <;> exact Bool.noConfusion h

/-- R116: the run-on ends without fault. -/
theorem expireStep_runOn (h : s.sequencer.state = .runOn) :
    (expireStep s).sequencer.state ≠ s.sequencer.state ∧ (expireStep s).keyAndFlag = s.keyAndFlag := by
  rw [expireStep, if_pos h, h]
  exact ⟨(reached_enterFanStopping _).ne (st := .runOn), by simp [endRunOn]⟩

/-- R114, R120: an expired step ends in fault. -/
theorem expireStep_faults (h : s.sequencer.state ≠ .runOn) (hrunning : s.sequencer.state ≠ .running)
    (hhalted : s.sequencer.state ≠ .halted) (ho : s.operating = true) :
    (expireStep s).sequencer.state ≠ s.sequencer.state
      ∧ (expireStep s).keyAndFlag = (s.sequencer.key, s.sequencer.unlockDeadline, true, true) := by
  let t := setStepFault true { s with sequencer := { s.sequencer with stepTimer := none } }
  let u := postStep (stepNumber s.sequencer.state) (stepFaultCode s.sequencer.state s.flow.status)
    (sat16 (stepLimit s.cfg s.sequencer.state)) t
  have hflag : u.keyAndFlag = (s.sequencer.key, s.sequencer.unlockDeadline, true, true) := by
    refine (keyAndFlag_setStepFault true { s with sequencer := { s.sequencer with stepTimer := none } }).trans ?_
    rw [if_pos (by exact ho)]
  have hfault : expireStep s
      = if s.sequencer.state = .fanStarting then enterHalted .startFailed u else nextStep s.sequencer.state u :=
    if_neg h
  rw [hfault]
  split
  · next hstarting =>
    rw [hstarting, keyAndFlag_enterHalted]
    exact ⟨nofun, hflag⟩
  · rw [keyAndFlag_nextStep]
    exact ⟨(reached_nextStep hhalted hrunning u).ne, hflag⟩

/-- The frame of what differs by events and fault reports, where the sequencer changes as well. -/
theorem FaultsOnly.with_sequencer (h : FaultsOnly s t) (q : Sequencer) :
    FaultsOnly { s with sequencer := q } { t with sequencer := q } :=
  ⟨h.log, congrArg (fun r : State => { r with sequencer := q }) h.frame⟩

/-- R113: FSC in FEED_STOPPING, with the gate not yet at VENT, leads to VENTING. -/
theorem confirmByInput_vents (hstate : s.sequencer.state = .feedStopping) (hrole : s.cfg.roles.abort = true)
    (hgate : s.level .gv = false) :
    Appends [⟨s.time, .step, 1, s.homeView, s.station, 0, 0, s.stepElapsed⟩] s (reportingHalt (confirmByInput .fsc) s)
      ∧ reportingHalt (confirmByInput .fsc) s = ({ s with sequencer :=
          { s.sequencer with
            state := .venting, haltedCause := none, stepEntered := some s.time
            stepTimer := some (later s.time s.cfg.tGate)
            outputs := ⟨false, false, s.cfg.roles.fan, s.cfg.roles.damper⟩ } } : State).withLogOf
        (reportingHalt (confirmByInput .fsc) s) := by
  let p := postStep 1 0 s.stepElapsed { s with sequencer := { s.sequencer with stepTimer := none } }
  have hconfirms : inputConfirms .fsc s.sequencer.state = true := by
    rw [hstate]
    rfl
  have hvents : confirmByInput .fsc s = enterVenting p := by
    rw [confirmByInput, if_pos hconfirms, completeStep, hstate]
    rfl
  have hgate' : p.level .gv = false := hgate
  have hrole' : p.cfg.roles.abort = true := hrole
  have henters : confirmByInput .fsc s = { p with sequencer := { s.sequencer with
      state := .venting, haltedCause := none, stepEntered := some s.time
      stepTimer := some (later s.time s.cfg.tGate)
      outputs := ⟨false, false, s.cfg.roles.fan, s.cfg.roles.damper⟩ } } := by
    rw [hvents, enterVenting, enterStep, hrole', hgate', ← seqOutputs_venting s.cfg.roles s.sequencer.feedHold]
    rfl
  have hstep : reportingHalt (confirmByInput .fsc) s = confirmByInput .fsc s := reportingHalt_of_not_halted (.inl (by
    rw [henters]
    nofun))
  have hposts := appends_post (s := { s with sequencer := { s.sequencer with stepTimer := none } }) .step 1 0
    s.stepElapsed 0
  have hlog : (confirmByInput .fsc s).log = p.log := by rw [henters]
  rw [hstep]
  refine ⟨(hposts.of_log_eq_left rfl).log_eq hlog, eq_withLogOf ?_ ?_⟩
  · rw [hlog]
    exact logRest_post ..
  · rw [hlog]
    exact henters

/-- R113, R118: DMC in DAMPER_CLOSING leads to HALTED, which is reported. -/
theorem confirmByInput_halts (hstate : s.sequencer.state = .damperClosing) :
    (reportingHalt (confirmByInput .dmc) s).sequencer.state = .halted
      ∧ (reportingHalt (confirmByInput .dmc) s).sequencer.haltedCause = some .shutdown
      ∧ (reportingHalt (confirmByInput .dmc) s).sequencer.outputs = ⟨false, false, false, false⟩
      ∧ (reportingHalt (confirmByInput .dmc) s).sequencer.stepTimer = none
      ∧ (reportingHalt (confirmByInput .dmc) s).zones.haltedAt = some s.time := by
  let p := postStep 5 0 s.stepElapsed { s with sequencer := { s.sequencer with stepTimer := none } }
  have hconfirms : inputConfirms .dmc s.sequencer.state = true := by
    rw [hstate]
    rfl
  have hhalts : confirmByInput .dmc s = enterHalted .shutdown p := by
    rw [confirmByInput, if_pos hconfirms, completeStep, hstate]
    rfl
  have hended : endedShutdown s (confirmByInput .dmc s) = true := by
    rw [hhalts, endedShutdown, hstate]
    rfl
  have hreports : reportingHalt (confirmByInput .dmc) s = reportHalted (enterHalted .shutdown p) := by
    rw [← hhalts]
    exact if_pos hended
  obtain ⟨hcourse, -, hsince⟩ := reportHalted_haltedSince (s := enterHalted .shutdown p) rfl
  rw [hreports]
  exact ⟨(congrArg Sequencer.state hcourse :), (congrArg Sequencer.haltedCause hcourse :),
    (congrArg Sequencer.outputs hcourse :).trans (seqOutputs_halted _ _),
      (congrArg Sequencer.stepTimer hcourse :), hsince⟩

/-- R126: FAN_STARTING that expires ends in HALTED with cause START_FAILED, which nothing reports. -/
theorem expireStep_startFailed (hstate : s.sequencer.state = .fanStarting) :
    (reportingHalt expireStep s).sequencer = { s.sequencer with
        state := .halted, haltedCause := some .startFailed, stepTimer := none, stepEntered := none
        stepFault := true, outputs := ⟨false, false, false, false⟩ }
      ∧ reportingHalt expireStep s
        = ({ s with sequencer := (reportingHalt expireStep s).sequencer } : State).withFaultsOf
          (reportingHalt expireStep s) := by
  let v : State := { s with sequencer := { s.sequencer with stepTimer := none } }
  let w := setStepFault true v
  let p := postStep 7 (stepFaultCode .fanStarting s.flow.status) (sat16 (stepLimit s.cfg .fanStarting)) w
  have hexpire : expireStep s = enterHalted .startFailed p := by
    rw [expireStep, if_neg (by rw [hstate]; nofun), faultStep, hstate]
    rfl
  have hhalts : reportingHalt expireStep s = enterHalted .startFailed p := by
    rw [← hexpire]
    exact reportingHalt_of_not_halted (.inr (by rw [hexpire]; nofun))
  have hfaults : FaultsOnly { v with sequencer := { v.sequencer with stepFault := true } } p :=
    (faultsOnly_reportFault .stepFault true _).trans (faultsOnly_post ..)
  have hsequencer : p.sequencer = { v.sequencer with stepFault := true } := by rw [hfaults.frame]
  have htable : (enterHalted .startFailed p).sequencer = { s.sequencer with
      state := .halted, haltedCause := some .startFailed, stepTimer := none, stepEntered := none
      stepFault := true, outputs := ⟨false, false, false, false⟩ } := by
    have hentered : (enterHalted .startFailed p).sequencer = { p.sequencer with
        state := .halted, haltedCause := some .startFailed, stepTimer := none, stepEntered := none
        outputs := seqOutputs p.cfg.roles .halted p.sequencer.feedHold } := rfl
    rw [hentered, seqOutputs_halted, hsequencer]
  rw [hhalts]
  refine ⟨htable, ?_⟩
  have henters := (hfaults.with_sequencer (enterHalted .startFailed p).sequencer).trans
    (faultsOnly_post .step 0 6 (haltedCode .startFailed) 0 _)
  exact henters.eq_withFaultsOf

end

/-- Settles O50: each confirmation and each expired step timer, with the step that it leads to. -/
theorem stepsCompleteOrFault : Obligations.StepsCompleteOrFault := by
  refine ⟨fun s hover ho hlevel hstate hrole hgate => ⟨_, exec_confirmInputChange (i := .fsc) hover ho hlevel, ?_⟩,
    fun s hover ho hlevel hstate => ⟨_, exec_confirmInputChange (i := .dmc) hover ho hlevel, ?_⟩,
    fun i s hover ho hlevel hconfirms => ⟨_, exec_confirmInputChange hover ho hlevel, ?_⟩,
    fun i active s hover hlevel hidle => exec_confirmInputChange_ignored hover hlevel hidle,
    fun s ho hdue hstate => ⟨_, (exec_stepTimerExpiry ho hdue).1, ?_⟩,
    fun s ho hdue hstate => ⟨_, (exec_stepTimerExpiry ho hdue).1, ?_⟩,
    fun s ho hdue hstate => ⟨_, (exec_stepTimerExpiry ho hdue).1, ?_⟩⟩
  · obtain ⟨hposts, hframe⟩ := confirmByInput_vents (s := setLevel .fsc true s) hstate hrole
      ((level_setLevel_other true s (by decide)).trans hgate)
    exact ⟨hposts.of_log_eq_left rfl |>.posts, hframe⟩
  · obtain ⟨hhalted, hcause, houtputs, htimer, hsince⟩ :=
      confirmByInput_halts (s := setLevel .dmc true s) hstate
    have hoperating : s.startup.state = .operating := operating_iff.1 ho
    have hcascade :
        Leads .cascade (setLevel .dmc true s) (reportingHalt (confirmByInput .dmc) (setLevel .dmc true s)) :=
      leads_reportingHalt (leads_confirmByInput .refl (by exact hoperating)) (by simpa using hoperating)
    exact ⟨hhalted, hcause, houtputs, htimer, hsince, hcascade.eq_withZonesOf⟩
  · have hoperating : s.startup.state = .operating := operating_iff.1 ho
    have hcascade : Leads .cascade (setLevel (confirmInput i) true s)
        (reportingHalt (confirmByInput i) (setLevel (confirmInput i) true s)) :=
      leads_reportingHalt (leads_confirmByInput .refl (by exact hoperating)) (by simpa using hoperating)
    refine ⟨?_, hcascade.eq_withZonesOf⟩
    exact reportingHalt_leaves (s := setLevel (confirmInput i) true s)
      (confirmByInput_completes (s := setLevel (confirmInput i) true s) hconfirms).ne
  · obtain ⟨hleaves, hflag⟩ := expireStep_runOn hstate
    have hkept : (reportingHalt expireStep s).keyAndFlag = s.keyAndFlag := by
      unfold reportingHalt
      split
      · rw [reportHalted_keeps steady_keyAndFlag, hflag]
      · exact hflag
    refine ⟨?_, (congrArg (fun p => p.2.2.1) hkept :), (exec_stepTimerExpiry ho hdue).2⟩
    rw [← hstate]
    exact reportingHalt_leaves hleaves
  · obtain ⟨hrunOn, hrunning, hhalted⟩ :
        s.sequencer.state ≠ .runOn ∧ s.sequencer.state ≠ .running ∧ s.sequencer.state ≠ .halted := by
      obtain h | h | h | h | h | h := hstate <;> rw [h] <;> exact ⟨nofun, nofun, nofun⟩
    obtain ⟨hleaves, hflag⟩ := expireStep_faults hrunOn hrunning hhalted ho
    have hkept : (reportingHalt expireStep s).keyAndFlag
        = (s.sequencer.key, s.sequencer.unlockDeadline, true, true) := by
      unfold reportingHalt
      split
      · rw [reportHalted_keeps steady_keyAndFlag, hflag]
      · exact hflag
    exact ⟨reportingHalt_leaves hleaves, (congrArg (fun p => p.2.2.1) hkept :), (congrArg (fun p => p.2.2.2) hkept :),
      (exec_stepTimerExpiry ho hdue).2⟩
  · exact expireStep_startFailed hstate

end Sys2Proof.Machine
end

section
/-! PROOF. Restarts of a zone that come by the line (R104 to R107, R124): the settlement of O47. -/
namespace Sys2Proof.Machine

section
variable {s t : State} {i : Fin 32} {z source : Nat}

/-! ## A valid frame of another station (R68, R86) -/

/-- R68, R182: the state in which a valid frame has been passed on. -/
theorem passOn_eq (s : State) : passOn s = { s with
    startup := (passOn s).startup
    line := { endValidFrame s.line with passedTally := min (s.line.passedTally + 1) 65535 } } := by
  unfold passOn reportHeard
  dsimp only
  split <;> rfl

/-- R68, R182: the start-up state once a valid frame has been passed on. -/
theorem startup_passOn (s : State) : (passOn s).startup.state = s.startup.state
    ∧ (passOn s).startup.station = s.startup.station ∧ (passOn s).startup.rate = s.startup.rate := by
  unfold passOn reportHeard
  dsimp only
  split <;> exact ⟨rfl, rfl, rfl⟩

/-- R68: a frame of another station goes to those who use it. -/
theorem takeFrame_uses {kind : FrameKind} {byte : Byte} (use : State → State) (hover : s.handedOver = true)
    (hvalid : validSource byte = true) (hother : byte.toNat ≠ s.station) :
    takeFrame kind byte use s = use (passOn s) := by
  rw [takeFrame, hover, hvalid, if_neg (by simp), if_neg (by simp), if_neg hother]

/-- R86: the presence table in which a station has been heard. -/
def State.heardFrom (s : State) (i : Fin 32) : State :=
  { s with peers := s.peers.set i (Peer.hear s.time s.cfg.presencePeriod s.peers[i]) }

/-- R86: a LIVE station that is heard is heard, and nothing more. -/
theorem hearPeer_live (h : s.peers[i].state = .live) : hearPeer i (fun p => p) s = s.heardFrom i := by
  have hold : ¬ s.peers[i].state = .silent := by
    rw [h]
    nofun
  have hsame : votesDiffer s.peers[i] (Peer.hear s.time s.cfg.presencePeriod s.peers[i]) = false := by
    unfold votesDiffer Peer.hear
    rw [h]
    simp
  unfold hearPeer
  dsimp only
  rw [if_pos h, if_neg hold, reportPeer, hsame, Bool.and_false]
  rfl

/-- R68, R104: a RESTART of another station that is LIVE. -/
theorem exec_restartReceived {byte : Byte} {zone : Half} (hover : s.handedOver = true)
    (hvalid : validSource byte = true)
    (hother : byte.toNat ≠ s.station) (hlive : s.peers[stationIndex byte].state = .live) (hquiet : QuietSettled s) :
    exec (.restartReceived byte zone) s
      = .next (takeRestart zone.toNat byte.toNat ((passOn s).heardFrom (stationIndex byte))) := by
  have hlive' : (passOn s).peers[stationIndex byte].state = .live := by rw [passOn_eq]; exact hlive
  refine congrArg Host.Outcome.next ?_
  rw [settled_eq_self hquiet, takeRestartFrame, takeFrame_uses _ hover hvalid hother, hearPeer_live hlive']

/-- R86: which zone a station names does not change as it is heard. -/
theorem homeZone_heardFrom (s : State) (i n : Fin 32) : (s.heardFrom i).peers[n].homeZone = s.peers[n].homeZone := by
  by_cases hn : n = i
  · subst hn
    exact (congrArg Peer.homeZone (Vector.getElem_set_self n.isLt) :)
  · exact congrArg Peer.homeZone (Vector.getElem_set_ne i.isLt n.isLt (fun heq => hn (Fin.ext heq.symm)))

/-! ## Stored votes (R104) -/

/-- R104: the stored votes of the zone's stations are CLEAR. -/
theorem peers_clearStoredVotes (z : Nat) (s : State) (n : Fin 32) :
    (clearStoredVotes z s).peers[n] = clearPeerVote z s.peers[n] := by
  simp [clearStoredVotes, mapPeers]

/-- R98, R104: with the stored votes of a zone CLEAR no station votes for it above CLEAR. -/
theorem votersOf_cleared (hpeers : s.peers = (clearStoredVotes z t).peers) :
    ∀ l ∈ s.peers.toList.filterMap (peerVoter z), l = .clear := by
  intro l hl
  obtain ⟨p, hp, hvotes⟩ := List.mem_filterMap.1 hl
  obtain ⟨q, -, rfl⟩ : ∃ q ∈ t.peers.toList, clearPeerVote z q = p := by
    rw [hpeers] at hp
    simpa [clearStoredVotes, mapPeers] using hp
  unfold clearPeerVote at hvotes
  split at hvotes
  · next hzone =>
    simp only [peerVoter, hzone] at hvotes
    split at hvotes
    · exact (Option.some.inj hvotes).symm
    · exact absurd hvotes nofun
  · next hzone =>
    unfold peerVoter at hvotes
    split at hvotes
    · next n v hn hv =>
      rw [if_neg (fun h => hzone (by rw [hn, h.1]))] at hvotes
      exact absurd hvotes nofun
    · exact absurd hvotes nofun

/-- R98, R104: with the stored votes of a zone CLEAR and the own vote below HALT, the recounted record is below HALT,
and CLEAR for another zone. -/
theorem recountRecord_cleared {r : Zone} (hpeers : s.peers = (clearStoredVotes r.zone t).peers)
    (hlatched : r.latched = .clear)
    (hown : r.zone = s.cfg.homeZone → s.zones.own.level = .clear ∨ s.zones.own.level = .watch) :
    (recountRecord s r).latched = .clear
      ∧ ((recountRecord s r).view = .clear ∨ (recountRecord s r).view = .watch)
      ∧ (r.zone ≠ s.cfg.homeZone → (recountRecord s r).view = .clear) := by
  have hcleared := votersOf_cleared (z := r.zone) hpeers
  have hlow : ∀ l ∈ votersOf s r.zone, (l = .clear ∨ l = .watch) ∧ (r.zone ≠ s.cfg.homeZone → l = .clear) := by
    intro l hl
    obtain hl | hl := List.mem_append.1 hl
    · exact ⟨.inl (hcleared l hl), fun _ => hcleared l hl⟩
    · split at hl
      · next hhome =>
        obtain rfl := List.mem_singleton.1 hl
        exact ⟨hown hhome, fun hother => absurd hhome hother⟩
      · exact absurd hl List.not_mem_nil
  have hnone {l : Level} (h : ∀ x ∈ votersOf s r.zone, Level.le l x = false) : votesAt s r.zone l = 0 := by
    rw [votesAt, List.length_eq_zero_iff, List.filter_eq_nil_iff]
    exact fun x hx => Bool.eq_false_iff.1 (h x hx)
  have hfire : votesAt s r.zone .fire = 0 := hnone fun x hx => by
    obtain hx | hx := (hlow x hx).1 <;> rw [hx] <;> rfl
  have hhalt : votesAt s r.zone .halt = 0 := hnone fun x hx => by
    obtain hx | hx := (hlow x hx).1 <;> rw [hx] <;> rfl
  have hquorum : 1 ≤ effectiveQuorum s (membersOf s r.zone) := by
    unfold effectiveQuorum
    split
    · exact le_rfl
    · exact le_max_left _ _
  have hnotOwn : ¬ (r.zone = s.cfg.homeZone ∧ s.zones.own.level = .fire) := by
    rintro ⟨hhome, hlevel⟩
    obtain h | h := hown hhome <;> rw [h] at hlevel <;> exact absurd hlevel nofun
  have hlevel : zoneVoteLevel s r (votesAt s r.zone .watch) (votesAt s r.zone .halt) (votesAt s r.zone .fire)
      (effectiveQuorum s (membersOf s r.zone)) = if 1 ≤ votesAt s r.zone .watch then .watch else .clear := by
    have hbelow : ¬ (effectiveQuorum s (membersOf s r.zone) ≤ 0 ∨ 1 ≤ 0 ∧ r.confirmed = true
        ∨ r.zone = s.cfg.homeZone ∧ s.zones.own.level = .fire) := by
      rintro (h | ⟨h, -⟩ | h)
      · omega
      · omega
      · exact hnotOwn h
    rw [zoneVoteLevel, hfire, hhalt, if_neg hbelow, if_neg (by omega)]
  obtain ⟨-, hview, hlatch⟩ := recountRecord_levels s r
  rw [hview, hlatch, hlevel, hlatched]
  split
  · next hwatch =>
    refine ⟨rfl, .inr rfl, fun hother => ?_⟩
    have hzero : votesAt s r.zone .watch = 0 := hnone fun x hx => by
      rw [(hlow x hx).2 hother]
      rfl
    omega
  · exact ⟨rfl, .inl rfl, fun _ => rfl⟩

/-! ## Recounts that end no shutdown (R118) -/

/-- R128, R129: a sequencer that is not in HALTED. -/
def Awake (s : State) : Prop := s.sequencer.state ≠ .halted

/-- R129: no demand leads into HALTED. -/
theorem awake_syncDemand (d : Fin 2) (hs : Awake s) : Awake (syncDemand d s) := by
  have hplaces (r : State) (hr : Awake r) : Awake (placeDemand d r) := by
    unfold placeDemand
    dsimp only
    split <;> exact hr
  have hwithdraws (r : State) (hr : Awake r) : Awake (withdrawDemand d r) := by
    unfold withdrawDemand
    dsimp only
    (repeat' split)
    · exact hr
    · next hwaits =>
      rw [completeStep]
      dsimp only at hwaits ⊢
      rw [hwaits]
      nofun
    · exact hr
    · exact hr
  unfold syncDemand
  dsimp only
  (repeat' split)
  · exact hs
  · exact hplaces _ hs
  · exact hwithdraws _ hs

/-- R133: no door leads into HALTED. -/
theorem awake_setDoor (d : Fin 2) (st : DoorState) (cause : Nat) (hs : Awake s) : Awake (setDoor d st cause s) := by
  unfold setDoor
  exact awake_syncDemand d (by simpa [Awake] using hs)

/-- R138: no released door leads into HALTED. -/
theorem awake_releaseDoor (d : Fin 2) (cause : Nat) (hs : Awake s) : Awake (releaseDoor d cause s) := by
  have hreleased := awake_setDoor d .released cause hs
  unfold releaseDoor closeDoor
  dsimp only
  (repeat' split)
  · exact awake_setDoor d .closed 5 hreleased
  · exact awake_setDoor d .armed 7 (awake_setDoor d .closed 5 hreleased)
  · exact hreleased

/-- R134: no notice at a door leads into HALTED. -/
theorem awake_doorNotice (z : Nat) (view : Level) (d : Fin 2) (hs : Awake s) : Awake (doorNotice z view d s) := by
  unfold doorNotice clearDoor
  dsimp only
  (repeat' split)
  · exact awake_releaseDoor d 2 (awake_setDoor d .clearing 1 hs)
  · exact awake_releaseDoor d 3 (awake_setDoor d .clearing 1 hs)
  · exact awake_setDoor d .clearing 1 hs
  · exact awake_releaseDoor d 1 hs
  · exact awake_releaseDoor d 1 hs
  · exact hs
  · exact awake_setDoor d .armed 7 hs
  · exact hs
  · exact hs

/-- R103, R118: neither HALTED nor another zone's view ends a shutdown. -/
theorem endedShutdown_calm (h : s.sequencer.state = .halted ∨ z ≠ s.cfg.homeZone) (old new : Level) :
    endedShutdown s (notifyView z old new s) = false := by
  by_cases hhalted : s.sequencer.state = .halted
  · simp [endedShutdown, hhalted]
  · have hawake : Awake (notifyView z old new s) := by
      rw [notifyView_other (h.resolve_left hhalted), plantNotices, Awake, sequencer_sirenNotice, sequencer_sirenNotice]
      exact awake_doorNotice z new 1 (awake_doorNotice z new 0 hhalted)
    have hstate : (notifyView z old new s).sequencer.state ≠ .halted := hawake
    simp [endedShutdown, hstate]

/-- R98: a recount that ends no shutdown changes its record and leaves the line. -/
theorem recountZone_calm {old : Zone} (h : s.sequencer.state = .halted ∨ z ≠ s.cfg.homeZone)
    (hold : s.zoneRecord z = some old) :
    (recountZone z s).zones = (updateZone z (fun _ => recountRecord s old) s).zones
      ∧ (recountZone z s).line = s.line := by
  have hnotified (r : State) (view view' : Level) :
      (notifyView z view view' r).zones = r.zones ∧ (notifyView z view view' r).line = r.line := by
    obtain ⟨-, -, -, -, -, -, -, -, hline, -, hzones, -⟩ := notifyView_frame z view view' r
    exact ⟨hzones, hline⟩
  rw [recountZone, recountZoneWith, hold]
  dsimp only
  split
  · exact ⟨rfl, rfl⟩
  · rw [endedShutdown_calm (by exact h), if_neg (by simp)]
    exact ⟨(hnotified _ _ _).1, (hnotified _ _ _).2⟩

/-! ## Refusals (R107) -/

/-- R107: a refused restart hands a VOTE over and posts its record. -/
theorem refuseRestart_leaves {r : Zone} (hr : s.zoneRecord s.cfg.homeZone = some r) (source : Nat) :
    (refuseRestart source s).line.waits
        (.vote s.cfg.homeZone ⟨Level.max r.latched s.zones.own.level, .restartRefused⟩) = true
      ∧ refuseRestart source s
        = ({ s with line := (refuseRestart source s).line } : State).withLogOf (refuseRestart source s) := by
  let v : Vote := ⟨Level.max r.latched s.zones.own.level, .restartRefused⟩
  have heq : refuseRestart source s
      = post .restartRefuse s.cfg.homeZone source (refusalFact s) 0 (handVote v s) := by
    unfold refuseRestart
    dsimp only
    rw [hr]
  rw [heq]
  exact ⟨waits_judgeGap (waits_iff.2 (.inl (mem_handOver_self _ _))), eq_withLogOf (logRest_post ..) rfl⟩

/-! ## Another zone (R106) -/

/-- R106: a restart of another tracked zone clears its stored votes, its latch and its view, and leaves the own
votes. -/
theorem restartOther_leaves {r : Zone} (hother : z ≠ s.cfg.homeZone) (hr : s.zoneRecord z = some r)
    (ho : s.operating = true)
    (source : Nat) :
    (∃ u, (restartOther z source s).zoneRecord z = some u ∧ u.latched = .clear ∧ u.view = .clear)
      ∧ (restartOther z source s).zones.own = s.zones.own ∧ (restartOther z source s).zones.latched = s.zones.latched
      ∧ (restartOther z source s).beyondZones = { s with peers := (clearStoredVotes z s).peers }.beyondZones := by
  let clears : Zone → Zone := fun r => { r with latched := .clear }
  let b := clearStoredVotes z (updateZone z clears s)
  have hold : b.zoneRecord z = some (clears r) := by
    have hfind := zoneRecord_updateZone (z := z) (y := z) (f := clears) (fun _ h => h) s
    rw [if_pos rfl, hr] at hfind
    exact hfind
  have hzone : (clears r).zone = z := zone_of_zoneRecord hold
  obtain ⟨hzones, -⟩ := recountZone_calm (s := b) (.inr hother) hold
  obtain ⟨hlatched, -, hview⟩ := recountRecord_cleared (s := b) (t := s) (r := clears r)
    (by rw [hzone]; rfl) rfl (fun h => absurd (hzone.symm.trans h) hother)
  have hrecord : (recountZone z b).zoneRecord z = some (recountRecord b (clears r)) := by
    have hfind := zoneRecord_recounted (y := z) hold
    rw [if_pos rfl] at hfind
    rw [State.zoneRecord, hzones]
    exact hfind
  have hcascade : Leads .cascade b (restartOther z source s) :=
    leads_post (leads_recountZone .refl (by exact operating_iff.1 ho))
  have hown : (recountZone z b).zones.own = s.zones.own ∧ (recountZone z b).zones.latched = s.zones.latched := by
    rw [hzones]
    exact ⟨rfl, rfl⟩
  exact ⟨⟨_, hrecord, hlatched, hview (by rw [hzone]; exact hother)⟩, hown.1, hown.2, hcascade.beyondZones⟩

/-! ## Acceptance (R104, R105, R124) -/

/-- R94: the vote of the lines below FIRE. -/
def voteBelowFire (s : State) : Vote := (((voteLines s).drop 2).find? (fun l => l.1)).elim Vote.none Prod.snd

/-- R94: the momentary vote by its lines of FIRE and the others. -/
theorem momentaryVote_eq (s : State) : momentaryVote s
    = if s.flame = true then ⟨.fire, .flame⟩
      else if s.cfg.nFire ≤ afterHaltCount s then ⟨.fire, .afterHalt⟩
      else voteBelowFire s := by
  unfold momentaryVote voteBelowFire voteLines
  dsimp only [List.drop]
  by_cases hflame : s.flame = true
  · simp [hflame]
  · by_cases hafter : s.cfg.nFire ≤ afterHaltCount s
    · simp [hflame, hafter]
    · rw [if_neg hflame, if_neg hafter, List.find?_cons_of_neg (by simpa using hflame),
        List.find?_cons_of_neg (by simpa using hafter)]
      split
      · next hnone =>
        rw [hnone]
        rfl
      · next hsome =>
        rw [hsome]
        rfl

/-- R94: without HALTED behind it a momentary vote below HALT is the same. -/
theorem momentaryVote_unhalted (hlow : (momentaryVote s).level = .clear ∨ (momentaryVote s).level = .watch) (a : Bool) :
    momentaryVote { s with zones := { s.zones with haltedAt := none, aged := a } } = momentaryVote s := by
  rw [momentaryVote_eq s] at hlow ⊢
  by_cases hflame : s.flame = true
  · rw [if_pos hflame] at hlow
    exact absurd hlow (by simp)
  · rw [if_neg hflame] at hlow ⊢
    by_cases hafter : s.cfg.nFire ≤ afterHaltCount s
    · rw [if_pos hafter] at hlow
      exact absurd hlow (by simp)
    · rw [if_neg hafter, momentaryVote_eq, if_neg (by exact hflame), if_neg]
      · rfl
      · have hzero : afterHaltCount { s with zones := { s.zones with haltedAt := none, aged := a } } = 0 := rfl
        rw [hzero]
        exact fun h => hafter (le_trans h (Nat.zero_le _))

/-- R95: with nothing latched a momentary vote below HALT is the own vote. -/
theorem recountVotes_low (hlatched : s.zones.latched = none)
    (hlow : (momentaryVote s).level = .clear ∨ (momentaryVote s).level = .watch) :
    recountVotes s = { s.zones with momentary := momentaryVote s, latched := none, own := momentaryVote s } := by
  have hlatch : latchVote (momentaryVote s) s.zones.latched = none := by
    rw [hlatched, latchVote]
    obtain h | h := hlow <;> rw [h] <;> rfl
  unfold recountVotes
  dsimp only
  rw [hlatch]
  rfl

/-- R97: what changes no record's zone changes no zone of the table. -/
theorem map_zone_updateZone {f : Zone → Zone} (hf : ∀ r, r.zone = z → (f r).zone = z) (s : State) :
    (updateZone z f s).zones.zones.map Zone.zone = s.zones.zones.map Zone.zone := by
  have hzone : ∀ r : Zone, (if r.zone = z then f r else r).zone = r.zone := by
    intro r
    split
    · next h => rw [hf r h, h]
    · rfl
  change (s.zones.zones.map _).map Zone.zone = _
  rw [List.map_map]
  exact List.map_congr_left fun r _ => hzone r

/-- R104: the state in which the latch and the stored votes of the home zone have been cleared. -/
def restartUnlatched (s : State) : State :=
  let a := updateZone s.cfg.homeZone (fun r => { r with latched := .clear }) s
  clearStoredVotes s.cfg.homeZone { a with zones := { a.zones with latched := none } }

/-- R104: the state in which the VOTE of the cleared node has been handed over. -/
def restartHanded (s : State) : State :=
  let d := handVote (restartCleared s).zones.own (restartCleared s)
  if (restartCleared s).zones.own = s.zones.own then d else postVote d

/-- R104, R105: the own votes of the cleared node, and its VOTE on the line. -/
theorem restartHanded_parts (hlow : (momentaryVote s).level = .clear ∨ (momentaryVote s).level = .watch) :
    (restartHanded s).zones = { (restartUnlatched s).zones with
        momentary := momentaryVote s, latched := none, own := momentaryVote s }
      ∧ (restartHanded s).line.waits (.vote s.cfg.homeZone (momentaryVote s)) = true
      ∧ (restartHanded s).sequencer = s.sequencer ∧ (restartHanded s).peers = (clearStoredVotes s.cfg.homeZone s).peers
      ∧ (restartHanded s).cfg = s.cfg := by
  have hcleared : momentaryVote (restartUnlatched s) = momentaryVote s :=
    momentaryVote_congr rfl rfl rfl rfl rfl rfl rfl
  have hvotes : (restartCleared s).zones = { (restartUnlatched s).zones with
      momentary := momentaryVote s, latched := none, own := momentaryVote s } := by
    have hlow' := recountVotes_low (s := restartUnlatched s) rfl (by rwa [hcleared])
    rw [hcleared] at hlow'
    exact hlow'
  have hown : (restartCleared s).zones.own = momentaryVote s := by rw [hvotes]
  have hwaits : (handVote (restartCleared s).zones.own (restartCleared s)).line.waits
      (.vote s.cfg.homeZone (momentaryVote s)) = true := by
    rw [hown]
    exact waits_judgeGap (waits_iff.2 (.inl (mem_handOver_self _ _)))
  have hposted (r : State) : (postVote r).zones = r.zones ∧ (postVote r).line = r.line
      ∧ (postVote r).sequencer = r.sequencer ∧ (postVote r).peers = r.peers ∧ (postVote r).cfg = r.cfg :=
    ⟨rfl, rfl, rfl, rfl, rfl⟩
  have hhanded : (handVote (restartCleared s).zones.own (restartCleared s)).zones = (restartCleared s).zones
      ∧ (handVote (restartCleared s).zones.own (restartCleared s)).sequencer = s.sequencer
      ∧ (handVote (restartCleared s).zones.own (restartCleared s)).peers = (clearStoredVotes s.cfg.homeZone s).peers
      ∧ (handVote (restartCleared s).zones.own (restartCleared s)).cfg = s.cfg :=
    ⟨rfl, rfl, rfl, rfl⟩
  obtain ⟨hzones, hsequencer, hpeers, hcfg⟩ := hhanded
  unfold restartHanded
  dsimp only
  split
  · exact ⟨hzones.trans hvotes, hwaits, hsequencer, hpeers, hcfg⟩
  · obtain ⟨hzonesP, hlineP, hsequencerP, hpeersP, hcfgP⟩ :=
      hposted (handVote (restartCleared s).zones.own (restartCleared s))
    exact ⟨(hzonesP.trans hzones).trans hvotes, by rw [hlineP]; exact hwaits, hsequencerP.trans hsequencer,
      hpeersP.trans hpeers, hcfgP.trans hcfg⟩

/-- R98, R104: the record of the home zone in the cleared node. -/
theorem zoneRecord_restartHanded (hlow : (momentaryVote s).level = .clear ∨ (momentaryVote s).level = .watch) {r : Zone}
    (hr : s.zoneRecord s.cfg.homeZone = some r) :
    (restartHanded s).zoneRecord s.cfg.homeZone = some { r with latched := .clear } := by
  have hfind := zoneRecord_updateZone (z := s.cfg.homeZone) (y := s.cfg.homeZone)
    (f := fun r => { r with latched := .clear }) (fun _ h => h) s
  rw [if_pos rfl, hr] at hfind
  rw [State.zoneRecord, (restartHanded_parts hlow).1]
  exact hfind

/-- R104, R105: the votes and the home zone once an accepted restart has recounted them. -/
theorem restartRecounted_clears (hs : s.sequencer.state = .halted) (hzones : HomeFirst s)
    (hlow : (momentaryVote s).level = .clear ∨ (momentaryVote s).level = .watch) :
    (restartRecounted s).zones.latched = none ∧ (restartRecounted s).zones.own = momentaryVote s
      ∧ ((restartRecounted s).homeView = .clear ∨ (restartRecounted s).homeView = .watch)
      ∧ (restartRecounted s).zones.conditions = s.zones.conditions ∧ (restartRecounted s).zones.ring = s.zones.ring
      ∧ (restartRecounted s).line.waits (.vote s.cfg.homeZone (momentaryVote s)) = true := by
  have heq : restartRecounted s = recountZone s.cfg.homeZone (restartHanded s) := rfl
  obtain ⟨hvotes, hwaits, hsequencer, hpeers, hcfg⟩ := restartHanded_parts hlow
  obtain ⟨r, hr, -⟩ := zoneRecord_home hzones.1
  have hold := zoneRecord_restartHanded hlow hr
  have hzone : ({ r with latched := .clear } : Zone).zone = s.cfg.homeZone := zone_of_zoneRecord hold
  obtain ⟨hzonesR, hlineR⟩ := recountZone_calm (s := restartHanded s) (z := s.cfg.homeZone)
    (.inl (by rw [hsequencer, hs])) hold
  have hown : (restartHanded s).zones.own = momentaryVote s := by rw [hvotes]
  obtain ⟨-, hview, -⟩ := recountRecord_cleared (s := restartHanded s) (t := s) (r := { r with latched := .clear })
    (by rw [hzone, hpeers]) rfl (fun _ => by rw [hown]; exact hlow)
  have hrecord : (restartRecounted s).zoneRecord s.cfg.homeZone
      = some (recountRecord (restartHanded s) { r with latched := .clear }) := by
    have hfind := zoneRecord_recounted (y := s.cfg.homeZone) hold
    rw [if_pos rfl] at hfind
    rw [heq, State.zoneRecord, hzonesR]
    exact hfind
  have hmap : (restartRecounted s).zones.zones.map Zone.zone = s.zones.zones.map Zone.zone := by
    rw [heq, hzonesR, map_zone_updateZone (fun r' hr' => (zone_recountRecord _ _).trans hzone), hvotes]
    exact map_zone_updateZone (z := s.cfg.homeZone) (f := fun r => { r with latched := .clear }) (fun _ h => h) s
  have hhome : (restartRecounted s).cfg = s.cfg := by
    rw [← hcfg, State.cfg, heq, recountZone_keeps steady_config, State.cfg]
  obtain ⟨r', hr', hview'⟩ := zoneRecord_home (s := restartRecounted s) (by rw [hmap, hhome]; exact hzones.1)
  rw [hhome, hrecord] at hr'
  obtain rfl := Option.some.inj hr'
  rw [hview', heq, hzonesR, hlineR]
  have hkept : (restartHanded s).zones.latched = none
      ∧ (restartHanded s).zones.conditions = s.zones.conditions ∧ (restartHanded s).zones.ring = s.zones.ring := by
    rw [hvotes]
    exact ⟨rfl, rfl, rfl⟩
  exact ⟨hkept.1, hown, hview, hkept.2.1, hkept.2.2, hwaits⟩

/-- The state without HALTED behind it. -/
def unhalted (s : State) : State := { s with zones := { s.zones with haltedAt := none, aged := false } }

/-- R124: the start of a restart forgets HALTED and leaves the votes. -/
theorem zones_beginRestart (hs : s.sequencer.state = .halted) (hlatched : s.zones.latched = none)
    (hown : s.zones.own = momentaryVote (unhalted s))
    (hlow : (momentaryVote (unhalted s)).level = .clear ∨ (momentaryVote (unhalted s)).level = .watch) (b : Bool) :
    (beginRestart b s).zones
        = { (unhalted s).zones with momentary := momentaryVote (unhalted s), latched := none, own := s.zones.own }
      ∧ (beginRestart b s).line = s.line := by
  let u := unhalted (setStepFault false s)
  have hbegins : beginRestart b s = enterDamperOpening (postStep 0 7 (if b then 1 else 0) (recountOwn u)) := if_pos hs
  have hfault : (setStepFault false s).zones = s.zones ∧ (setStepFault false s).time = s.time
      ∧ (setStepFault false s).config = s.config ∧ (setStepFault false s).inputs = s.inputs
      ∧ (setStepFault false s).line = s.line := by
    simp
  obtain ⟨hzones, htime, hconfig, hinputs, hline⟩ := hfault
  have hzonesU : u.zones = (unhalted s).zones := by
    dsimp only [u, unhalted]
    rw [hzones]
  have hvotes : momentaryVote u = momentaryVote (unhalted s) :=
    momentaryVote_congr htime hconfig hinputs (by rw [hzonesU]) (by rw [hzonesU]) (by rw [hzonesU]) (by rw [hzonesU])
  have hrecounted := recountVotes_low (s := u) (by rw [hzonesU]; exact hlatched) (by rwa [hvotes])
  rw [hvotes, hzonesU, ← hown] at hrecounted
  have hrecount : recountOwn u = { u with zones := recountVotes u } := by
    refine if_pos ?_
    change (recountVotes u).own = u.zones.own
    rw [hrecounted, hzonesU]
    rfl
  have hlast (r : State) : (enterDamperOpening r).zones = r.zones ∧ (enterDamperOpening r).line = r.line := by
    simp
  rw [hbegins, (hlast _).1, (hlast _).2, hrecount]
  exact ⟨by rw [hown] at hrecounted ⊢; exact hrecounted, hline⟩

/-- R104: the recount of an accepted restart keeps what recounts keep. -/
theorem restartRecounted_keeps {β : Type} {g : State → β} (h : Steady g) (s : State) :
    g (restartRecounted s) = g (restartCleared s) := by
  refine (recountZone_keeps h _ _).trans ?_
  split
  · exact h.vote _ _
  · exact (h.post _ _ _ _ _ _).trans (h.vote _ _)

/-- R104, R105, R124: a restart accepted in HALTED with a momentary vote below HALT. -/
theorem acceptRestart_clears (hs : s.sequencer.state = .halted) (hzones : HomeFirst s)
    (hlow : (momentaryVote s).level = .clear ∨ (momentaryVote s).level = .watch) (source : Nat) :
    (acceptRestart source s).zones.latched = none
      ∧ (acceptRestart source s).zones.own = momentaryVote s ∧ (acceptRestart source s).zones.haltedAt = none
      ∧ ((acceptRestart source s).homeView = .clear ∨ (acceptRestart source s).homeView = .watch)
      ∧ (acceptRestart source s).line.waits (.vote s.cfg.homeZone (momentaryVote s)) = true := by
  obtain ⟨hlatched, hown, hview, hconditions, hring, hwaits⟩ := restartRecounted_clears hs hzones hlow
  have htime : (restartRecounted s).time = s.time := restartRecounted_keeps steady_time s
  have hconfig : (restartRecounted s).config = s.config := restartRecounted_keeps steady_config s
  have hinputs : (restartRecounted s).inputs = s.inputs := restartRecounted_keeps steady_inputs s
  have hposted (r : State) : ∃ p : State, post .restartAccept s.cfg.homeZone source 0 0 r = p ∧ p.zones = r.zones
      ∧ p.line = r.line ∧ p.sequencer = r.sequencer ∧ p.time = r.time ∧ p.config = r.config ∧ p.inputs = r.inputs :=
    ⟨_, rfl, rfl, rfl, rfl, rfl, rfl, rfl⟩
  obtain ⟨p, hp, hzonesP, hlineP, hsequencerP, htimeP, hconfigP, hinputsP⟩ := hposted (restartRecounted s)
  have hhalted : p.sequencer.state = .halted := by
    rw [hsequencerP]
    exact (restartRecounted_stands hs).1
  have hvotes : momentaryVote (unhalted p) = momentaryVote s := by
    refine Eq.trans (momentaryVote_congr (s := unhalted s) ?_ ?_ ?_ ?_ ?_ rfl rfl) (momentaryVote_unhalted hlow false)
    · exact htimeP.trans htime
    · exact hconfigP.trans hconfig
    · exact hinputsP.trans hinputs
    · exact (congrArg ZoneUnit.conditions hzonesP).trans hconditions
    · exact (congrArg ZoneUnit.ring hzonesP).trans hring
  obtain ⟨hzonesB, hlineB⟩ := zones_beginRestart hhalted (by rw [hzonesP]; exact hlatched)
    (by rw [hzonesP, hvotes]; exact hown) (by rwa [hvotes]) false
  have hviewB : (beginRestart false p).homeView = (restartRecounted s).homeView := by
    rw [State.homeView, hzonesB, unhalted, hzonesP, State.homeView]
  rw [acceptRestart_eq, hp, hviewB, hzonesB, hlineB, hlineP, hzonesP]
  exact ⟨rfl, hown, rfl, hview, hwaits⟩

/-! ## The node that has heard a RESTART -/

/-- R86: what hearing a station changes. -/
theorem heardFrom_passOn (s : State) (i : Fin 32) : (passOn s).heardFrom i = { s with
    startup := (passOn s).startup
    line := { endValidFrame s.line with passedTally := min (s.line.passedTally + 1) 65535 }
    peers := s.peers.set i (Peer.hear s.time s.cfg.presencePeriod s.peers[i]) } := by
  unfold State.heardFrom passOn reportHeard
  dsimp only
  split <;> rfl

/-- The node that has heard a station operates as before, and reads the same for a restart. -/
theorem heardFrom_stands (ho : s.operating = true) (i : Fin 32) :
    ((passOn s).heardFrom i).operating = true ∧ eligible ((passOn s).heardFrom i) = eligible s
      ∧ momentaryVote ((passOn s).heardFrom i) = momentaryVote s := by
  rw [heardFrom_passOn]
  refine ⟨?_, rfl, momentaryVote_congr rfl rfl rfl rfl rfl rfl rfl⟩
  exact operating_iff.2 ((startup_passOn s).1.trans (operating_iff.1 ho))

/-- What a cascade leaves of a node that has heard a station. -/
theorem eq_withZonesOf_heard {v : Vector Peer 32}
    (h : t.beyondZones = { ((passOn s).heardFrom i).beyondZones with peers := v }) :
    t = ({ s with startup := t.startup, peers := t.peers, line := t.line } : State).withZonesOf t := by
  have hstartup : t.startup = (passOn s).startup := by
    have hparts := congrArg State.startup h
    rw [heardFrom_passOn] at hparts
    exact hparts
  have hpeers : t.peers = v := congrArg State.peers h
  have hline : t.line.rest = ((passOn s).heardFrom i).line.rest := congrArg State.line h
  refine eq_withZonesOf ?_
  have hbeyond : ({ s with startup := t.startup, peers := t.peers, line := t.line } : State).beyondZones
      = { s.beyondZones with startup := t.startup, peers := t.peers, line := t.line.rest } := rfl
  rw [hbeyond, h, hstartup, hpeers, hline, heardFrom_passOn]
  rfl

/-- R104: the stored vote of a station of the zone is CLEAR once the votes have been cleared. -/
theorem vote_cleared_heard {n : Fin 32} (h : s.peers[n].homeZone = some z) :
    (clearStoredVotes z ((passOn s).heardFrom i)).peers[n].vote = some ⟨.clear, .none⟩ := by
  have hpassed : (passOn s).peers = s.peers := by rw [passOn_eq]
  have hzone : ((passOn s).heardFrom i).peers[n].homeZone = some z := by
    rw [homeZone_heardFrom, hpassed, h]
  rw [peers_clearStoredVotes, clearPeerVote, if_pos hzone]
  rfl

end

/-- Settles O47: an accepted restart, a refused one, and one of another zone. -/
theorem restartsAreAcceptedOrRefused : Obligations.RestartsAreAcceptedOrRefused := by
  refine ⟨fun source zone s ho hover hvalid hother hlive hhome hzones hhalted hmomentary hlow hrecent hquiet => ?_,
    fun source zone s r rest ho hover hvalid hother hlive hhome htable hr hquiet hrefused => ?_,
    fun source zone s r ho hover hvalid hother hlive hzone hr hquiet => ?_⟩
  · let u := (passOn s).heardFrom (stationIndex source)
    obtain ⟨hou, heligible, hvote⟩ := heardFrom_stands ho (stationIndex source)
    have hnotHalt : Level.le .halt s.zones.momentary.level = false := by
      obtain h | h := hlow <;> rw [h] <;> rfl
    have hmay : eligible s = true := (eligible_iff s).2 ⟨hhalted, hnotHalt, hrecent⟩
    have hu : u.cfg = s.cfg ∧ u.zones = s.zones ∧ u.sequencer = s.sequencer := by
      dsimp only [u]
      rw [heardFrom_passOn]
      exact ⟨rfl, rfl, rfl⟩
    obtain ⟨hcfg, hzonesU, hsequencer⟩ := hu
    have haccepts : takeRestart zone.toNat source.toNat u = acceptRestart source.toNat u := by
      rw [takeRestart, hou, hcfg, heligible, hmay, if_neg (by simp), if_pos hhome, if_pos rfl]
    obtain ⟨hlatched, hown, hsince, hview, hwaits⟩ := acceptRestart_clears (s := u) (by rw [hsequencer, hhalted])
      (by rw [HomeFirst, hzonesU, hcfg]; exact hzones) (by rw [hvote, ← hmomentary]; exact hlow) source.toNat
    obtain ⟨hleaves, hfault, -⟩ := acceptRestart_leaves (s := u) (by rw [hsequencer, hhalted]) source.toNat
    have hcascade := (acceptRestart_cascade hou source.toNat).beyondZones
    rw [hvote, ← hmomentary] at hown hwaits
    rw [hcfg] at hwaits
    refine ⟨acceptRestart source.toNat u, ?_, hlatched, hown, hsince, hview, fun n hn => ?_, ?_, hfault, ?_,
      eq_withZonesOf_heard (hcascade.trans (restartCleared_beyondZones u))⟩
    · rw [exec_restartReceived hover hvalid hother hlive hquiet]
      exact congrArg Host.Outcome.next haccepts
    · obtain ⟨-, -, -, -, hpeers⟩ := parts_of_beyondZones hcascade
      have hcleared : (acceptRestart source.toNat u).peers = (clearStoredVotes s.cfg.homeZone u).peers := by
        rw [hpeers, ← hcfg]
        rfl
      rw [hcleared]
      exact vote_cleared_heard hn
    · rw [hown]
      exact hwaits
    · obtain h | h := hleaves
      · cases hstate : (acceptRestart source.toNat u).sequencer.state with
        | damperOpening => exact .inl rfl
        | fanStarting => exact .inr (.inl rfl)
        | gateReturning => exact .inr (.inr (.inl rfl))
        | feedWait => exact .inr (.inr (.inr (.inl rfl)))
        | _ =>
          rw [hstate] at h
          exact Bool.noConfusion h
      · exact .inr (.inr (.inr (.inr h)))
  · let u := (passOn s).heardFrom (stationIndex source)
    obtain ⟨hou, heligible, -⟩ := heardFrom_stands ho (stationIndex source)
    have hmayNot : eligible s = false := by
      refine Bool.eq_false_iff.2 fun h => ?_
      obtain ⟨hhalted, hlow, hrecent⟩ := (eligible_iff s).1 h
      obtain h | h | h | h := hrefused
      · exact h hhalted
      · rw [h] at hlow
        exact Bool.noConfusion hlow
      · rw [h] at hlow
        exact Bool.noConfusion hlow
      · exact absurd (hrecent.symm.trans h) Bool.false_ne_true
    have hu : u.cfg = s.cfg ∧ u.zones = s.zones := by
      dsimp only [u]
      rw [heardFrom_passOn]
      exact ⟨rfl, rfl⟩
    obtain ⟨hcfg, hzonesU⟩ := hu
    have hrefuses : takeRestart zone.toNat source.toNat u = refuseRestart source.toNat u := by
      rw [takeRestart, hou, hcfg, heligible, hmayNot, if_neg (by simp), if_pos hhome, if_neg (by simp)]
    have hrecord : u.zoneRecord u.cfg.homeZone = some r := by
      rw [State.zoneRecord, hzonesU, hcfg, htable]
      exact List.find?_cons_of_pos (by simpa using hr)
    obtain ⟨hwaits, hframe⟩ := refuseRestart_leaves hrecord source.toNat
    rw [hcfg, hzonesU] at hwaits
    refine ⟨refuseRestart source.toNat u, ?_, hwaits, ?_⟩
    · rw [exec_restartReceived hover hvalid hother hlive hquiet]
      exact congrArg Host.Outcome.next hrefuses
    · have hpeer : Peer.hear s.time s.cfg.presencePeriod s.peers[stationIndex source]
          = { s.peers[stationIndex source] with
              lastHeard := some s.time, silence := some (later s.time (3 * s.cfg.presencePeriod)) } := by
        rw [Peer.hear, ← hlive]
      have hstartup : (refuseRestart source.toNat u).startup = (passOn s).startup := by
        refine (congrArg State.startup hframe).trans ?_
        dsimp only [u]
        rw [heardFrom_passOn]
        rfl
      refine hframe.trans (congrArg (fun r : State => r.withLogOf _) ?_)
      rw [hstartup, ← hpeer]
      dsimp only [u]
      rw [heardFrom_passOn]
  · let u := (passOn s).heardFrom (stationIndex source)
    obtain ⟨hou, -, -⟩ := heardFrom_stands ho (stationIndex source)
    have hu : u.cfg = s.cfg ∧ u.zones = s.zones := by
      dsimp only [u]
      rw [heardFrom_passOn]
      exact ⟨rfl, rfl⟩
    obtain ⟨hcfg, hzonesU⟩ := hu
    have hrecord : u.zoneRecord zone.toNat = some r := by rwa [State.zoneRecord, hzonesU]
    have hclears : takeRestart zone.toNat source.toNat u = restartOther zone.toNat source.toNat u := by
      rw [takeRestart, hou, hcfg, hrecord, if_neg (by simp), if_neg hzone, if_pos (by rfl)]
    obtain ⟨⟨w, hw, hlatched, hview⟩, hown, hlatch, hbeyond⟩ :=
      restartOther_leaves (s := u) (by rwa [hcfg]) hrecord hou source.toNat
    have hpeers : (restartOther zone.toNat source.toNat u).peers = (clearStoredVotes zone.toNat u).peers :=
      (parts_of_beyondZones hbeyond).2.2.2.2
    rw [hzonesU] at hown hlatch
    refine ⟨restartOther zone.toNat source.toNat u, ?_, fun n hn => ?_, ?_, ?_, hown, hlatch,
      eq_withZonesOf_heard hbeyond⟩
    · rw [exec_restartReceived hover hvalid hother hlive hquiet]
      exact congrArg Host.Outcome.next hclears
    · rw [hpeers]
      exact vote_cleared_heard hn
    · rw [hw, ← hlatched]
      rfl
    · rw [hw, ← hview]
      rfl

end Sys2Proof.Machine
end

section
/-! SUPPORT. What a valid frame of another station reaches (R68, R86 to R89): the presence table, the watch list and,
with a DETECT, the valves; beyond them what a cascade reaches. -/
namespace Sys2Proof.Machine

section
variable {s t u : State} {i : Fin 32} {change : Peer → Peer}

/-! ## The presence entry -/

/-- R86: what hearing a station changes. -/
theorem hearPeer_beyondZones (i : Fin 32) (change : Peer → Peer) (s : State) :
    (hearPeer i change s).beyondZones = { s.beyondZones with
      peers := s.peers.set i (Peer.hear s.time s.cfg.presencePeriod (change s.peers[i]))
      watch := (hearPeer i change s).watch } := by
  let new := Peer.hear s.time s.cfg.presencePeriod (change s.peers[i])
  let a : State := { s with peers := s.peers.set i new }
  let b := if s.peers[i].state = .live then a else postStation i a
  let c := if s.peers[i].state = .silent then markOrigin i.val false b else b
  have ha : a.beyondZones = { s.beyondZones with peers := s.peers.set i new } := rfl
  have hb : b.beyondZones = a.beyondZones := by
    dsimp only [b]
    split
    · rfl
    · exact post_beyondZones ..
  have hc : ∃ w, c.beyondZones = { s.beyondZones with peers := s.peers.set i new, watch := w } := by
    dsimp only [c]
    split
    · exact ⟨_, by rw [markOrigin_beyondZones, hb, ha]⟩
    · exact ⟨_, by rw [hb, ha]⟩
  obtain ⟨w, hw⟩ := hc
  have hreported : (hearPeer i change s).beyondZones = c.beyondZones :=
    (reportPeer_cascade s.peers[i] new c).beyondZones
  have hwatch : (hearPeer i change s).watch = w := congrArg State.watch (hreported.trans hw)
  rw [hwatch]
  exact hreported.trans hw

/-- R86: the entry of a station that is heard. -/
theorem peers_hearPeer (i : Fin 32) (change : Peer → Peer) (s : State) : (hearPeer i change s).peers
    = s.peers.set i (Peer.hear s.time s.cfg.presencePeriod (change s.peers[i])) :=
  congrArg State.peers (hearPeer_beyondZones i change s)

/-! ## A frame that has been passed on -/

/-- R68, R86: the state once a valid frame has been used, by what it reaches. -/
theorem eq_withZonesOf_passed {p : Vector Peer 32} (h : t.beyondZones = { (passOn s).beyondZones with
      peers := p, watch := t.watch, valves := t.valves }) : t = ({ s with
    startup := t.startup, watch := t.watch, valves := t.valves
    line :=
      { s.line with
        quiet := 0, quietPart := 0, activity := if s.line.rests = true then .mark else .busy
        receiver := .hunting, stuckWatch := none
        passedTally := min (s.line.passedTally + 1) 65535 }
    peers := p } : State).withZonesOf t := by
  have hstartup : t.startup = (passOn s).startup := (congrArg State.startup h :)
  refine eq_withZonesOf ?_
  rw [hstartup]
  refine h.trans ?_
  rw [passOn_eq]
  rfl

/-- R68, R86: the same, where the valves stay. -/
theorem eq_withZonesOf_heardFrame {p : Vector Peer 32} (h : t.beyondZones = { (passOn s).beyondZones with
      peers := p, watch := t.watch }) : t = ({ s with
    startup := t.startup, watch := t.watch
    line :=
      { s.line with
        quiet := 0, quietPart := 0, activity := if s.line.rests = true then .mark else .busy
        receiver := .hunting, stuckWatch := none
        passedTally := min (s.line.passedTally + 1) 65535 }
    peers := p } : State).withZonesOf t := by
  have hpassed : (passOn s).valves = s.valves := by rw [passOn_eq]
  have hvalves : t.valves = s.valves := (congrArg State.valves h :).trans hpassed
  have hframe : t.beyondZones = { (passOn s).beyondZones with peers := p, watch := t.watch, valves := t.valves } := by
    rw [hvalves, ← hpassed]
    exact h
  have hwhole := eq_withZonesOf_passed hframe
  rw [hvalves] at hwhole
  exact hwhole

/-- R86: what a passed frame finds of time, configuration and presence table. -/
theorem passOn_stands (s : State) : (passOn s).time = s.time ∧ (passOn s).cfg = s.cfg ∧ (passOn s).peers = s.peers
    ∧ (passOn s).zones = s.zones ∧ (passOn s).watch = s.watch ∧ (passOn s).valves = s.valves
    ∧ (passOn s).flow = s.flow := by
  rw [passOn_eq]
  exact ⟨rfl, rfl, rfl, rfl, rfl, rfl, rfl⟩

/-- R86: the state once a station has been heard in a valid frame. -/
theorem hearPeer_passOn (i : Fin 32) (change : Peer → Peer) (s : State) :
    (hearPeer i change (passOn s)).beyondZones = { (passOn s).beyondZones with
      peers := s.peers.set i (Peer.hear s.time s.cfg.presencePeriod (change s.peers[i]))
      watch := (hearPeer i change (passOn s)).watch } := by
  obtain ⟨htime, hcfg, hpeers, -⟩ := passOn_stands s
  have hheard := hearPeer_beyondZones i change (passOn s)
  rw [htime, hcfg, hpeers] at hheard
  exact hheard

/-! ## The valves (R43 to R49) -/

/-- A state that differs by its valves and what a cascade reaches. -/
def ValvesOnly (s t : State) : Prop := t.beyondZones = { s.beyondZones with valves := t.valves }

/-- Nothing changes. -/
theorem ValvesOnly.refl (s : State) : ValvesOnly s s := rfl

/-- A cascade. -/
theorem ValvesOnly.of_cascade (h : t.beyondZones = s.beyondZones) : ValvesOnly s t := by
  have hvalves : t.valves = s.valves := (congrArg State.valves h :)
  rw [ValvesOnly, h, hvalves]
  rfl

/-- One after another. -/
theorem ValvesOnly.trans (h : ValvesOnly s t) (h' : ValvesOnly t u) : ValvesOnly s u := by
  rw [ValvesOnly, h', h]

/-- A change of a valve. -/
theorem valvesOnly_setValve (v : Fin 2) (x : Valve) (s : State) : ValvesOnly s (setValve v x s) := rfl

/-- A valve's report. -/
theorem valvesOnly_reportValves (s : State) : ValvesOnly s (reportValves s) := .of_cascade (reportValves_beyondZones s)

/-- An event. -/
theorem valvesOnly_post (kind : EventKind) (subject value1 value2 flags : Nat) (s : State) :
    ValvesOnly s (post kind subject value1 value2 flags s) := .of_cascade (post_beyondZones ..)

/-- R53: the head window of a valve begins. -/
theorem valvesOnly_beginHead (v : Fin 2) (s : State) : ValvesOnly s (beginHead v s) := by
  unfold beginHead
  dsimp only
  split
  · exact .refl s
  · split
    · exact valvesOnly_setValve ..
    · exact ((valvesOnly_setValve v _ s).trans (valvesOnly_post ..)).trans (valvesOnly_reportValves _)

/-- R50: a window joins the schedule. -/
theorem valvesOnly_addWindow (v : Fin 2) (w : Window) (s : State) : ValvesOnly s (addWindow v w s) := by
  unfold addWindow
  dsimp only
  split
  · exact (valvesOnly_setValve v _ s).trans (valvesOnly_beginHead v _)
  · exact valvesOnly_setValve v _ s

/-- R52: a miss notice. -/
theorem valvesOnly_missNotice (v : Fin 2) (origin : Nat) (closeAt : Instant) (substituted : Bool) (s : State) :
    ValvesOnly s (missNotice v origin closeAt substituted s) :=
  ((valvesOnly_post ..).trans (valvesOnly_setValve v _ _)).trans (valvesOnly_reportValves _)

/-- R47: a prediction for one valve. -/
theorem valvesOnly_predict (station : Nat) (first last : Instant) (e : WatchEntry) (v : Fin 2) (s : State) :
    ValvesOnly s (predict station first last e v s) := by
  unfold predict
  dsimp only
  split
  · exact valvesOnly_addWindow ..
  · split
    · exact valvesOnly_missNotice ..
    · exact valvesOnly_addWindow ..

/-- R43: a watch entry takes a detection. -/
theorem valvesOnly_predictEntry (station channel : Nat) (first last : Instant) (e : WatchEntry) (s : State) :
    ValvesOnly s (predictEntry station channel first last e s) := by
  have hfirst : ValvesOnly s (if e.valves.getLsbD 0 then predict station first last e 0 s else s) := by
    split
    · exact valvesOnly_predict ..
    · exact .refl s
  unfold predictEntry
  dsimp only
  split
  · split
    · exact hfirst.trans (valvesOnly_predict ..)
    · exact hfirst
  · exact .refl s

/-- R43: the transit predictor takes a detection. -/
theorem valvesOnly_takeDetection (station channel : Nat) (first last : Instant) (s : State) :
    ValvesOnly s (takeDetection station channel first last s) := by
  have hfold (l : List WatchEntry) (r : State) :
      ValvesOnly r (l.foldl (fun t e => predictEntry station channel first last e t) r) := by
    induction l generalizing r with
    | nil => exact .refl r
    | cons e l ih => exact (valvesOnly_predictEntry station channel first last e r).trans (ih _)
  exact hfold s.watch s

/-- R87: a DETECT of another station at the transit predictor. -/
theorem valvesOnly_takePeerDetection (source channel count : Byte) (age span : Half) (start : Instant) (s : State) :
    ValvesOnly s (takePeerDetection source channel count age span start s) := by
  unfold takePeerDetection
  dsimp only
  split
  · refine ValvesOnly.trans ?_ (valvesOnly_takeDetection ..)
    split
    · exact valvesOnly_post ..
    · exact .refl s
  · exact .refl s

end

end Sys2Proof.Machine
end

section
/-! PROOF. A zone whose record holds the votes that the state gives (R98 to R102): what a change of a presence entry
makes of it. -/
namespace Sys2Proof.Machine

section
variable {s t : State} {z : Nat} {conf : Bool}

/-! ## Counts of voters -/

/-- R98: a station's vote at or above a level. -/
theorem any_peerVoter (z : Nat) (l : Level) (p : Peer) : (peerVoter z p).any (Level.le l)
    = (decide (p.homeZone = some z)
        && p.vote.any (fun v =>
          decide (levelCode l ≤ levelCode v.level)
            && (decide (p.state = .live) || decide (p.state = .silent) && decide (2 ≤ levelCode v.level)))) := by
  cases hzone : p.homeZone with
  | none => simp [peerVoter, hzone]
  | some n =>
    cases hvote : p.vote with
    | none => simp [peerVoter, hzone, hvote]
    | some v =>
      by_cases hn : n = z
      · have hhalt : levelCode .halt = 2 := rfl
        by_cases hhigh : 2 ≤ levelCode v.level
        · cases hstate : p.state <;> simp [peerVoter, hzone, hvote, hn, hstate, Level.le, hhalt, hhigh]
        · cases hstate : p.state <;> simp [peerVoter, hzone, hvote, hn, hstate, Level.le, hhalt, hhigh]
      · simp [peerVoter, hzone, hvote, hn]

/-- R98: the voters of a zone at or above a level. -/
theorem votesAt_eq (s : State) (z : Nat) (l : Level) : votesAt s z l = s.votersFrom z (levelCode l) := by
  have hown : ((if z = s.cfg.homeZone then [s.zones.own.level] else []).filter (Level.le l)).length
      = if z = s.cfg.homeZone ∧ levelCode l ≤ levelCode s.zones.own.level then 1 else 0 := by
    by_cases hhome : z = s.cfg.homeZone
    · by_cases hlevel : levelCode l ≤ levelCode s.zones.own.level <;> simp [hhome, hlevel, Level.le]
    · simp [hhome]
  rw [votesAt, votersOf, List.filter_append, List.length_append, hown, State.votersFrom,
    ← List.countP_eq_length_filter, List.countP_filterMap]
  congr 1
  refine List.countP_congr fun p _ => ?_
  rw [← any_peerVoter]
  cases peerVoter z p <;> exact Iff.rfl

/-- R98, R99: the counts of a recounted record. -/
theorem recountRecord_counts (s : State) (r : Zone) :
    (recountRecord s r).nWatch = votesAt s r.zone .watch ∧ (recountRecord s r).nHalt = votesAt s r.zone .halt
      ∧ (recountRecord s r).nFire = votesAt s r.zone .fire ∧ (recountRecord s r).members = membersOf s r.zone
      ∧ (recountRecord s r).quorum = effectiveQuorum s (membersOf s r.zone) := by
  unfold recountRecord advanceConfirm
  dsimp only
  (repeat' split) <;> exact ⟨rfl, rfl, rfl, rfl, rfl⟩

/-- R100: some station's vote for the zone stands at FIRE. -/
def StationAtFire (z : Nat) (s : State) : Prop := ∃ p ∈ s.peers.toList, peerVoter z p = some .fire

/-- R98: who votes FIRE for a zone. -/
theorem one_le_votesAt_fire (s : State) (z : Nat) :
    1 ≤ votesAt s z .fire ↔ StationAtFire z s ∨ (z = s.cfg.homeZone ∧ s.zones.own.level = .fire) := by
  have hfire : ∀ l : Level, Level.le .fire l = true ↔ l = .fire := by
    intro l
    cases l <;> decide
  change 0 < (List.filter (Level.le .fire) (votersOf s z)).length ↔ _
  rw [List.length_pos_iff_exists_mem, votersOf]
  simp only [List.mem_filter, List.mem_append, List.mem_filterMap, hfire]
  constructor
  · rintro ⟨l, (⟨p, hp, hl⟩ | hl), rfl⟩
    · exact .inl ⟨p, hp, hl⟩
    · split at hl
      · next hhome => exact .inr ⟨hhome, (List.mem_singleton.1 hl).symm⟩
      · exact absurd hl List.not_mem_nil
  · rintro (⟨p, hp, hl⟩ | ⟨hhome, hl⟩)
    · exact ⟨.fire, .inl ⟨p, hp, hl⟩, rfl⟩
    · refine ⟨.fire, .inr ?_, rfl⟩
      rw [if_pos hhome, hl]
      exact List.mem_singleton_self _

/-! ## The confirm path (R101) -/

/-- R101: while a station stands at FIRE, the confirm path stays as it is. -/
structure ConfirmStands (conf : Bool) (r : Zone) : Prop where
  confirmed : r.confirmed = conf
  begun : conf = true → r.fireStart.isSome = true

/-- R101: a recount with a station at FIRE. -/
theorem ConfirmStands.recountRecord {r : Zone} (h : ConfirmStands conf r) (hfire : StationAtFire r.zone s) :
    ConfirmStands conf (recountRecord s r) := by
  have hsome : votesAt s r.zone .fire ≠ 0 := by
    have := (one_le_votesAt_fire s r.zone).2 (.inl hfire)
    omega
  unfold Machine.recountRecord advanceConfirm
  dsimp only
  rw [if_neg hsome]
  split
  · next hbegins =>
    have hnone : r.fireStart.isNone = true := hbegins.1
    have hconf : conf ≠ true := fun hc => by
      have hstarted := h.begun hc
      cases hstart : r.fireStart <;> simp [hstart] at hnone hstarted
    exact ⟨(Bool.eq_false_iff.2 hconf).symm, fun hc => absurd hc hconf⟩
  · exact ⟨h.confirmed, h.begun⟩

/-- R101: the record of a zone, whose confirm path stands while a station of it stands at FIRE. -/
def Trusts (z : Nat) (conf : Bool) (s : State) : Prop :=
  ∃ r, s.zoneRecord z = some r ∧ (StationAtFire z s → ConfirmStands conf r)

/-- R101: recounts leave the confirm path while a station stands at FIRE. -/
theorem recountKeeps_trusts (z : Nat) (conf : Bool) : RecountKeeps (Trusts z conf) where
  zone s y old hold hs := by
    obtain ⟨r, hr, hstands⟩ := hs
    rw [Trusts, zoneRecord_recounted hold]
    split
    · next hy =>
      subst hy
      obtain rfl : r = old := Option.some.inj (hr.symm.trans hold)
      refine ⟨_, rfl, fun hfire => (hstands hfire).recountRecord ?_⟩
      rw [zone_of_zoneRecord hr]
      exact hfire
    · exact ⟨r, hr, hstands⟩
  post _ _ _ _ _ _ hs := hs
  notify y old new s hs := by
    obtain ⟨-, -, -, -, -, -, -, -, -, hpeers, hzones, -⟩ := notifyView_frame y old new s
    rwa [Trusts, StationAtFire, State.zoneRecord, hzones, hpeers]
  vote _ hs := hs
  halted _ hs := hs

/-! ## A record that holds what the state gives -/

/-- R98 to R102: the record of a zone holds the counts and the level that the state gives, and a view of HALT or more is
latched. -/
def Counted (z : Nat) (conf : Bool) (s : State) : Prop :=
  ∃ r, s.zoneRecord z = some r ∧ r.countedIn s z conf ∧ (2 ≤ levelCode r.view → r.latched = r.view)

/-- The counts read the record, the stations, the configuration, the own level and DEGRADED. -/
theorem Counted.congr (h : Counted z conf s) (hrecord : t.zoneRecord z = s.zoneRecord z) (hpeers : t.peers = s.peers)
    (hconfig : t.config = s.config) (hown : z = s.cfg.homeZone → t.zones.own.level = s.zones.own.level)
    (hdegraded : t.zones.degraded = s.zones.degraded) : Counted z conf t := by
  obtain ⟨r, hr, hcounted, hlatched⟩ := h
  have hcfg : t.cfg = s.cfg := by rw [State.cfg, hconfig, State.cfg]
  have hownVote (n : Nat) : (z = s.cfg.homeZone ∧ n ≤ levelCode t.zones.own.level)
      ↔ (z = s.cfg.homeZone ∧ n ≤ levelCode s.zones.own.level) :=
    and_congr_right fun hhome => by rw [hown hhome]
  have hownFire : (z = s.cfg.homeZone ∧ t.zones.own.level = .fire)
      ↔ (z = s.cfg.homeZone ∧ s.zones.own.level = .fire) :=
    and_congr_right fun hhome => by rw [hown hhome]
  have hvoters (n : Nat) : t.votersFrom z n = s.votersFrom z n := by
    simp only [State.votersFrom, hpeers, hcfg, hownVote]
  refine ⟨r, hrecord.trans hr, ?_, hlatched⟩
  simp only [Zone.countedIn, hvoters, hpeers, hdegraded, hownFire, hcfg] at hcounted ⊢
  exact hcounted

/-- R102: a view of HALT or more is latched. -/
theorem latched_of_view (a b : Level) (h : 2 ≤ levelCode (Level.max a b)) :
    (if Level.le .halt (Level.max a b) && Level.lt b (Level.max a b) then Level.max a b else b) = Level.max a b := by
  revert h
  cases a <;> cases b <;> decide

/-- R102: a view is no lower than its vote level. -/
theorem levelCode_le_max (a b : Level) : levelCode a ≤ levelCode (Level.max a b) := by
  cases a <;> cases b <;> decide

/-- R98 to R102: a recounted record holds what the state gives. -/
theorem recountRecord_countedIn {r : Zone} (hr : s.zoneRecord z = some r)
    (hstands : StationAtFire z s → ConfirmStands conf r) :
    (recountRecord s r).countedIn s z conf ∧ (2 ≤ levelCode (recountRecord s r).view →
      (recountRecord s r).latched = (recountRecord s r).view) := by
  have hzone : r.zone = z := zone_of_zoneRecord hr
  obtain ⟨hwatch, hhalt, hfire, hmembers, hquorum⟩ := recountRecord_counts s r
  obtain ⟨hlevel, hview, hlatched⟩ := recountRecord_levels s r
  rw [hzone] at hwatch hhalt hfire hmembers hquorum hlevel hview hlatched
  have hconfirms : (1 ≤ votesAt s z .fire ∧ r.confirmed = true
        ∨ (z = s.cfg.homeZone ∧ s.zones.own.level = .fire))
      ↔ (1 ≤ votesAt s z .fire ∧ conf = true ∨ (z = s.cfg.homeZone ∧ s.zones.own.level = .fire)) := by
    by_cases hown : z = s.cfg.homeZone ∧ s.zones.own.level = .fire
    · simp [hown]
    · by_cases hsome : 1 ≤ votesAt s z .fire
      · have hstation := ((one_le_votesAt_fire s z).1 hsome).resolve_right hown
        rw [(hstands hstation).confirmed]
      · simp [hsome]
  refine ⟨⟨?_, ?_, ?_, ?_, ?_, ?_, ?_⟩, fun hhigh => ?_⟩
  · rw [hwatch, votesAt_eq]
    rfl
  · rw [hhalt, votesAt_eq]
    rfl
  · rw [hfire, votesAt_eq]
    rfl
  · rw [hmembers, membersOf, List.countP_eq_length_filter]
  · rw [hquorum, hmembers]
    rfl
  · rw [hlevel, hquorum, hfire, hhalt, hwatch, zoneVoteLevel, hzone]
    simp only [hconfirms]
  · rw [hlevel, hview]
    exact levelCode_le_max _ _
  · rw [hview] at hhigh
    rw [hlatched, hview]
    exact latched_of_view _ _ hhigh

/-- R98 to R102: a zone that has been recounted. -/
theorem counted_updateZone {r : Zone} (hr : s.zoneRecord z = some r)
    (hstands : StationAtFire z s → ConfirmStands conf r) :
    Counted z conf (updateZone z (fun _ => recountRecord s r) s) := by
  obtain ⟨hcounted, hlatched⟩ := recountRecord_countedIn hr hstands
  refine ⟨_, ?_, hcounted, hlatched⟩
  rw [zoneRecord_recounted hr, if_pos rfl]

/-- R103: the notices of a view leave the counts. -/
theorem Counted.notifyView (h : Counted z conf s) (y : Nat) (old new : Level) :
    Counted z conf (notifyView y old new s) := by
  obtain ⟨-, -, hconfig, -, -, -, -, -, -, hpeers, hzones, -⟩ := notifyView_frame y old new s
  exact h.congr (by rw [State.zoneRecord, hzones, State.zoneRecord]) hpeers hconfig (fun _ => by rw [hzones])
    (by rw [hzones])

/-- R98: a zone that has been recounted holds what the state gives, whatever its notices bring. -/
theorem counted_recountZoneWith {onHalt : State → State}
    (hhalt : ∀ t, Counted z conf t → Trusts z conf t → Counted z conf (onHalt t)) (h : Trusts z conf s) :
    Counted z conf (recountZoneWith onHalt z s) := by
  obtain ⟨r, hr, hstands⟩ := h
  have hcounted := counted_updateZone hr hstands
  have htrusts := (recountKeeps_trusts z conf).zone s z r hr ⟨r, hr, hstands⟩
  let u := post .zoneLevel z (levelCode (recountRecord s r).view) (levelCode r.view)
    (flagLatchChanged (decide ((recountRecord s r).latched ≠ r.latched))) (updateZone z (fun _ => recountRecord s r) s)
  have hposted : Counted z conf u := hcounted.congr rfl rfl rfl (fun _ => rfl) rfl
  have hnoticed := hposted.notifyView z r.view (recountRecord s r).view
  have htrusts' := (recountKeeps_trusts z conf).notify z r.view (recountRecord s r).view u htrusts
  rw [recountZoneWith, hr]
  dsimp only
  (repeat' split)
  · exact hcounted
  · exact hhalt _ hnoticed htrusts'
  · exact hnoticed

/-- R98: a recount of another zone leaves the record of a zone with what the state gives. -/
theorem Counted.recountOther {y : Nat} (h : Counted z conf s) (hy : y ≠ z) :
    Counted z conf (recountZoneWith (fun t => t) y s) := by
  cases hold : s.zoneRecord y with
  | none => rwa [recountZoneWith, hold]
  | some old =>
    have hupdated : Counted z conf (updateZone y (fun _ => recountRecord s old) s) := by
      refine h.congr ?_ rfl rfl (fun _ => rfl) rfl
      rw [zoneRecord_recounted hold, if_neg hy.symm]
    have hposted (k a b c d : _) : Counted z conf (post k a b c d (updateZone y (fun _ => recountRecord s old) s)) :=
      hupdated.congr rfl rfl rfl (fun _ => rfl) rfl
    rw [recountZoneWith, hold]
    dsimp only
    (repeat' split)
    · exact hupdated
    · exact (hposted _ _ _ _ _).notifyView _ _ _
    · exact (hposted _ _ _ _ _).notifyView _ _ _

/-- R98: the report of HALTED leaves the record of a zone with what the state gives. -/
theorem counted_reportHalted (h : Counted z conf s) (htrusts : Trusts z conf s) : Counted z conf (reportHalted s) := by
  let v := votesTaken (haltedNow s)
  let w := postVote (handVote v.zones.own v)
  by_cases hown : v.zones.own = s.zones.own
  · have hsame : reportHalted s = v := if_pos hown
    rw [hsame]
    exact h.congr rfl rfl rfl (fun _ => congrArg Vote.level hown) rfl
  · have hrecounts : reportHalted s = recountZoneWith (fun t => t) s.cfg.homeZone w := if_neg hown
    have htrustsW : Trusts z conf w := htrusts
    rw [hrecounts]
    by_cases hz : z = s.cfg.homeZone
    · rw [← hz]
      exact counted_recountZoneWith (fun _ ht _ => ht) htrustsW
    · have hcountedW : Counted z conf w := h.congr rfl rfl rfl (fun hhome => absurd hhome hz) rfl
      exact hcountedW.recountOther (Ne.symm hz)

/-- R98: a zone that is recounted. -/
theorem counted_recountZone (h : Trusts z conf s) : Counted z conf (recountZone z s) :=
  counted_recountZoneWith (fun _ ht htrusts => counted_reportHalted ht htrusts) h

/-! ## A vote of HALT or FIRE in the counts -/

/-- R98: a LIVE station with a vote is among the voters of its zone. -/
theorem one_le_votersFrom {n : Fin 32} {v : Vote} (hlive : s.peers[n].state = .live)
    (hzone : s.peers[n].homeZone = some z) (hvote : s.peers[n].vote = some v) {k : Nat} (hk : k ≤ levelCode v.level) :
    1 ≤ s.votersFrom z k := by
  refine le_trans ?_ (Nat.le_add_right _ _)
  refine List.countP_pos_iff.2 ⟨s.peers[n], ?_, ?_⟩
  · rw [Vector.mem_toList_iff]
    exact Vector.getElem_mem n.isLt
  · simp only [hlive, hzone, hvote]
    simpa using hk

/-- R98 to R102: what a record that holds what the state gives says of a LIVE station's vote. -/
theorem Counted.of_vote {n : Fin 32} {v : Vote} (h : Counted z conf s) (hlive : s.peers[n].state = .live)
    (hzone : s.peers[n].homeZone = some z) (hvote : s.peers[n].vote = some v) :
    ∃ u ∈ s.zoneRecord z, u.countedIn s z conf
      ∧ (2 ≤ levelCode v.level → 1 ≤ u.nHalt ∧ 2 ≤ levelCode u.view ∧ 2 ≤ levelCode u.latched)
      ∧ (v.level = .fire → u.quorum = 1 → u.view = .fire ∧ u.latched = .fire) := by
  obtain ⟨r, hr, hcounted, hlatched⟩ := h
  obtain ⟨-, hhalt, hfire, -, -, hlevel, hview⟩ := id hcounted
  refine ⟨r, hr, hcounted, fun hhigh => ?_, fun hv hquorum => ?_⟩
  · have hsome : 1 ≤ r.nHalt := by
      rw [hhalt]
      exact one_le_votersFrom hlive hzone hvote hhigh
    have hlevel' : 2 ≤ levelCode r.voteLevel := by
      rw [hlevel]
      split
      · decide
      · decide
    have hview' : 2 ≤ levelCode r.view := hlevel'.trans hview
    exact ⟨hsome, hview', by rw [hlatched hview']; exact hview'⟩
  · have hsome : 1 ≤ r.nFire := by
      rw [hfire]
      exact one_le_votersFrom hlive hzone hvote (by rw [hv]; decide)
    have hlevel' : r.voteLevel = .fire := by
      rw [hlevel, if_pos (.inl (by omega))]
    have hview' : r.view = .fire := by
      rw [hlevel'] at hview
      cases hcase : r.view <;> rw [hcase] at hview <;> simp [levelCode] at hview
    exact ⟨hview', by rw [hlatched (by rw [hview']; decide), hview']⟩

/-! ## A presence entry that changes (R89) -/

/-- R93: a report of conditions keeps what recounts keep and what does not read the conditions. -/
theorem RecountKeeps.reportConditions {P : State → Prop} (h : RecountKeeps P) {c : Conditions} (hs : P s)
    (hvotes : P (votesTaken { s with zones := { s.zones with conditions := c } })) :
    P (Machine.reportConditions c s) := by
  unfold Machine.reportConditions
  split
  · exact h.recountOwn hvotes
  · exact hs

/-- R89: a changed entry whose zones are recounted. -/
theorem counted_reportPeer {old new : Peer} (ho : s.operating = true) (hdiffer : votesDiffer old new = true)
    (hzone : new.homeZone = some z) (h : Trusts z conf s) : Counted z conf (reportPeer old new s) := by
  have hrecounts : reportPeer old new s = if new.homeZone = old.homeZone then recountHome old.homeZone s
      else recountHome new.homeZone (recountHome old.homeZone s) := if_pos (by rw [ho, hdiffer]; rfl)
  rw [hrecounts, hzone]
  split
  · next hsame =>
    rw [← hsame]
    exact counted_recountZone h
  · refine counted_recountZone ?_
    cases old.homeZone with
    | none => exact h
    | some y => exact (recountKeeps_trusts z conf).recountZone y h

/-- R86, R40: the state in which a station has been heard and its watch entries marked, before its zones are
recounted. -/
def heardMarked (i : Fin 32) (change : Peer → Peer) (s : State) : State :=
  let a : State := { s with peers := s.peers.set i (Peer.hear s.time s.cfg.presencePeriod (change s.peers[i])) }
  let b := if s.peers[i].state = .live then a else postStation i a
  if s.peers[i].state = .silent then markOrigin i.val false b else b

/-- R89: a station that is heard has its zones recounted last. -/
theorem hearPeer_eq (i : Fin 32) (change : Peer → Peer) (s : State) : hearPeer i change s
    = reportPeer s.peers[i] (Peer.hear s.time s.cfg.presencePeriod (change s.peers[i])) (heardMarked i change s) := rfl

/-- R86: what a recount keeps and a changed entry, a posted event and marked watch entries leave. -/
theorem RecountKeeps.heardMarked {P : State → Prop} (h : RecountKeeps P) {i : Fin 32} {change : Peer → Peer}
    (hentry : P { s with peers := s.peers.set i (Peer.hear s.time s.cfg.presencePeriod (change s.peers[i])) })
    (hwatch : ∀ (r : State) (w : List WatchEntry), P r → P { r with watch := w })
    (hvotes : ∀ (r : State) (c : Conditions), P r →
      P (votesTaken { r with zones := { r.zones with conditions := c } })) :
    P (heardMarked i change s) := by
  have hposted : P (if s.peers[i].state = .live then
        { s with peers := s.peers.set i (Peer.hear s.time s.cfg.presencePeriod (change s.peers[i])) }
      else postStation i
        { s with peers := s.peers.set i (Peer.hear s.time s.cfg.presencePeriod (change s.peers[i])) }) := by
    split
    · exact hentry
    · exact h.post _ _ _ _ _ _ hentry
  unfold Machine.heardMarked
  dsimp only
  split
  · exact h.reportConditions (hwatch _ _ hposted) (hvotes _ _ (hwatch _ _ hposted))
  · exact hposted

/-- R86: a station that is heard leaves the node in operation. -/
theorem operating_heardMarked (ho : s.operating = true) (i : Fin 32) (change : Peer → Peer) :
    (heardMarked i change s).operating = true := by
  have hmarked (n : Nat) (r : State) : (markOrigin n false r).startup = r.startup :=
    (congrArg State.startup (markOrigin_beyondZones n false r) :)
  have hstartup : (heardMarked i change s).startup = s.startup := by
    unfold heardMarked
    dsimp only
    split
    · rw [hmarked]
      split <;> rfl
    · split <;> rfl
  rw [State.operating, hstartup]
  exact ho

/-- R86, R89: a station that is heard with a changed entry has its zone recounted. -/
theorem counted_hearPeer {i : Fin 32} {change : Peer → Peer} (ho : s.operating = true) {r : Zone}
    (hr : s.zoneRecord z = some r) (hstart : r.confirmed = true → r.fireStart.isSome = true)
    (hzone : (change s.peers[i]).homeZone = some z)
    (hdiffer : votesDiffer s.peers[i] (Peer.hear s.time s.cfg.presencePeriod (change s.peers[i])) = true) :
    Counted z r.confirmed (hearPeer i change s) := by
  have htrusts : Trusts z r.confirmed (heardMarked i change s) :=
    (recountKeeps_trusts z r.confirmed).heardMarked ⟨r, hr, fun _ => ⟨rfl, hstart⟩⟩ (fun _ _ hs => hs)
      (fun _ _ hs => hs)
  rw [hearPeer_eq]
  exact counted_reportPeer (operating_heardMarked ho i change) hdiffer hzone htrusts

end

end Sys2Proof.Machine
end

section
/-! PROOF. Frames of other stations (R66 to R68, R86 to R89): the settlement of O45. -/
namespace Sys2Proof.Machine

section
variable {s t : State} {source : Byte}

/-! ## The commands (R68) -/

/-- R68: a VOTE of another station. -/
theorem exec_voteReceived (zone level reason : Byte) (hover : s.handedOver = true) (hvalid : validSource source = true)
    (hother : source.toNat ≠ s.station) (hquiet : QuietSettled s) :
    exec (.voteReceived source zone level reason) s
      = .next (hearPeer (stationIndex source) (voteChange zone level reason) (passOn s)) := by
  refine congrArg Host.Outcome.next ?_
  rw [settled_eq_self hquiet, takeVote, takeFrame_uses _ hover hvalid hother]

/-- R68: a PRESENCE of another station. -/
theorem exec_presenceReceived (zone level reason extraction : Byte) (velocity : Half) (status : Byte)
    (hover : s.handedOver = true) (hvalid : validSource source = true) (hother : source.toNat ≠ s.station)
    (hquiet : QuietSettled s) : exec (.presenceReceived source zone level reason extraction velocity status) s
      = .next (hearPeer (stationIndex source) (presenceChange zone level reason extraction velocity status)
        (passOn s)) := by
  refine congrArg Host.Outcome.next ?_
  rw [settled_eq_self hquiet, takePresence, takeFrame_uses _ hover hvalid hother]

/-- R68: a DETECT of another station. -/
theorem exec_detectReceived (channel count : Byte) (age span peak : Half) (hover : s.handedOver = true)
    (hvalid : validSource source = true) (hother : source.toNat ≠ s.station) (hquiet : QuietSettled s) :
    exec (.detectReceived source channel count age span peak) s
      = .next (takePeerDetection source channel count age span s.rxStart
          (hearPeer (stationIndex source) (fun p => p) (passOn s))) := by
  refine congrArg Host.Outcome.next ?_
  rw [settled_eq_self hquiet, takeDetect, takeFrame_uses _ hover hvalid hother]

/-! ## The fields of a frame (R88) -/

/-- R88: fields that are good name a zone and a vote. -/
theorem voteField_good {zone level reason : Byte} {l : Level} (hlevel : levelOfCode level.toNat = some l)
    (hlow : 1 ≤ zone.toNat) (hhigh : zone.toNat ≤ 15) :
    voteField zone level reason = some (zone.toNat, ⟨l, reasonOfCode reason.toNat⟩) := by
  rw [voteField, hlevel]
  exact if_pos ⟨hlow, hhigh⟩

/-- R88: fields that are not good are not stored. -/
theorem voteField_bad {zone level reason : Byte} (h : 3 < level.toNat ∨ zone.toNat = 0 ∨ 15 < zone.toNat) :
    voteField zone level reason = none := by
  unfold voteField
  split
  · rfl
  · next l hlevel =>
    refine if_neg fun hzone => ?_
    obtain h | h | h := h
    · simp only [levelOfCode, show level.toNat ≠ 0 by omega, show level.toNat ≠ 1 by omega,
        show level.toNat ≠ 2 by omega, show level.toNat ≠ 3 by omega, if_false] at hlevel
      exact absurd hlevel nofun
    · omega
    · omega

/-- R88: what a VOTE with good fields makes of its entry. -/
theorem voteChange_good {zone level reason : Byte} {l : Level} (hlevel : levelOfCode level.toNat = some l)
    (hlow : 1 ≤ zone.toNat) (hhigh : zone.toNat ≤ 15) (p : Peer) : voteChange zone level reason p
      = { p with homeZone := some zone.toNat, vote := some ⟨l, reasonOfCode reason.toNat⟩ } := by
  rw [voteChange, voteField_good hlevel hlow hhigh]

/-- R88: what a PRESENCE with good fields makes of its entry. -/
theorem presenceChange_good {zone level reason extraction status : Byte} {velocity : Half} {l : Level}
    (hlevel : levelOfCode level.toNat = some l) (hlow : 1 ≤ zone.toNat) (hhigh : zone.toNat ≤ 15) (p : Peer) :
    presenceChange zone level reason extraction velocity status p = { p with
      homeZone := some zone.toNat, vote := some ⟨l, reasonOfCode reason.toNat⟩
      extraction := some extraction, velocity := some (velocityField velocity)
      flow := some (flowField status), flags := some (flagsField status) } := by
  rw [presenceChange, voteField_good hlevel hlow hhigh]

/-- R68, R86: what a frame with a bad field stores, on the node that has settled. -/
theorem peers_takeFrame_heard {kind : FrameKind} {change : Peer → Peer} (hchange : ∀ p, change p = p)
    (hover : s.handedOver = true) (hvalid : validSource source = true) (hother : source.toNat ≠ s.station) :
    (takeFrame kind source (hearPeer (stationIndex source) change) s.settled).peers
      = s.peers.set (stationIndex source)
        { s.peers[stationIndex source] with
          state := .live, lastHeard := some s.time
          silence := some (later s.time (3 * s.cfg.presencePeriod)) } := by
  have hover' : s.settled.handedOver = true := by simpa [State.handedOver] using hover
  have hother' : source.toNat ≠ s.settled.station := by simpa [State.station] using hother
  obtain ⟨htime, hcfg, hpeers, -⟩ := passOn_stands s.settled
  have hsettled : s.settled.time = s.time ∧ s.settled.cfg = s.cfg ∧ s.settled.peers = s.peers := by
    simp [State.cfg]
  rw [takeFrame_uses _ hover' hvalid hother', peers_hearPeer, hchange, htime, hcfg, hpeers, hsettled.1, hsettled.2.1,
    hsettled.2.2]
  rfl

/-- R98, R104: a zone without a record stays without one when a station is heard. -/
theorem zoneRecord_hearPeer_none {z : Nat} (h : s.zoneRecord z = none) (i : Fin 32) (change : Peer → Peer) :
    (hearPeer i change s).zoneRecord z = none := by
  have hkeeps : RecountKeeps (fun s => s.zoneRecord z = none) :=
    { zone := fun s y old hold hs => by
        rw [zoneRecord_recounted hold]
        split
        · next hy =>
          rw [hy] at hs
          exact absurd (hs.symm.trans hold) nofun
        · exact hs
      post := fun _ _ _ _ _ _ hs => hs
      notify := fun y old new s hs => by
        obtain ⟨-, -, -, -, -, -, -, -, -, -, hzones, -⟩ := notifyView_frame y old new s
        rwa [State.zoneRecord, hzones]
      vote := fun _ hs => hs
      halted := fun _ hs => hs }
  have hmarked : (heardMarked i change s).zoneRecord z = none :=
    hkeeps.heardMarked (by exact h) (fun _ _ hs => hs) (fun _ _ hs => hs)
  have hhome (y : Option Nat) (r : State) (hr : r.zoneRecord z = none) : (recountHome y r).zoneRecord z = none := by
    cases y with
    | none => exact hr
    | some y => exact hkeeps.recountZone y hr
  rw [hearPeer_eq]
  unfold reportPeer
  dsimp only
  (repeat' split)
  · exact hhome _ _ hmarked
  · exact hhome _ _ (hhome _ _ hmarked)
  · exact hmarked

/-- R89, R98 to R102: a frame that changes its entry has the zone of its vote recounted. -/
theorem counted_heardFrame {i : Fin 32} {change : Peer → Peer} {z : Nat} {v : Vote} {r : Zone} {p : Peer}
    (ho : s.operating = true) (hr : s.zoneRecord z = some r) (hstart : r.confirmed = true → r.fireStart.isSome = true)
    (hchange : change s.peers[i] = p) (hzone : p.homeZone = some z) (hvote : p.vote = some v)
    (hchanged : s.peers[i].state ≠ .live ∨ s.peers[i].homeZone ≠ some z ∨ s.peers[i].vote ≠ some v) :
    ∃ u ∈ (hearPeer i change (passOn s)).zoneRecord z,
      u.countedIn (hearPeer i change (passOn s)) z r.confirmed
        ∧ (2 ≤ levelCode v.level → 1 ≤ u.nHalt ∧ 2 ≤ levelCode u.view ∧ 2 ≤ levelCode u.latched)
        ∧ (v.level = .fire → u.quorum = 1 → u.view = .fire ∧ u.latched = .fire) := by
  obtain ⟨-, -, hpeers, hzones, -⟩ := passOn_stands s
  have hop : (passOn s).operating = true := operating_iff.2 ((startup_passOn s).1.trans (operating_iff.1 ho))
  have hrecord : (passOn s).zoneRecord z = some r := by rwa [State.zoneRecord, hzones]
  have hchange' : change (passOn s).peers[i] = p := by rw [hpeers, hchange]
  have hdiffer : votesDiffer (passOn s).peers[i]
      (Peer.hear (passOn s).time (passOn s).cfg.presencePeriod (change (passOn s).peers[i])) = true := by
    rw [hchange', hpeers]
    unfold votesDiffer Peer.hear
    rw [hzone, hvote]
    obtain h | h | h := hchanged
    · simpa using .inl (.inl h)
    · simpa using .inl (.inr h)
    · simpa using .inr h
  have hcounted := counted_hearPeer hop hrecord hstart (by rw [hchange', hzone]) hdiffer
  have hentry : (hearPeer i change (passOn s)).peers[i]
      = Peer.hear (passOn s).time (passOn s).cfg.presencePeriod p := by
    rw [peers_hearPeer, hchange']
    exact Vector.getElem_set_self i.isLt
  exact hcounted.of_vote (n := i) (by rw [hentry]; rfl) (by rw [hentry]; exact hzone) (by rw [hentry]; exact hvote)

/-- R87: a station that is heard and then reaches the valves. -/
theorem eq_withZonesOf_valves {u : State} {p : Vector Peer 32}
    (hheard : u.beyondZones = { (passOn s).beyondZones with peers := p, watch := u.watch }) (h : ValvesOnly u t) :
    t = ({ s with
      startup := t.startup, watch := t.watch, valves := t.valves
      line :=
        { s.line with
          quiet := 0, quietPart := 0, activity := if s.line.rests = true then .mark else .busy
          receiver := .hunting, stuckWatch := none
          passedTally := min (s.line.passedTally + 1) 65535 }
      peers := p } : State).withZonesOf t := by
  have hwatch : t.watch = u.watch := (congrArg State.watch h :)
  refine eq_withZonesOf_passed ?_
  rw [hwatch]
  refine Eq.trans h ?_
  rw [hheard]

/-! ## Bytes one by one (R66, R67) -/

/-- R66, R67: the last byte of a VOTE. -/
theorem step_lastByte {zone level reason data : Byte} {stop : StopBit} {start : Instant} {bytes : List Byte}
    (hp : s.pending = []) (hd : dueCommand s = none) (hactivity : s.line.activity = .byte data stop)
    (hreceiver : s.line.receiver = .taking start bytes) (hstop : stop = .mark ∨ stop = .followed) {c d : Byte}
    (hbytes : bytes ++ [data] = [0x5B, 0x22, source, zone, level, reason, c, d]) :
    step s = .next (takeWhole .vote [0x5B, 0x22, source, zone, level, reason, c, d] s) := by
  have hends : s.byteEnds = true := by rw [State.byteEnds, hactivity]
  have hgood : stopGood stop = true := by obtain h | h := hstop <;> rw [h] <;> rfl
  rw [step_endByte hp hd hends, endByte, hactivity]
  dsimp only
  rw [endOtherByte, hreceiver]
  dsimp only
  rw [hbytes, endFrameByte, if_pos hgood]
  rfl

end

/-- Settles O45: each frame of another station at its presence entry, and a vote that recounts its zone. -/
theorem framesReachTheirPresenceEntry : Obligations.FramesReachTheirPresenceEntry := by
  refine ⟨fun source zone level reason s l hover hvalid hother hlevel hlow hhigh hquiet => ⟨_,
      exec_voteReceived zone level reason hover hvalid hother hquiet, ?_⟩,
    fun source zone level reason s hover hvalid hother hbad => ⟨_, rfl, ?_⟩,
    fun source zone level reason extraction velocity status s l hover hvalid hother hlevel hlow hhigh hquiet => ⟨_,
      exec_presenceReceived zone level reason extraction velocity status hover hvalid hother hquiet, ?_⟩,
    fun source zone level reason extraction velocity status s hover hvalid hother hbad => ⟨_, rfl, ?_⟩,
    fun source channel count age span peak s hover hvalid hother hquiet => ⟨_,
      exec_detectReceived channel count age span peak hover hvalid hother hquiet, ?_⟩,
    fun source zone s hover hvalid hother hzone hnone hquiet => ?_,
    fun source zone level reason s l r ho hover hvalid hother hlevel hlow hhigh hquiet hr hconfirmed hchanged => ⟨_,
      exec_voteReceived zone level reason hover hvalid hother hquiet, ?_⟩,
    fun source zone level reason extraction velocity status s l r ho hover hvalid hother hlevel hlow hhigh hquiet hr
        hconfirmed hchanged => ⟨_,
      exec_presenceReceived zone level reason extraction velocity status hover hvalid hother hquiet, ?_⟩,
    fun source zone level reason data stop start bytes s hp hd hactivity hreceiver hstop hbytes => ?_,
    fun source zone level reason c data stop start s hover hp hd hactivity hreceiver hstop hbad => ?_⟩
  · have hheard := hearPeer_passOn (stationIndex source) (voteChange zone level reason) s
    have hframe := eq_withZonesOf_heardFrame hheard
    have htally : (hearPeer (stationIndex source) (voteChange zone level reason) (passOn s)).line.passedTally
        = min (s.line.passedTally + 1) 65535 := by
      have hpassed : (passOn s).line.passedTally = min (s.line.passedTally + 1) 65535 := by rw [passOn_eq]
      exact (congrArg (fun r : State => r.line.passedTally) hheard :).trans hpassed
    rw [voteChange_good hlevel hlow hhigh] at hframe
    refine ⟨htally, ?_⟩
    rw [htally]
    exact hframe
  · have hchange : ∀ p, voteChange zone level reason p = p := fun p => by rw [voteChange, voteField_bad hbad]
    exact peers_takeFrame_heard hchange hover hvalid hother
  · have hheard := hearPeer_passOn (stationIndex source)
      (presenceChange zone level reason extraction velocity status) s
    have hframe := eq_withZonesOf_heardFrame hheard
    rw [presenceChange_good hlevel hlow hhigh] at hframe
    exact hframe
  · have hchange : ∀ p, presenceChange zone level reason extraction velocity status p = p := fun p => by
      rw [presenceChange, voteField_bad hbad]
    exact peers_takeFrame_heard hchange hover hvalid hother
  · exact eq_withZonesOf_valves (hearPeer_passOn (stationIndex source) (fun p => p) s)
      (valvesOnly_takePeerDetection source channel count age span s.rxStart _)
  · let u := hearPeer (stationIndex source) (fun p => p) (passOn s)
    have hexec : exec (.restartReceived source zone) s = .next (takeRestart zone.toNat source.toNat u) := by
      refine congrArg Host.Outcome.next ?_
      rw [settled_eq_self hquiet, takeRestartFrame, takeFrame_uses _ hover hvalid hother]
    have hrecord : u.zoneRecord zone.toNat = none := by
      refine zoneRecord_hearPeer_none ?_ _ _
      rw [State.zoneRecord, (passOn_stands s).2.2.2.1]
      exact hnone
    have hconfig : u.config = s.config := by
      have hpassed : (passOn s).config = s.config := by rw [passOn_eq]
      exact (congrArg State.config (hearPeer_passOn (stationIndex source) (fun p => p) s) :).trans hpassed
    have hzone' : zone.toNat ≠ u.cfg.homeZone := by rwa [State.cfg, hconfig]
    have hnothing : takeRestart zone.toNat source.toNat u = u := by
      unfold takeRestart
      rw [if_neg hzone', hrecord]
      split <;> rfl
    refine ⟨u, by rw [hexec, hnothing], ?_⟩
    exact eq_withZonesOf_heardFrame (hearPeer_passOn (stationIndex source) (fun p => p) s)
  · exact counted_heardFrame ho hr hconfirmed (voteChange_good hlevel hlow hhigh _) rfl rfl hchanged
  · exact counted_heardFrame ho hr hconfirmed (presenceChange_good hlevel hlow hhigh _) rfl rfl hchanged
  · obtain ⟨c, d, hcrc⟩ : ∃ c d, bytes2 (crc16 [0x22, source, zone, level, reason]).toNat = [c, d] := ⟨_, _, rfl⟩
    rw [hcrc] at hbytes
    have hgood : crcGood [0x5B, 0x22, source, zone, level, reason, c, d] = true := decide_eq_true hcrc
    rw [step_lastByte hp hd hactivity hreceiver hstop hbytes]
    refine congrArg Host.Outcome.next ?_
    rw [settled_eq_self (fun hmark => absurd (hactivity.symm.trans hmark) nofun)]
    exact if_pos hgood
  · have hbadCrc : crcGood [0x5B, 0x22, source, zone, level, reason, c, data] = false :=
      decide_eq_false fun h => hbad h.symm
    rw [step_lastByte (c := c) (d := data) hp hd hactivity hreceiver hstop rfl, exec_frameError hover,
      settled_eq_self (fun hmark => absurd (hactivity.symm.trans hmark) nofun)]
    exact congrArg Host.Outcome.next (if_neg (by rw [hbadCrc]; exact Bool.false_ne_true))

end Sys2Proof.Machine
end

section
/-! PROOF. The transit predictor (R43 to R53): the settlement of O34. -/
namespace Sys2Proof.Machine

section
variable {s t r : State} {e : WatchEntry} {v : Fin 2} {source channel count : Byte} {age span : Half} {start : Instant}

/-! ## The node that a DETECT finds -/

/-- R40: a watch entry but for its mark. -/
structure SameRoute (e e' : WatchEntry) : Prop where
  origin : e'.origin = e.origin
  channels : e'.channels = e.channels
  length : e'.length = e.length
  source : e'.source = e.source
  valves : e'.valves = e.valves

/-- R40, R86: a single watch entry stays but for its mark where a station is heard. -/
theorem watch_hearPeer (h : s.watch = [e]) (i : Fin 32) (change : Peer → Peer) :
    ∃ e', (hearPeer i change s).watch = [e'] ∧ SameRoute e e' := by
  have hreported (old new : Peer) (r : State) : (reportPeer old new r).watch = r.watch :=
    (congrArg State.watch (reportPeer_cascade old new r).beyondZones :)
  have hmarked (n : Nat) (r : State) : (markOrigin n false r).watch
      = r.watch.map (fun e => if e.origin = n then { e with silent := false } else e) :=
    (congrArg State.watch (markOrigin_beyondZones n false r) :)
  have hbefore : (if s.peers[i].state = .live then
        { s with peers := s.peers.set i (Peer.hear s.time s.cfg.presencePeriod (change s.peers[i])) }
      else postStation i
        { s with peers := s.peers.set i (Peer.hear s.time s.cfg.presencePeriod (change s.peers[i])) }).watch = [e] := by
    split <;> exact h
  rw [hearPeer_eq, hreported]
  unfold heardMarked
  dsimp only
  split
  · rw [hmarked, hbefore]
    refine ⟨_, rfl, ?_⟩
    dsimp only
    split <;> exact ⟨rfl, rfl, rfl, rfl, rfl⟩
  · exact ⟨e, hbefore, rfl, rfl, rfl, rfl, rfl⟩

/-- R86, R87: what the predictor finds of the node that a DETECT has reached. -/
structure Found (s : State) (i : Fin 32) (r : State) : Prop where
  time : r.time = s.time
  cfg : r.cfg = s.cfg
  valves : r.valves = s.valves
  flow : r.flow = s.flow
  operating : r.operating = true
  peers : r.peers = s.peers.set i (Peer.hear s.time s.cfg.presencePeriod s.peers[i])
  level : ∀ x, r.level x = s.level x

/-- R86: the node that has heard a station. -/
theorem found_of_heard {i : Fin 32} (ho : s.operating = true)
    (h : r.beyondZones = { (passOn s).beyondZones with
      peers := s.peers.set i (Peer.hear s.time s.cfg.presencePeriod s.peers[i]), watch := r.watch }) :
    Found s i r := by
  obtain ⟨htime, hcfg, -, -, -, hvalves, hflow⟩ := passOn_stands s
  have hpassed : (passOn s).config = s.config ∧ (passOn s).inputs = s.inputs := by
    rw [passOn_eq]
    exact ⟨rfl, rfl⟩
  have hconfig : r.config = s.config := (congrArg State.config h :).trans hpassed.1
  have hinputs : r.inputs = s.inputs := (congrArg State.inputs h :).trans hpassed.2
  have hstartup : r.startup = (passOn s).startup := (congrArg State.startup h :)
  refine ⟨(congrArg State.time h :).trans htime, ?_, (congrArg State.valves h :).trans hvalves,
    (congrArg State.flow h :).trans hflow, ?_, (congrArg State.peers h :), fun x => ?_⟩
  · rw [State.cfg, hconfig, State.cfg]
  · refine operating_iff.2 ?_
    rw [hstartup, (startup_passOn s).1]
    exact operating_iff.1 ho
  · rw [State.level, hinputs, State.level]

/-- The predictor finds the same behind an event. -/
theorem Found.post {i : Fin 32} (h : Found s i r) (kind : EventKind) (subject value1 value2 flags : Nat) :
    Found s i (post kind subject value1 value2 flags r) :=
  ⟨h.time, h.cfg, h.valves, h.flow, h.operating, h.peers, h.level⟩

/-- R43: a single watch entry that matches, for one valve. -/
theorem takeDetection_single {station ch : Nat} (hwatch : r.watch = [e]) (hmatch : e.matches station ch = true)
    (hvalve : e.valves.getLsbD v.val = true) (honly : e.valves.getLsbD (other v).val = false) (first last : Instant) :
    takeDetection station ch first last r = predict station first last e v r := by
  have htake : takeDetection station ch first last r = predictEntry station ch first last e r := by
    rw [takeDetection, hwatch]
    rfl
  rw [htake, predictEntry, if_pos hmatch]
  dsimp only
  have hv : v = 0 ∨ v = 1 := by omega
  obtain rfl | rfl := hv
  · exact (if_neg (Bool.eq_false_iff.1 honly)).trans (if_pos hvalve)
  · exact (if_pos hvalve).trans (congrArg (predict station first last e 1) (if_neg (Bool.eq_false_iff.1 honly)))

/-- R43, R87: a DETECT that matches the only watch entry, for one valve. -/
theorem exec_detect_single (count : Byte) (peak : Half) {bytes : List Byte} (ho : s.operating = true)
    (hover : s.handedOver = true)
    (hvalid : validSource source = true) (hother : source.toNat ≠ s.station)
    (hreceiver : s.line.receiver = .taking start bytes) (hwatch : s.watch = [e]) (hquiet : QuietSettled s)
    (hmatch : e.matches source.toNat channel.toNat = true) (hvalve : e.valves.getLsbD v.val = true)
    (honly : e.valves.getLsbD (other v).val = false) :
    ∃ r e', exec (.detectReceived source channel count age span peak) s
        = .next (predict source.toNat (start - age.setWidth 32) (start - age.setWidth 32 + span.setWidth 32) e' v r)
      ∧ SameRoute e e' ∧ Found s (stationIndex source) r := by
  obtain ⟨u, hu⟩ : ∃ u, hearPeer (stationIndex source) (fun p => p) (passOn s) = u := ⟨_, rfl⟩
  have hheard := hearPeer_passOn (stationIndex source) (fun p => p) s
  rw [hu] at hheard
  have hfound := found_of_heard ho hheard
  obtain ⟨e', he', hroute⟩ := watch_hearPeer (s := passOn s) (e := e) (by rw [(passOn_stands s).2.2.2.2.1, hwatch])
    (stationIndex source) (fun p => p)
  rw [hu] at he'
  have hstart : s.rxStart = start := by rw [State.rxStart, hreceiver]
  have hmatch' : e'.matches source.toNat channel.toNat = true := by
    rw [WatchEntry.matches, hroute.origin, hroute.channels]
    exact hmatch
  have htaken (w : State) (hw : w.watch = [e']) :
      takeDetection source.toNat channel.toNat (start - age.setWidth 32) (start - age.setWidth 32 + span.setWidth 32) w
        = predict source.toNat (start - age.setWidth 32) (start - age.setWidth 32 + span.setWidth 32) e' v w :=
    takeDetection_single hw hmatch' (by rw [hroute.valves]; exact hvalve) (by rw [hroute.valves]; exact honly) _ _
  rw [exec_detectReceived channel count age span peak hover hvalid hother hquiet, hstart, hu, takePeerDetection,
    if_pos hfound.operating]
  dsimp only
  split
  · refine ⟨_, e', congrArg Host.Outcome.next (htaken _ he'), hroute, hfound.post ..⟩
  · exact ⟨u, e', congrArg Host.Outcome.next (htaken u he'), hroute, hfound⟩

/-! ## Predictions (R44 to R49) -/

/-- R45: the own velocity of an entry without a peer as source. -/
theorem chooseVelocity_own (h : e.source = 0) (s : State) :
    chooseVelocity s e = (s.flow.velocity, s.flow.status, false) :=
  if_pos h

/-- R44, R47: a prediction with a velocity that is good. -/
theorem predict_good {station velocity : Nat} {status : FlowStatus} {substituted : Bool} {first last : Instant}
    (hchoose : chooseVelocity s e = (velocity, status, substituted)) (hstatus : status = .ok ∨ status = .hold)
    (hvelocity : s.cfg.vMin ≤ velocity) : predict station first last e v s
      = if before s.time (closeInstant last (lateBound (transitTime e.length velocity) s.cfg.uncertainty)
            (s.cfg.valves.get v).sprayHold) = true then
          addWindow v
            { openAt :=
                if before s.time (openInstant first (earlyBound (transitTime e.length velocity) s.cfg.uncertainty)
                    (s.cfg.valves.get v).lead) = true then
                  openInstant first (earlyBound (transitTime e.length velocity) s.cfg.uncertainty)
                    (s.cfg.valves.get v).lead
                else s.time
              closeAt := closeInstant last (lateBound (transitTime e.length velocity) s.cfg.uncertainty)
                (s.cfg.valves.get v).sprayHold
              kind := .predicted, merged := 1, origin := station, substituted := substituted, begun := false } s
        else missNotice v station (closeInstant last (lateBound (transitTime e.length velocity) s.cfg.uncertainty)
          (s.cfg.valves.get v).sprayHold) substituted s := by
  have hnotFlood : ¬ (status = .lowFlow ∨ status = .lost ∨ velocity < s.cfg.vMin) := by
    obtain rfl | rfl := hstatus
    · simpa using hvelocity
    · simpa using hvelocity
  unfold predict
  rw [hchoose]
  dsimp only
  rw [if_neg hnotFlood]
  cases before s.time (closeInstant last (lateBound (transitTime e.length velocity) s.cfg.uncertainty)
    (s.cfg.valves.get v).sprayHold) <;> rfl

/-- R49: a prediction with a velocity that is not good. -/
theorem predict_flood {station velocity : Nat} {status : FlowStatus} {substituted : Bool} {first last : Instant}
    (hchoose : chooseVelocity s e = (velocity, status, substituted))
    (h : status = .lowFlow ∨ status = .lost ∨ velocity < s.cfg.vMin) : predict station first last e v s
      = addWindow v
        { openAt := s.time, closeAt := later s.time ((s.cfg.valves.get v).floodTime * 1000), kind := .flood, merged := 1
          origin := station, substituted := substituted, begun := false } s := by
  unfold predict
  rw [hchoose]
  exact if_pos h

/-! ## Windows (R50) -/

/-- R50: a window that joins a valve and does not begin at once. -/
theorem addWindow_waits {w : Window}
    (h : (addToSchedule s.cfg.mergeGap w (s.valves.valves.get v).windows).1.begun = true
      ∨ before s.time (addToSchedule s.cfg.mergeGap w (s.valves.valves.get v).windows).1.openAt = true) :
    addWindow v w s = setValve v { s.valves.valves.get v with
      windows := (addToSchedule s.cfg.mergeGap w (s.valves.valves.get v).windows).2 } s := by
  refine if_neg ?_
  obtain h | h := h <;> simp [h]

/-- R50: an empty schedule takes the window as it is. -/
theorem addToSchedule_nil (gap : Nat) (w : Window) : addToSchedule gap w [] = (w, [w]) := rfl

/-- R48, R50: a window whose opening has come opens a closed valve with an empty schedule. -/
theorem addWindow_opens {w : Window} (hempty : (s.valves.valves.get v).windows = [])
    (hclosed : (s.valves.valves.get v).opened = false) (hbegun : w.begun = false)
    (hcome : before s.time w.openAt = false) :
    ((addWindow v w s).valves.valves.get v).opened = true
      ∧ ((addWindow v w s).valves.valves.get v).windows = [{ w with begun := true }] := by
  let t := setValve v { s.valves.valves.get v with windows := [w] } s
  have hget : t.valves.valves.get v = { s.valves.valves.get v with windows := [w] } := Pair.get_set_same ..
  have hbegins : addWindow v w s = beginHead v t := by
    unfold addWindow
    dsimp only
    rw [hempty, addToSchedule_nil]
    exact if_pos (by simp [hbegun, hcome])
  have hopens := beginHead_opens (s := t) (v := v) (w := w) (rest := []) (by rw [hget]) (by rw [hget]; exact hclosed)
  have hvalves : (addWindow v w s).valves.valves.get v = openedValve v w [] t := by
    rw [hbegins, hopens, (reportValves_frame _).2.2.2.2.2.2.2.1]
    exact Pair.get_set_same ..
  rw [hvalves]
  exact ⟨rfl, rfl⟩

/-- R50: a window within the merge gap of the only listed one becomes one with it. -/
theorem addToSchedule_merges {gap : Nat} {w x : Window} (h : withinGap gap x w = true) :
    addToSchedule gap w [x] = (mergeWindows x w, [mergeWindows x w]) := by
  simp [addToSchedule, h, insertWindow]

/-- R50: a window joins a schedule in place. -/
theorem insertWindow_perm (w : Window) (l : List Window) : (insertWindow w l).Perm (w :: l) := by
  induction l with
  | nil => exact .refl _
  | cons x l ih =>
    unfold insertWindow
    split
    · exact (ih.cons x).trans (.swap w x l)
    · exact .refl _

/-- R50: a window far from all, with room, stands beside them. -/
theorem addToSchedule_far {gap : Nat} {w : Window} {l : List Window} (h : ∀ x ∈ l, withinGap gap x w = false)
    (hroom : l.length < 8) : addToSchedule gap w l = (w, insertWindow w l) := by
  have hnear : l.filter (fun x => withinGap gap x w) = [] := by
    rw [List.filter_eq_nil_iff]
    exact fun x hx => Bool.eq_false_iff.1 (h x hx)
  unfold addToSchedule
  dsimp only
  rw [hnear, if_neg (by simp), if_pos hroom]

/-- A fold that keeps its value or takes the element at hand ends with the first value or with an element. -/
theorem foldl_selects {α : Type} {choose : Option α → α → Option α}
    (h : ∀ b x, choose (some b) x = some x ∨ choose (some b) x = some b) (l : List α) (b : α) :
    ∃ n ∈ b :: l, l.foldl choose (some b) = some n := by
  induction l generalizing b with
  | nil => exact ⟨b, List.mem_cons_self .., rfl⟩
  | cons x l ih =>
    rw [List.foldl_cons]
    obtain hx | hx := h b x
    · obtain ⟨n, hn, hfold⟩ := ih x
      exact ⟨n, List.mem_cons_of_mem _ hn, by rw [hx, hfold]⟩
    · obtain ⟨n, hn, hfold⟩ := ih b
      refine ⟨n, ?_, by rw [hx, hfold]⟩
      obtain rfl | hn := List.mem_cons.1 hn
      · exact List.mem_cons_self ..
      · exact List.mem_cons_of_mem _ (List.mem_cons_of_mem _ hn)

/-- R50: the nearest of some windows is one of them. -/
theorem nearest_mem (w : Window) {l : List Window} (h : l ≠ []) : ∃ n ∈ l, nearest w l = some n := by
  obtain ⟨x, l, rfl⟩ := List.exists_cons_of_ne_nil h
  refine foldl_selects (fun b y => ?_) l x
  dsimp only
  split
  · exact .inl rfl
  · exact .inr rfl

/-- R50: a full schedule stays at eight. -/
theorem length_addToSchedule_full {gap : Nat} {w : Window} {l : List Window} (h : ∀ x ∈ l, withinGap gap x w = false)
    (hfull : l.length = 8) : (addToSchedule gap w l).2.length = 8 := by
  have hnear : l.filter (fun x => withinGap gap x w) = [] := by
    rw [List.filter_eq_nil_iff]
    exact fun x hx => Bool.eq_false_iff.1 (h x hx)
  obtain ⟨n, hn, hnearest⟩ := nearest_mem w (l := l) (by rintro rfl; simp at hfull)
  unfold addToSchedule
  dsimp only
  rw [hnear, if_neg (by simp), if_neg (by omega), hnearest]
  dsimp only
  rw [(insertWindow_perm _ _).length_eq, List.length_cons, List.length_erase_of_mem hn]
  omega

/-! ## Miss notices and peers (R45, R46, R48) -/

/-- R48: a miss notice sets the miss-hold deadline and, in operation, the condition MISSED. -/
theorem missNotice_stands (ho : s.operating = true) (origin : Nat) (closeAt : Instant) (substituted : Bool) :
    (missNotice v origin closeAt substituted s).valves.valves.get v
        = { s.valves.valves.get v with missHold := some (later s.time (s.cfg.valves.get v).sprayHold) }
      ∧ (missNotice v origin closeAt substituted s).zones.conditions.missed = true := by
  obtain ⟨t, hvalves, htime, hcfg, hoperating, ht⟩ : ∃ t : State, t.valves = s.valves ∧ t.time = s.time ∧ t.cfg = s.cfg
      ∧ t.operating = true ∧ missNotice v origin closeAt substituted s = reportValves (setValve v
        { t.valves.valves.get v with missHold := some (later t.time (t.cfg.valves.get v).sprayHold) } t) :=
    ⟨post .windowMissed v.val origin (sat16 (elapsed s.time closeAt)) (flagSubstituted substituted) s,
      rfl, rfl, rfl, ho, rfl⟩
  obtain ⟨hconditions, -, -⟩ := reportValves_stands (s := setValve v
    { t.valves.valves.get v with missHold := some (later t.time (t.cfg.valves.get v).sprayHold) } t) hoperating
  rw [ht]
  constructor
  · rw [(reportValves_frame _).2.2.2.2.2.2.2.1]
    refine (Pair.get_set_same ..).trans ?_
    rw [hvalves, htime, hcfg]
  · rw [hconditions]
    exact any_set_of_get (f := fun x : Valve => x.missHold.isSome) rfl

/-- R45: a LIVE peer with a velocity and the status OK as the velocity source. -/
theorem chooseVelocity_peer {n : Fin 32} {velocity : Nat} (hn : e.source = n.val) (hne : n ≠ 0)
    (hlive : s.peers[n].state = .live) (hvelocity : s.peers[n].velocity.map (fun x => min x 600) = some velocity)
    (hflow : s.peers[n].flow = some .ok) : chooseVelocity s e = (velocity, .ok, false) := by
  obtain ⟨x, hx, rfl⟩ := Option.map_eq_some_iff.1 hvelocity
  have hpos : e.source ≠ 0 := by
    rw [hn]
    exact fun h => hne (Fin.ext h)
  have hlt : e.source < 32 := by omega
  have hpeer : s.peers[e.source] = s.peers[n] := by simp [hn]
  unfold chooseVelocity
  dsimp only
  rw [if_neg hpos, dif_pos hlt, hpeer, hlive, hx, hflow]
  rfl

/-- R46: the own velocity stands in for a velocity source that is not LIVE. -/
theorem chooseVelocity_substituted {n : Fin 32} (hn : e.source = n.val) (hne : n ≠ 0)
    (hsilent : s.peers[n].state ≠ .live) : chooseVelocity s e = (s.flow.velocity, s.flow.status, true) := by
  have hpos : e.source ≠ 0 := by
    rw [hn]
    exact fun h => hne (Fin.ext h)
  have hlt : e.source < 32 := by omega
  have hpeer : s.peers[e.source] = s.peers[n] := by simp [hn]
  unfold chooseVelocity
  dsimp only
  rw [if_neg hpos, dif_pos hlt, hpeer]
  split
  next hlive _ _ => exact absurd hlive hsilent
  next => rfl

/-! ## The settlement -/

/-- No instant lies before itself. -/
theorem before_self (i : Instant) : before i i = false := by simp [before]

/-- Of two, the other is another. -/
theorem other_ne (v : Fin 2) : other v ≠ v := by
  obtain rfl | rfl : v = 0 ∨ v = 1 := by omega
  · decide
  · decide

section
variable {i : Fin 32} {e' : WatchEntry} {velocity station : Nat} {status : FlowStatus} {substituted : Bool} {w : Window}

/-- R44, R47: what the node found predicts with a good velocity and a close that is still to come. -/
theorem Found.predict_window (hfound : Found s i r) (hroute : SameRoute e e')
    (hchoose : chooseVelocity r e' = (velocity, status, substituted)) (hstatus : status = .ok ∨ status = .hold)
    (hvelocity : s.cfg.vMin ≤ velocity)
    (hclose : before s.time (closeInstant (start - age.setWidth 32 + span.setWidth 32)
      (lateBound (transitTime e.length velocity) s.cfg.uncertainty) (s.cfg.valves.get v).sprayHold) = true) :
    predict station (start - age.setWidth 32) (start - age.setWidth 32 + span.setWidth 32) e' v r
      = addWindow v (predictedWindow s v e start age span velocity station substituted) r := by
  rw [predict_good hchoose hstatus (by rw [hfound.cfg]; exact hvelocity), hfound.time, hfound.cfg, hroute.length]
  exact if_pos hclose

/-- R50: a window that waits joins the valve of the node found. -/
theorem Found.addWindow_waits (hfound : Found s i r)
    (h : (addToSchedule s.cfg.mergeGap w (s.valves.valves.get v).windows).1.begun = true
      ∨ before s.time (addToSchedule s.cfg.mergeGap w (s.valves.valves.get v).windows).1.openAt = true) :
    (addWindow v w r).valves.valves = s.valves.valves.set v { s.valves.valves.get v with
      windows := (addToSchedule s.cfg.mergeGap w (s.valves.valves.get v).windows).2 } := by
  have h' : (addToSchedule r.cfg.mergeGap w (r.valves.valves.get v).windows).1.begun = true
      ∨ before r.time (addToSchedule r.cfg.mergeGap w (r.valves.valves.get v).windows).1.openAt = true := by
    rw [hfound.cfg, hfound.valves, hfound.time]
    exact h
  rw [Machine.addWindow_waits h', ← hfound.valves, ← hfound.cfg]
  rfl

/-- R48, R50: a window whose opening has come opens the valve of the node found. -/
theorem Found.addWindow_opens (hfound : Found s i r) (hempty : (s.valves.valves.get v).windows = [])
    (hclosed : (s.valves.valves.get v).opened = false) (hbegun : w.begun = false)
    (hcome : before s.time w.openAt = false) :
    ((addWindow v w r).valves.valves.get v).opened = true
      ∧ ((addWindow v w r).valves.valves.get v).windows = [{ w with begun := true }] :=
  Machine.addWindow_opens (by rw [hfound.valves]; exact hempty) (by rw [hfound.valves]; exact hclosed) hbegun
    (by rw [hfound.time]; exact hcome)

/-- R45: the own velocity of the node found. -/
theorem Found.chooseVelocity_own (hfound : Found s i r) (hroute : SameRoute e e') (h : e.source = 0) :
    chooseVelocity r e' = (s.flow.velocity, s.flow.status, false) := by
  rw [Machine.chooseVelocity_own (hroute.source.trans h), hfound.flow]

/-- R45, R46: the velocity that a peer as source gives the node found. -/
theorem Found.chooseVelocity_peer {n : Fin 32} (hfound : Found s i r) (hroute : SameRoute e e') (hn : e.source = n.val)
    (hne : n ≠ 0)
    (h : s.peers[n].state = .live ∧ s.peers[n].velocity.map (fun x => min x 600) = some velocity
        ∧ s.peers[n].flow = some .ok ∧ substituted = false
      ∨ n ≠ i ∧ s.peers[n].state ≠ .live ∧ velocity = s.flow.velocity
        ∧ (s.flow.status = .ok ∨ s.flow.status = .hold) ∧ substituted = true) :
    ∃ status, chooseVelocity r e' = (velocity, status, substituted) ∧ (status = .ok ∨ status = .hold) := by
  have hn' : e'.source = n.val := hroute.source.trans hn
  have hself : n = i → r.peers[n] = Peer.hear s.time s.cfg.presencePeriod s.peers[n] := by
    rintro rfl
    rw [hfound.peers]
    simp
  have hapart : n ≠ i → r.peers[n] = s.peers[n] := by
    intro hni
    rw [hfound.peers]
    exact Vector.getElem_set_ne _ _ (fun h => hni (Fin.ext h.symm))
  obtain ⟨hlive, hvelocity, hflow, rfl⟩ | ⟨hni, hsilent, rfl, hstatus, rfl⟩ := h
  · refine ⟨.ok, Machine.chooseVelocity_peer hn' hne ?_ ?_ ?_, .inl rfl⟩ <;> by_cases hni : n = i
    · rw [hself hni]
      rfl
    · rw [hapart hni, hlive]
    · rw [hself hni]
      exact hvelocity
    · rw [hapart hni, hvelocity]
    · rw [hself hni]
      exact hflow
    · rw [hapart hni, hflow]
  · refine ⟨s.flow.status, ?_, hstatus⟩
    rw [← hfound.flow]
    exact Machine.chooseVelocity_substituted hn' hne (by rw [hapart hni]; exact hsilent)

end

end

/-- Settles O34: the DETECT reaches the node that has heard its station (`exec_detect_single`), the velocity decides
between a window, a miss notice and a flood window, and the schedule takes the window in. -/
theorem detectPredictsAWindow : Obligations.DetectPredictsAWindow := by
  refine ⟨?_, ?_, ?_, ?_, ?_, ?_, ?_, ?_⟩
  · intro source channel count age span peak v s e start bytes ho hover hvalid hother hreceiver hwatch hquiet hmatch
      hvalve honly hown hempty hstatus hvelocity hopen hclose
    obtain ⟨r, e', hexec, hroute, hfound⟩ := exec_detect_single (age := age) (span := span) count peak ho hover hvalid
      hother hreceiver hwatch hquiet hmatch hvalve honly
    rw [hfound.predict_window hroute (hfound.chooseVelocity_own hroute hown) hstatus hvelocity hclose] at hexec
    have hwindow : (predictedWindow s v e start age span s.flow.velocity source.toNat false).openAt
        = openInstant (start - age.setWidth 32) (earlyBound (transitTime e.length s.flow.velocity) s.cfg.uncertainty)
          (s.cfg.valves.get v).lead := if_pos hopen
    have hvalves := hfound.addWindow_waits (v := v)
      (w := predictedWindow s v e start age span s.flow.velocity source.toNat false)
      (.inr (by rw [hempty, addToSchedule_nil, hwindow]; exact hopen))
    rw [hempty, addToSchedule_nil] at hvalves
    refine ⟨_, hexec, ?_, ?_⟩
    · rw [hvalves, Pair.get_set_same, ← hwindow]
      rfl
    · rw [hvalves]
      exact Pair.get_set_other _ _ (other_ne v)
  · intro source channel count age span peak v s e start bytes ho hover hvalid hother hreceiver hwatch hquiet hmatch
      hvalve honly hown hempty hclosed hstatus hvelocity hopen hclose
    obtain ⟨r, e', hexec, hroute, hfound⟩ := exec_detect_single (age := age) (span := span) count peak ho hover hvalid
      hother hreceiver hwatch hquiet hmatch hvalve honly
    rw [hfound.predict_window hroute (hfound.chooseVelocity_own hroute hown) hstatus hvelocity hclose] at hexec
    have hwindow : (predictedWindow s v e start age span s.flow.velocity source.toNat false).openAt = s.time :=
      if_neg (Bool.eq_false_iff.1 hopen)
    obtain ⟨hopened, hwindows⟩ := hfound.addWindow_opens
      (w := predictedWindow s v e start age span s.flow.velocity source.toNat false) hempty hclosed rfl
      (by rw [hwindow]; exact before_self s.time)
    refine ⟨_, hexec, hopened, ?_⟩
    rw [hwindows, ← hwindow]
    rfl
  · intro source channel count age span peak v s e start bytes ho hover hvalid hother hreceiver hwatch hquiet hmatch
      hvalve honly hown hstatus hvelocity hclose
    obtain ⟨r, e', hexec, hroute, hfound⟩ := exec_detect_single (age := age) (span := span) count peak ho hover hvalid
      hother hreceiver hwatch hquiet hmatch hvalve honly
    have hgood : r.cfg.vMin ≤ s.flow.velocity := by rwa [hfound.cfg]
    rw [predict_good (hfound.chooseVelocity_own hroute hown) hstatus hgood, if_neg] at hexec
    · obtain ⟨hmiss, hmissed⟩ := missNotice_stands (v := v) hfound.operating source.toNat
        (closeInstant (start - age.setWidth 32 + span.setWidth 32)
          (lateBound (transitTime e'.length s.flow.velocity) r.cfg.uncertainty) (r.cfg.valves.get v).sprayHold) false
      refine ⟨_, hexec, ?_, hmissed⟩
      rw [hmiss, hfound.valves, hfound.time, hfound.cfg]
    · rw [hfound.time, hfound.cfg, hroute.length, hclose]
      decide
  · intro source channel count age span peak v s e start bytes ho hover hvalid hother hreceiver hwatch hquiet hmatch
      hvalve honly hown hempty hclosed hflood
    obtain ⟨r, e', hexec, hroute, hfound⟩ := exec_detect_single (age := age) (span := span) count peak ho hover hvalid
      hother hreceiver hwatch hquiet hmatch hvalve honly
    rw [predict_flood (hfound.chooseVelocity_own hroute hown) (by rw [hfound.cfg]; exact hflood), hfound.time,
      hfound.cfg] at hexec
    exact ⟨_, hexec, hfound.addWindow_opens hempty hclosed rfl (before_self s.time)⟩
  · intro source channel count age span peak v s e start bytes n velocity substituted ho hover hvalid hother hreceiver
      hwatch hquiet hmatch hvalve honly hsource hne hpeer hvelocity hclose hwaits
    obtain ⟨r, e', hexec, hroute, hfound⟩ := exec_detect_single (age := age) (span := span) count peak ho hover hvalid
      hother hreceiver hwatch hquiet hmatch hvalve honly
    obtain ⟨status, hchoose, hstatus⟩ := hfound.chooseVelocity_peer hroute hsource hne hpeer
    rw [hfound.predict_window hroute hchoose hstatus hvelocity hclose] at hexec
    refine ⟨_, hexec, ?_⟩
    rw [hfound.addWindow_waits hwaits]
    exact Pair.get_set_same ..
  · intro gap w x h
    refine ⟨_, addToSchedule_merges h, rfl, rfl, rfl, ?_, rfl, rfl, rfl⟩
    unfold mergeWindows
    dsimp only
    split
    next hflood => exact ⟨fun _ => hflood, fun _ => rfl⟩
    next hneither => exact ⟨nofun, fun hflood => absurd hflood hneither⟩
  · intro gap w l h hroom
    rw [addToSchedule_far h hroom]
    exact ⟨rfl, insertWindow_perm w l⟩
  · exact fun gap w l h hfull => length_addToSchedule_full h hfull

end Sys2Proof.Machine
end

section
/-! PROOF. The notice of OPERATING (R170, R177, R180): the settlement of O23. -/
namespace Sys2Proof.Machine

section
variable {s t : State} {g : LogSystem}

/-! ## A log store that has been scanned -/

/-- R170: the log store is out of SCANNING. -/
def LogSystem.scanned (g : LogSystem) : Prop := g.store.state ≠ .scanning

/-- R164: a page program begins. -/
theorem scanned_startProgram (h : g.scanned) : (startProgram g).scanned := by
  unfold startProgram
  split
  · exact h
  · exact nofun

/-- R162, R163: a record taken in IDLE. -/
theorem scanned_takeInIdle (stamp : Record) (h : g.scanned) : (takeInIdle stamp g).scanned := by
  have htaken : (takeWaiting stamp 32 g).scanned := by
    rw [LogSystem.scanned, state_takeWaiting]
    exact h
  unfold takeInIdle
  dsimp only
  (repeat' split)
  · exact scanned_startProgram htaken
  · exact htaken
  · exact h

/-- R162, R163: a return to IDLE. -/
theorem scanned_returnToIdle (stamp : Record) (whole : Bool) (g : LogSystem) :
    (returnToIdle stamp whole g).scanned := by
  have hidle (x : LogStore) (hx : x.state = .idle) (e : Vector BlockHeader 16) (q : EventQueue) (a : Memory) :
      (⟨q, x, e, a⟩ : LogSystem).scanned := by
    rw [LogSystem.scanned, hx]
    exact nofun
  have htaken : (takeWaiting stamp 32 { g with store := { g.store with state := .idle } }).store.state = .idle :=
    state_takeWaiting ..
  unfold returnToIdle
  dsimp only
  split
  · exact scanned_startProgram (hidle _ htaken _ _ _)
  · exact hidle _ htaken _ _ _

/-- R163: a flush asked for. -/
theorem scanned_requestFlush (h : g.scanned) : (requestFlush g).1.scanned := by
  unfold requestFlush
  (repeat' split)
  · exact scanned_startProgram h
  · exact h
  · exact h
  · exact h

/-- R170: the scan leaves SCANNING and the array. -/
theorem scanned_scanLog (g : LogSystem) : (scanLog g).scanned ∧ (scanLog g).array = g.array := by
  unfold scanLog
  dsimp only
  (repeat' split) <;> exact ⟨nofun, rfl⟩

/-- R170: the log as the notice of OPERATING finds it. -/
theorem startLog_scans (s : State) :
    ∃ x : LogSystem, startLog s = { s with log := x } ∧ x.scanned ∧ x.array = s.log.array := by
  obtain ⟨hscanned, harray⟩ := scanned_scanLog s.log
  unfold startLog
  dsimp only
  split
  · exact ⟨_, rfl, scanned_returnToIdle _ _ _,
      (congrArg LogSystem.array (rest_returnToIdle _ _ _) :).trans harray⟩
  · exact ⟨_, rfl, hscanned, harray⟩

/-! ## Doors that have taken up their work -/

/-- R135, R170: the log is scanned, the sequencer stands in HALTED, the doors in `off` are OFF and watch nothing, and
those in `on` are out of OFF. -/
def TakenUp (off on : Fin 2 → Prop) (s : State) : Prop :=
  s.log.scanned ∧ s.sequencer.state = .halted
    ∧ ∀ d, (off d → (s.doors.get d).state = .off ∧ (s.doors.get d).views = []) ∧ (on d → (s.doors.get d).state ≠ .off)

variable {off on on' : Fin 2 → Prop} {d : Fin 2}

/-- Fewer doors out of OFF. -/
theorem TakenUp.mono (hs : TakenUp off on s) (h : ∀ d, on' d → on d) : TakenUp off on' s :=
  ⟨hs.1, hs.2.1, fun d => ⟨(hs.2.2 d).1, fun hd => (hs.2.2 d).2 (h d hd)⟩⟩

/-- R158: an event. -/
theorem takenUp_post (hs : TakenUp off on s) (kind : EventKind) (subject value1 value2 flags : Nat) :
    TakenUp off on (post kind subject value1 value2 flags s) :=
  ⟨scanned_takeInIdle _ hs.1, hs.2⟩

/-- R155: a fault report. -/
theorem takenUp_reportFault (hs : TakenUp off on s) (m : FaultMember) (b : Bool) :
    TakenUp off on (reportFault m b s) := by
  unfold reportFault
  split
  · exact takenUp_post (s := { s with sirens := { s.sirens with
      summary := s.sirens.summary.put m b, relay := (s.sirens.summary.put m b).isEmpty } }) hs ..
  · exact hs

/-- A door that is replaced. -/
theorem takenUp_set {x : Door} (hs : TakenUp off on s) (hoff : off d → x.state = .off ∧ x.views = [])
    (hon : ∀ e, on' e → on e ∨ e = d) (hx : on' d → x.state ≠ .off) :
    TakenUp off on' { s with doors := s.doors.set d x } := by
  obtain ⟨hscanned, hhalted, hdoors⟩ := hs
  refine ⟨hscanned, hhalted, fun e => ?_⟩
  by_cases he : e = d
  · subst he
    dsimp only
    rw [Pair.get_set_same]
    exact ⟨hoff, hx⟩
  · dsimp only
    rw [Pair.get_set_other _ _ he]
    exact ⟨(hdoors e).1, fun h => (hdoors e).2 ((hon e h).resolve_right he)⟩

/-- R143: a demand that follows its door moves nothing else in HALTED. -/
theorem takenUp_syncDemand (hs : TakenUp off on s) (d : Fin 2) : TakenUp off on (syncDemand d s) := by
  have hset (x : Pair Bool) (b : Bool) : TakenUp off on { s with
      sequencer := { s.sequencer with demands := x }, doors := s.doors.set d { s.doors.get d with demand := b } } :=
    takenUp_set (s := { s with sequencer := { s.sequencer with demands := x } }) hs (hs.2.2 d).1 (fun _ => .inl)
      (hs.2.2 d).2
  unfold syncDemand placeDemand withdrawDemand
  dsimp only
  (repeat' split)
  · exact hs
  · next hrunning => exact absurd (hs.2.1.symm.trans hrunning.2.1) nofun
  · exact hset _ _
  · next hrunning => exact absurd (hs.2.1.symm.trans hrunning.1) nofun
  · next hwaits => exact absurd (hs.2.1.symm.trans hwaits) nofun
  · exact hset _ _
  · exact hset _ _

/-- R133: the entry to a state out of OFF. -/
theorem takenUp_setDoor {st : DoorState} (hst : st ≠ .off) (cause : Nat) (hs : TakenUp off on s) (hd : ¬ off d)
    (hon : ∀ e, on' e → on e ∨ e = d) : TakenUp off on' (setDoor d st cause s) := by
  unfold setDoor
  exact takenUp_syncDemand (takenUp_reportFault (takenUp_post
    (takenUp_set hs (fun h => absurd h hd) hon fun _ => hst) ..) ..) d

/-- R139: a door that closes. -/
theorem takenUp_closeDoor (hs : TakenUp off on s) (hd : ¬ off d) : TakenUp off on (closeDoor d s) := by
  have hclosed := takenUp_setDoor (st := .closed) nofun 5 hs hd (fun _ => .inl)
  unfold closeDoor
  dsimp only
  split
  · exact hclosed
  · exact takenUp_setDoor (st := .armed) nofun 7 hclosed hd (fun _ => .inl)

/-- R138: a door that is released. -/
theorem takenUp_releaseDoor (cause : Nat) (hs : TakenUp off on s) (hd : ¬ off d) :
    TakenUp off on (releaseDoor d cause s) := by
  have hreleased := takenUp_setDoor (st := .released) nofun cause hs hd (fun _ => .inl)
  unfold releaseDoor
  dsimp only
  split
  · exact takenUp_closeDoor hreleased hd
  · exact hreleased

/-- R136: a door that clears. -/
theorem takenUp_clearDoor (hs : TakenUp off on s) (hd : ¬ off d) : TakenUp off on (clearDoor d s) := by
  have hclearing := takenUp_setDoor (st := .clearing) nofun 1 hs hd (fun _ => .inl)
  unfold clearDoor
  dsimp only
  (repeat' split)
  · exact takenUp_releaseDoor 2 hclearing hd
  · exact takenUp_releaseDoor 3 hclearing hd
  · exact hclearing

/-- R134: a notice of a view at a door: a door that is OFF watches nothing. -/
theorem takenUp_doorNotice (hs : TakenUp off on s) (z : Nat) (view : Level) (d : Fin 2) :
    TakenUp off on (doorNotice z view d s) := by
  unfold doorNotice
  dsimp only
  split
  · next hwatches =>
    have hd : ¬ off d := by
      intro hoff
      rw [((hs.2.2 d).1 hoff).2] at hwatches
      exact Bool.noConfusion hwatches
    have hviews : TakenUp off on
        { s with doors := s.doors.set d { s.doors.get d with views := setView z view (s.doors.get d).views } } :=
      takenUp_set hs (fun h => absurd h hd) (fun _ => .inl) (hs.2.2 d).2
    (repeat' split)
    · exact takenUp_clearDoor hviews hd
    · exact takenUp_releaseDoor 1 hviews hd
    · exact takenUp_releaseDoor 1 hviews hd
    · exact hviews
    · exact takenUp_setDoor (st := .armed) nofun 7 hviews hd (fun _ => .inl)
    · exact hviews
  · exact hs

/-- R148: a change of the sounding pattern. -/
theorem takenUp_sound (hs : TakenUp off on s) (i : Fin 2) (pattern : Pattern) : TakenUp off on (sound i pattern s) := by
  unfold sound
  exact takenUp_post (by exact hs) ..

/-- R149: a change of grant. -/
theorem takenUp_takeGrant (hs : TakenUp off on s) (i : Fin 2) (old new : Pattern) :
    TakenUp off on (takeGrant i old new s) := by
  unfold takeGrant
  dsimp only
  (repeat' split)
  · exact takenUp_sound (by exact hs) i .quiet
  · exact hs
  · exact takenUp_sound hs i .pulse
  · exact hs
  · exact takenUp_sound hs i .steady

/-- R151, R152: a silence that ends. -/
theorem takenUp_endSilence (hs : TakenUp off on s) (i : Fin 2) (cause : Nat) :
    TakenUp off on (endSilence i cause s) := by
  unfold endSilence
  exact takenUp_post (by exact hs) ..

/-- R151: a silence judged. -/
theorem takenUp_judgeSilence (hs : TakenUp off on s) (i : Fin 2) (level : Level) :
    TakenUp off on (judgeSilence i level s) := by
  unfold judgeSilence
  dsimp only
  (repeat' split)
  · exact takenUp_sound (takenUp_endSilence hs i 0) i _
  · exact takenUp_endSilence hs i 1
  · exact hs
  · exact hs

/-- R147: a notice of a view at a siren. -/
theorem takenUp_sirenNotice (hs : TakenUp off on s) (z : Nat) (view : Level) (i : Fin 2) :
    TakenUp off on (sirenNotice z view i s) := by
  have hset (x : Pair Siren) : TakenUp off on { s with sirens := { s.sirens with sirens := x } } := hs
  unfold sirenNotice
  dsimp only
  (repeat' split)
  · exact takenUp_judgeSilence (hset _) i _
  · exact hset _
  · exact takenUp_takeGrant (hset _) i _ _
  · exact hs

/-- R134, R147: the notices at doors and sirens. -/
theorem takenUp_plantNotices (hs : TakenUp off on s) (z : Nat) (view : Level) :
    TakenUp off on (plantNotices z view s) :=
  takenUp_sirenNotice (takenUp_sirenNotice (takenUp_doorNotice (takenUp_doorNotice hs z view 0) z view 1) z view 0) z
    view 1

/-- R103, R170: no recount takes a door into or out of OFF. -/
theorem recountKeeps_takenUp (off on : Fin 2 → Prop) : RecountKeeps (TakenUp off on) where
  zone _ _ _ _ hs := hs
  post kind a b c d _ hs := takenUp_post hs kind a b c d
  notify z old new s hs := by
    by_cases hz : z = s.cfg.homeZone
    · have hflush : TakenUp off on (flushAsked old new s) := by
        unfold flushAsked
        split
        · exact ⟨scanned_requestFlush hs.1, hs.2⟩
        · exact hs
      rw [hz, notifyView_home, sequencerNotice_halted hflush.2.1]
      exact takenUp_plantNotices hflush _ _
    · rw [notifyView_other hz]
      exact takenUp_plantNotices hs _ _
  vote _ hs := hs
  halted _ hs := hs

/-- R135: the start state of a door. -/
theorem takenUp_startDoor (hs : TakenUp off on s) (d : Fin 2) (hoff : off d ↔ s.doorZones d = []) :
    TakenUp off (fun e => on e ∨ e = d ∧ ¬ off d) (startDoor d s) := by
  unfold startDoor
  dsimp only
  split
  · next hzones => exact ⟨hs.1, hs.2.1, fun e => ⟨(hs.2.2 e).1, fun h =>
      (hs.2.2 e).2 (h.resolve_right fun hon => hon.2 (hoff.2 hzones))⟩⟩
  · next hzones =>
    have hd : ¬ off d := fun h => hzones (hoff.1 h)
    have hviews : TakenUp off on
        { s with doors := s.doors.set d { s.doors.get d with views := clearViews (s.doorZones d) } } :=
      takenUp_set hs (fun h => absurd h hd) (fun _ => .inl) (hs.2.2 d).2
    refine takenUp_setDoor ?_ 0 hviews hd fun e he => he.imp_right And.left
    split <;> exact nofun

/-! ## The plant with the notice of OPERATING -/

/-- A state that differs by the sequencer, the doors, the sirens and the log, but for the array. -/
structure PlantOnly (s t : State) : Prop where
  array : t.log.array = s.log.array
  frame : t = { s with sequencer := t.sequencer, doors := t.doors, sirens := t.sirens, log := t.log }

/-- One after another. -/
theorem PlantOnly.trans {u : State} (h : PlantOnly s t) (h' : PlantOnly t u) : PlantOnly s u := by
  refine ⟨h'.array.trans h.array, ?_⟩
  have hframe := h'.frame
  rw [h.frame] at hframe
  exact hframe

/-- Events and fault reports. -/
theorem FaultsOnly.plantOnly (h : FaultsOnly s t) : PlantOnly s t := by
  have hdoors : t.doors = s.doors := by rw [h.frame]
  have hsequencer : t.sequencer = s.sequencer := by rw [h.frame]
  have hsirens : t.sirens = { s.sirens with summary := t.sirens.summary, relay := t.sirens.relay } :=
    (congrArg State.sirens h.frame :)
  refine ⟨(congrArg LogSystem.array h.log :), ?_⟩
  rw [hdoors, hsequencer, hsirens]
  exact h.frame

/-- A door. -/
theorem DoorOnly.plantOnly (h : DoorOnly d s t) : PlantOnly s t := by
  have hsirens : t.sirens = { s.sirens with summary := t.sirens.summary, relay := t.sirens.relay } :=
    (congrArg State.sirens h.frame :)
  have hdoors : t.doors = s.doors.set d (t.doors.get d) := (congrArg State.doors h.frame :)
  refine ⟨(congrArg LogSystem.array h.log :), ?_⟩
  rw [hdoors, hsirens]
  exact h.frame

/-- R121: the judging of the key. -/
theorem plantOnly_startKey (s : State) : PlantOnly s (startKey s) := by
  unfold startKey
  split
  · exact ⟨rfl, rfl⟩
  · exact ⟨rfl, rfl⟩

/-- R135: the start state of a door. -/
theorem plantOnly_startDoor (d : Fin 2) (s : State) : PlantOnly s (startDoor d s) := by
  unfold startDoor
  dsimp only
  split
  · exact ⟨rfl, rfl⟩
  · have hviews : PlantOnly s
        { s with doors := s.doors.set d { s.doors.get d with views := clearViews (s.doorZones d) } } := ⟨rfl, rfl⟩
    exact hviews.trans (setDoor_leaves d _ 0 _).1.plantOnly

/-- R155, R156: the first reports change the fault summary, the relay and the log. -/
theorem faultsOnly_startRelay (s : State) : FaultsOnly s (startRelay (reportMembers s)) := by
  have hrelay (r : State) : FaultsOnly r (startRelay r) := by
    unfold startRelay
    split
    · exact ⟨logRest_post .., rfl⟩
    · exact ⟨rfl, rfl⟩
  have hmembers : FaultsOnly s (reportMembers s) := by
    unfold reportMembers
    dsimp only
    iterate 8 refine FaultsOnly.trans ?_ (faultsOnly_reportFault _ _ _)
    exact faultsOnly_reportFault _ _ _
  exact hmembers.trans (hrelay _)

/-- R155: the first reports. -/
theorem takenUp_reportMembers (hs : TakenUp off on s) : TakenUp off on (reportMembers s) := by
  unfold reportMembers
  dsimp only
  iterate 9 apply takenUp_reportFault
  exact hs

/-- R156: the siren unit's notice. -/
theorem takenUp_startRelay (hs : TakenUp off on s) : TakenUp off on (startRelay s) := by
  unfold startRelay
  split
  · exact takenUp_post (s := { s with sirens := { s.sirens with relay := true } }) hs ..
  · exact hs

/-- R121: the judging of the key. -/
theorem takenUp_startKey (hs : TakenUp off on s) : TakenUp off on (startKey s) := by
  unfold startKey
  split
  · exact hs
  · exact hs

/-- The plant up to its doors. -/
def plantReported (s : State) : State := startKey (startRelay (reportMembers (startLog s)))

/-- R155, R170: what the first reports leave of the rest. -/
theorem plantOnly_plantReported (s : State) : PlantOnly s (plantReported s) := by
  obtain ⟨x, hlog, -, harray⟩ := startLog_scans s
  have hscan : PlantOnly s (startLog s) := by
    rw [hlog]
    exact ⟨harray, rfl⟩
  exact (hscan.trans (faultsOnly_startRelay _).plantOnly).trans (plantOnly_startKey _)

/-- The plant as the notice of OPERATING leaves it: the parts up to the zone unit. -/
def plantStarted (s : State) : State := startDoor 1 (startDoor 0 (plantReported s))

/-- R135, R170: what the notice of OPERATING leaves of the rest. -/
theorem plantOnly_plantStarted (s : State) : PlantOnly s (plantStarted s) :=
  ((plantOnly_plantReported s).trans (plantOnly_startDoor 0 _)).trans (plantOnly_startDoor 1 _)

/-- R131: the zones of a door are the same where configuration and zone table are. -/
theorem PlantOnly.doorZones (h : PlantOnly s t) (d : Fin 2) : t.doorZones d = s.doorZones d := by
  rw [h.frame]
  rfl

/-- R135, R170: each door is OFF exactly where its zone set is empty. -/
theorem takenUp_plantStarted (hsequencer : s.sequencer.state = .halted) (hdoors : s.doors = ⟨Door.reset, Door.reset⟩) :
    TakenUp (fun d => s.doorZones d = []) (fun d => ¬ s.doorZones d = []) (plantStarted s) := by
  obtain ⟨x, hlog, hscanned, -⟩ := startLog_scans s
  have hreset (d : Fin 2) : s.doors.get d = Door.reset := by
    rw [hdoors]
    exact ite_self _
  have hscan : TakenUp (fun d => s.doorZones d = []) (fun _ => False) (startLog s) := by
    rw [hlog]
    refine ⟨hscanned, hsequencer, fun d => ⟨fun _ => ?_, nofun⟩⟩
    dsimp only
    rw [hreset d]
    exact ⟨rfl, rfl⟩
  have hreported : TakenUp (fun d => s.doorZones d = []) (fun _ => False) (plantReported s) :=
    takenUp_startKey (takenUp_startRelay (takenUp_reportMembers hscan))
  have hkept := plantOnly_plantReported s
  have hfirst := takenUp_startDoor hreported 0 (by rw [hkept.doorZones])
  have hsecond := takenUp_startDoor hfirst 1 (by rw [(hkept.trans (plantOnly_startDoor 0 _)).doorZones])
  refine hsecond.mono fun d h => ?_
  have hd : d = 0 ∨ d = 1 := by omega
  obtain rfl | rfl := hd
  · exact .inl (.inr ⟨rfl, h⟩)
  · exact .inr ⟨rfl, h⟩

/-- R121: the key as the notice of OPERATING leaves it. -/
theorem keyAndFlag_plantStarted (hsequencer : s.sequencer = Sequencer.reset) :
    (plantStarted s).sequencer.key = (if s.level .k1 = true then .spent else .idle)
      ∧ (plantStarted s).sequencer.stepFault = false := by
  have hreported : (plantReported s).sequencer.key = (if s.level .k1 = true then .spent else .idle)
      ∧ (plantReported s).sequencer.stepFault = false := by
    obtain ⟨x, hlog, -, -⟩ := startLog_scans s
    obtain ⟨r, hr⟩ : ∃ r, startRelay (reportMembers (startLog s)) = r := ⟨_, rfl⟩
    have hframe := (faultsOnly_startRelay (startLog s)).frame
    rw [hr, hlog] at hframe
    have hrest : r.sequencer = Sequencer.reset := by
      rw [hframe]
      exact hsequencer
    have hlevel : r.level .k1 = s.level .k1 := by
      rw [hframe]
      rfl
    rw [plantReported, hr, startKey, hlevel]
    split
    · exact ⟨rfl, (congrArg Sequencer.stepFault hrest :)⟩
    · exact ⟨(congrArg Sequencer.key hrest :), (congrArg Sequencer.stepFault hrest :)⟩
  have hdoor (d : Fin 2) (r : State) : (startDoor d r).keyAndFlag = r.keyAndFlag := by
    unfold startDoor
    dsimp only
    split
    · rfl
    · rw [keyAndFlag_setDoor]
      rfl
  have hkept : (plantStarted s).keyAndFlag = (plantReported s).keyAndFlag := (hdoor 1 _).trans (hdoor 0 _)
  simp only [State.keyAndFlag, Prod.mk.injEq] at hkept
  obtain ⟨hkey, -, hfault, -⟩ := hkept
  exact ⟨hkey.trans hreported.1, hfault.trans hreported.2⟩

/-- R156: the relay stands with the fault summary through all that a vote or a view reaches. -/
theorem Leads.keepsRelay (h : Leads .cascade s t) (hs : s.sirens.relay = s.sirens.summary.isEmpty) :
    t.sirens.relay = t.sirens.summary.isEmpty :=
  h.keeps (P := fun u => u.sirens.relay = u.sirens.summary.isEmpty) (fun _ _ hc hu => by
    cases hc with
    | faults => rfl
    | _ => exact hu) hs

/-- R121: the judging of the key leaves the sirens and the relay. -/
theorem sirens_startKey (s : State) : (startKey s).sirens = s.sirens := by
  unfold startKey
  split <;> rfl

/-- R156: the relay as the notice of OPERATING leaves it. -/
theorem relay_plantStarted (ho : s.startup.state = .operating) (hrelay : s.sirens.relay = false) :
    (plantStarted s).sirens.relay = (plantStarted s).sirens.summary.isEmpty := by
  have hstartup : (plantReported s).startup = s.startup := (congrArg State.startup (plantOnly_plantReported s).frame :)
  have hreported : (plantReported s).sirens.relay = (plantReported s).sirens.summary.isEmpty := by
    rw [plantReported, sirens_startKey]
    exact relay_startRelay (reported_reportMembers s) hrelay
  have hop : (plantReported s).startup.state = .operating := by rw [hstartup, ho]
  have hdoors : Leads .cascade (plantReported s) (plantStarted s) :=
    leads_startDoor (leads_startDoor .refl hop) (by rw [startup_startDoor, hop])
  exact hdoors.keepsRelay hreported

/-- R155: no member stands exactly where none is counted. -/
theorem isEmpty_iff_size (f : FaultSummary) : f.isEmpty = true ↔ f.size = 0 := by
  have hall : ∀ m, m ∈ allFaults := by
    intro m
    cases m <;> decide
  rw [FaultSummary.isEmpty_iff, FaultSummary.size, List.length_eq_zero_iff, List.filter_eq_nil_iff]
  simp [hall]

/-! ## The settlement -/

/-- R109: the zone unit takes up its work. -/
theorem startZoneUnit_cascade (ho : s.startup.state = .operating) :
    Leads .cascade { s with zones := { s.zones with conditions := startConditions s, degraded := s.line.degraded } }
      (startZoneUnit s) := by
  refine leads_recountAllZones (leads_recountOwn .refl ho) ?_
  simpa using ho

/-- R109: what the recounts of the zone unit keep as it takes up its work. -/
theorem RecountKeeps.startZoneUnit {P : State → Prop} (h : RecountKeeps P)
    (hs : P (votesTaken
      { s with zones := { s.zones with conditions := startConditions s, degraded := s.line.degraded } })) :
    P (startZoneUnit s) :=
  List.foldlRecOn (motive := P) _ _ (h.recountOwn hs) fun _ ht z _ => h.recountZone z ht

/-- R73: the PRESENCE of a node whose sequencer stands in HALTED without a step fault. -/
theorem PlantOnly.presenceBody (h : PlantOnly s t) (hstate : t.sequencer.state = s.sequencer.state)
    (hfault : t.sequencer.stepFault = s.sequencer.stepFault) : presenceBody t = presenceBody s := by
  rw [h.frame, Machine.presenceBody, Machine.presenceBody]
  dsimp only
  rw [hstate, hfault]
  rfl

/-- R73: the first PRESENCE of operation waits, with the next deadline one period on. -/
theorem startPresence_places (s : State) :
    ∃ l : Line, startPresence s = { s with line := l } ∧ l.waits (.presence (presenceBody s)) = true
      ∧ l = { s.line with
          queue := l.queue, holding := l.holding, presenceDeadline := some (later s.time s.cfg.presencePeriod) } := by
  let r : State := { s with line := { s.line with presenceDeadline := some (later s.time s.cfg.presencePeriod) } }
  have hplaced := placePresence_places r
  exact ⟨_, hplaced, waits_placePresence r, rfl⟩

/-- R109, R156, R170: what the zone unit keeps of a plant that has taken up its work. -/
theorem startZoneUnit_keeps (ho : s.startup.state = .operating) (hs : TakenUp off on s)
    (hrelay : s.sirens.relay = s.sirens.summary.isEmpty) {f : OutFrame} (hf : f.kind ≠ .vote)
    (hwaits : s.line.waits f = true) :
    TakenUp off on (startZoneUnit s) ∧ (startZoneUnit s).keyAndFlag = s.keyAndFlag
      ∧ (startZoneUnit s).sirens.relay = (startZoneUnit s).sirens.summary.isEmpty
      ∧ (startZoneUnit s).zones.conditions = startConditions s ∧ (startZoneUnit s).line.waits f = true
      ∧ (startZoneUnit s).beyondZones = s.beyondZones := by
  have hcascade := startZoneUnit_cascade ho
  refine ⟨(recountKeeps_takenUp off on).startZoneUnit hs, ?_, hcascade.keepsRelay hrelay, hcascade.keepsReports.1, ?_,
    hcascade.beyondZones⟩
  · exact (recountAllZones_keeps steady_keyAndFlag _).trans (recountOwn_keeps steady_keyAndFlag _)
  · exact hcascade.waits hf hwaits

end

/-- R180: LOG_SCAN_COMPLETE at SCAN, part by part. -/
theorem exec_logScanComplete {s : State} (hstage : s.startup.stage = some .scan) :
    exec .logScanComplete s = .next (startZoneUnit (startPresence (plantStarted
      { s with startup := { s.startup with state := .operating, stage := none } }))) :=
  congrArg Host.Outcome.next (if_pos hstage)

/-- Settles O23: the plant takes up its work with the first reports and the start states of the doors (`plantStarted`),
the PRESENCE is placed, and no recount of the zone unit takes anything of that back (`startZoneUnit_keeps`). -/
theorem scanCompleteStartsOperation : Obligations.ScanCompleteStartsOperation := by
  intro s hstage hsequencer hdoors _ hrelay
  obtain ⟨s₁, hs₁⟩ : ∃ s₁, ({ s with startup := { s.startup with state := .operating, stage := none } } : State) = s₁ :=
    ⟨_, rfl⟩
  have hstage' := exec_logScanComplete hstage
  rw [hs₁] at hstage'
  have hreset : s₁.sequencer = Sequencer.reset := by
    rw [← hs₁]
    exact hsequencer
  have hop : s₁.startup.state = .operating := by rw [← hs₁]
  have htaken := takenUp_plantStarted (s := s₁) (by rw [hreset]; rfl) (by rw [← hs₁]; exact hdoors)
  obtain ⟨hkey, hfault⟩ := keyAndFlag_plantStarted hreset
  have hstands := relay_plantStarted hop (by rw [← hs₁]; exact hrelay)
  have hplant := plantOnly_plantStarted s₁
  obtain ⟨v, hv⟩ : ∃ v, plantStarted s₁ = v := ⟨_, rfl⟩
  rw [hv] at hstage' htaken hkey hfault hstands hplant
  have hbody : presenceBody v = presenceBody s₁ :=
    hplant.presenceBody (htaken.2.1.trans (by rw [hreset]; rfl)) (hfault.trans (by rw [hreset]; rfl))
  obtain ⟨l, hplaces, hwaits, hl⟩ := startPresence_places v
  rw [hplaces] at hstage'
  have hop' : v.startup.state = .operating := (congrArg (fun r : State => r.startup.state) hplant.frame :).trans hop
  obtain ⟨⟨hscanned, hhalted, hstates⟩, hkept, hrelayed, hconditions, hwaiting, hbeyond⟩ :=
    startZoneUnit_keeps (s := { v with line := l }) hop' htaken hstands (f := .presence (presenceBody v)) nofun hwaits
  obtain ⟨t, ht⟩ : ∃ t, startZoneUnit { v with line := l } = t := ⟨_, rfl⟩
  rw [ht] at hstage' hscanned hhalted hstates hkept hrelayed hconditions hwaiting hbeyond
  have hframe := hplant.frame
  rw [← hs₁] at hframe hbody
  have hstartup : t.startup = { s.startup with state := .operating, stage := none } :=
    (congrArg State.startup hbeyond :).trans (congrArg State.startup hframe :)
  have hdeadline : t.line.presenceDeadline = some (later s.time s.cfg.presencePeriod) := by
    have hline : t.line.presenceDeadline = l.presenceDeadline :=
      (congrArg (fun r : State => r.line.presenceDeadline) hbeyond :)
    rw [hline, hl, hframe]
    rfl
  refine ⟨t, hstage', hstartup, hscanned, ?_, hhalted, ?_, fun d => ?_, ?_, ?_, hdeadline, ?_, ?_⟩
  · have harray : v.log.array = s.log.array := by rw [hplant.array, ← hs₁]
    exact (congrArg (fun r : State => r.log.array) hbeyond :).trans harray
  · have hlevel : s₁.level .k1 = s.level .k1 := by rw [← hs₁]; rfl
    rw [← hlevel, ← hkey]
    exact (congrArg Prod.fst hkept :)
  · have hzones : s₁.doorZones d = s.doorZones d := by rw [← hs₁]; rfl
    rw [← hzones]
    exact ⟨fun hoff => Decidable.byContradiction fun h => (hstates d).2 h hoff, fun h => ((hstates d).1 h).1⟩
  · rw [hrelayed]
    exact isEmpty_iff_size _
  · rw [hconditions, hl, hframe]
    rfl
  · rw [hbody] at hwaiting
    exact hwaiting
  · have hline : t.line =
        { s.line with
          queue := t.line.queue, holding := t.line.holding
          presenceDeadline := some (later s.time s.cfg.presencePeriod) } := by
      have hrest : t.line.rest = l.rest := (congrArg State.line hbeyond :)
      rw [hl, hframe] at hrest
      exact (congrArg (fun k : Line => { k with queue := t.line.queue, holding := t.line.holding }) hrest :)
    rw [hstartup, hdeadline, ← hline]
    have hrest := congrArg (fun r : State =>
      { r with
        line := t.line, log := t.log, zones := t.zones, sequencer := t.sequencer, doors := t.doors
        sirens := t.sirens }) hbeyond
    rw [hframe] at hrest
    exact hrest

end Sys2Proof.Machine
end
